-- ==== Sys2Proof/Word.lean ====
section
/-! DEFINITION. The two word types of the DP208 and nothing else: a byte of a frame or a setting table, and
the 16 bits that a SAMPLE value carries (R14). Every other quantity of the manual is a number, an enumeration
or a list, and its type is said where it is declared. -/

namespace Sys2Proof

/-- One byte of a ring frame or of a setting table (Chapter 11). -/
abbrev Byte := BitVec 8

/-- The 16 bits a SAMPLE frame carries for a value; its reader gives it its sign (R14). -/
abbrev Word16 := BitVec 16

end Sys2Proof
end

