-- ==== Sys2Proof/Config.lean ====
section
/-! DEFINITION. What the manual fixes once for the part (its time units) and what it leaves open (the free
values). A free value is a constant with no body: nothing can be proved of which value it is. -/

namespace Sys2Proof.Config

/-- The model's unit of time is 1/256 of a cycle of the 25 MHz reference clock CLK, so that a CLK cycle, a
microsecond, a millisecond and a P256 unit (125 µs / 256) are all whole numbers of it (notes/assumptions/2). -/
abbrev unitsPerClk : Nat := 256

/-- 25 CLK cycles. -/
abbrev unitsPerUs : Nat := 6400

/-- 1000 µs. -/
abbrev unitsPerMs : Nat := 6400000

/-- One P256 unit: 1/256 of the 125 µs sample period (00_scope, Quantities). -/
abbrev unitsPerP256 : Nat := 3125

/-- Microseconds in a day; station time returns to 0 here (R193). -/
abbrev usPerDay : Nat := 86400000000

/-- FREE VALUE: a byte the manual does not give, taken fresh at each use (State.freeCount). Used for the tag
that an answer echoes when the request carried none (notes/assumptions/12). -/
opaque freeByte : Nat → Byte

/-- FREE VALUE: a number the manual does not give, taken fresh at each use. Used for how many clamps a
validation abandoned by RESTART had already made (R146, notes/assumptions/13). -/
opaque freeNat : Nat → Nat

/-- FREE VALUE: the length in ms of a wait with dead_time[k] when the plan has no such dead time (R89,
notes/assumptions/37). -/
opaque deadTimeBeyond : Nat → Nat

/-- FREE VALUE: the byte by which an answer names a field of a setting table. R144 and R145 have the answer
name "table, entry and field"; Chapter 11 gives no code for the field (notes/assumptions/14). The arguments
are the table id and the field's byte offset within its entry. -/
opaque fieldCode : Nat → Nat → Byte

end Sys2Proof.Config
end

