-- ==== Sys2Proof/Syntax.lean ====
section
/-! DEFINITION. The commands of the DP208: one constructor of Instr for each row of spec/opcode_table.json,
in the table's order, with the operands the row's rule gives it. A block has no instruction words: a command
is an arrival at a pin (a frame, an intertrip event), a timer of the part running out, or a block taking what
another block has handed it. -/

namespace Sys2Proof

/-- A ring frame whose CRC and framing have been judged: the fields of section 11.1. -/
structure Frame where
  dst     : Byte
  src     : Byte
  type    : BitVec 4
  flags   : BitVec 4
  payload : List Byte
  deriving DecidableEq, Repr

/-- The 18 switching devices of Chapter 3. Feeder f of the manual is `f - 1` here. -/
inductive Device where
  | fm (f : Fin 8)
  | ft (f : Fin 8)
  | dcm
  | acm
  deriving DecidableEq, Repr

/-- The two wires of the intertrip line (section 4.2). -/
inductive Wire where
  | ck
  | dt
  deriving DecidableEq, Repr

/-- Which wires are held low when the low timer runs out (R69). -/
inductive Held where
  | ck
  | dt
  | both
  deriving DecidableEq, Repr

/-- How far INTERTRIP_MESSAGE_RECEIVED follows a message (R71): the sample of the clock under way, with the bit read on
DT; or the message up to its end, with the bits of its clocks 1..14. -/
inductive Reception where
  | sample (bit : Bool)
  | whole (bits : BitVec 14)
  deriving DecidableEq, Repr

/-- The commands. `src` and `tag` of a management request are the source address and the tag of its MANAGE
frame, `params` its parameter bytes as they came (section 11.2). For the rows that split READ_COUNTERS and
OPERATE, the byte that selects the row (the group, the action) is the row itself; the other parameter bytes
stand as operands, and `extra` holds any bytes beyond those the code requires (R189 step 3). -/
inductive Instr where
  | coldReset (addr : BitVec 6) (gw : BitVec 2)
  | ringFrame (bytes : List Byte)
  | sampleFrame (frame : Frame)
  | channelArrival (c : Fin 24)
  | stalenessTimerExpiry (c : Fin 24)
  | evaluatorArrival (f : Fin 8)
  | sequencerArrival (f : Fin 8)
  | trackerArrival
  | rectCurrentArrival
  | rectBusArrival
  | captureArrival
  | positionFrame (frame : Frame)
  | positionAgeExpiry (d : Device)
  | repeatTimerExpiry (d : Device)
  | openTimerExpiry (d : Device)
  | closeTimerExpiry (d : Device)
  | deadTimeExpiry (f : Fin 8)
  | settleTimerExpiry (f : Fin 8)
  | reclaimExpiry (f : Fin 8)
  | holdTimerExpiry (f : Fin 8)
  | busWaitExpiry (f : Fin 8)
  | stopStepTimerExpiry
  | firingDue
  | gatePulseEnd (g : Fin 12)
  | fillTimerExpiry (slot : Fin 4)
  | validationComplete
  | ringDownTimerExpiry
  | ringOutFrameEnd
  | dayRollover
  | intertripMessageReceived (r : Reception) (restart : Bool)
  | messageAbandoned (restart : Bool)
  | lineLowEvent (w : Wire)
  | lowTimerExpiry (held : Held)
  | busFreeTimerExpiry
  | intertripMessageStart
  | arbitrationLost (clock : Fin 14)
  | sendAttemptEnd (ack : Bool)
  | status (src tag : Byte) (params : List Byte)
  | readFeeder (src tag : Byte) (params : List Byte)
  | readRectifier (src tag : Byte) (params : List Byte)
  | readChannel (src tag : Byte) (params : List Byte)
  | readCountersRing (src tag option selector : Byte) (extra : List Byte)
  | readCountersStreams (src tag option selector : Byte) (extra : List Byte)
  | readCountersIntertrip (src tag option selector : Byte) (extra : List Byte)
  | readCountersReports (src tag option selector : Byte) (extra : List Byte)
  | readCountersCapture (src tag option selector : Byte) (extra : List Byte)
  | readCountersFiring (src tag option selector : Byte) (extra : List Byte)
  | writeTable (src tag : Byte) (params : List Byte)
  | readTable (src tag : Byte) (params : List Byte)
  | validate (src tag : Byte) (params : List Byte)
  | activate (src tag : Byte) (params : List Byte)
  | operateOpen (src tag target : Byte) (extra : List Byte)
  | operateClose (src tag target : Byte) (extra : List Byte)
  | resetLockout (src tag target : Byte) (extra : List Byte)
  | closeAc (src tag target : Byte) (extra : List Byte)
  | deblock (src tag target : Byte) (extra : List Byte)
  | block (src tag target : Byte) (extra : List Byte)
  | stopFull (src tag target : Byte) (extra : List Byte)
  | resetRect (src tag target : Byte) (extra : List Byte)
  | readReports (src tag : Byte) (params : List Byte)
  | captureList (src tag : Byte) (params : List Byte)
  | readCapture (src tag : Byte) (params : List Byte)
  | releaseCapture (src tag : Byte) (params : List Byte)
  | triggerCapture (src tag : Byte) (params : List Byte)
  | setTime (src tag : Byte) (params : List Byte)
  | restart (src tag : Byte) (params : List Byte)
  | unknownRequest (src tag code : Byte) (params : List Byte)
  | bothWiresHigh
  deriving DecidableEq, Repr

end Sys2Proof
end

