-- ==== Sys2Proof/WellFormed.lean ====
section
/-! DEFINITION. Which commands can come: a frame's payload is at most 64 bytes and its type is its row's, a request's
parameters fit a MANAGE frame, a frame at ring-in begins with the start delimiter, and an unknown request's code is
none of section 11.2's. Nothing in the machine refuses a command that is not well-formed. -/

namespace Sys2Proof

/-- A payload is at most 64 bytes (section 11.1). -/
def Frame.wellFormed (f : Frame) : Bool := f.payload.length ≤ 64

/-- Request code, tag and parameters fit a payload. -/
def fitsManage (params : List Byte) : Bool := params.length ≤ 62

/-- The codes of section 11.2. -/
def definedCode (code : Byte) : Bool := 1 ≤ code.toNat && code.toNat ≤ 0x11

/-- A command that can come. -/
def Instr.wellFormed : Instr → Bool
  | .coldReset _ _ => true
  | .ringFrame bytes => bytes.head? = some 0xA5
  | .sampleFrame frame => frame.wellFormed && frame.type = 1
  | .channelArrival _ => true
  | .stalenessTimerExpiry _ => true
  | .evaluatorArrival _ => true
  | .sequencerArrival _ => true
  | .trackerArrival => true
  | .rectCurrentArrival => true
  | .rectBusArrival => true
  | .captureArrival => true
  | .positionFrame frame => frame.wellFormed && frame.type = 2
  | .positionAgeExpiry _ => true
  | .repeatTimerExpiry _ => true
  | .openTimerExpiry _ => true
  | .closeTimerExpiry _ => true
  | .deadTimeExpiry _ => true
  | .settleTimerExpiry _ => true
  | .reclaimExpiry _ => true
  | .holdTimerExpiry _ => true
  | .busWaitExpiry _ => true
  | .stopStepTimerExpiry => true
  | .firingDue => true
  | .gatePulseEnd _ => true
  | .fillTimerExpiry _ => true
  | .validationComplete => true
  | .ringDownTimerExpiry => true
  | .ringOutFrameEnd => true
  | .dayRollover => true
  | .intertripMessageReceived (.sample _) ends => !ends
  | .intertripMessageReceived (.whole _) _ => true
  | .messageAbandoned _ => true
  | .lineLowEvent _ => true
  | .lowTimerExpiry _ => true
  | .busFreeTimerExpiry => true
  | .intertripMessageStart => true
  | .arbitrationLost _ => true
  | .sendAttemptEnd _ => true
  | .status _ _ params => fitsManage params
  | .readFeeder _ _ params => fitsManage params
  | .readRectifier _ _ params => fitsManage params
  | .readChannel _ _ params => fitsManage params
  | .readCountersRing _ _ option selector extra => fitsManage (1 :: option :: selector :: extra)
  | .readCountersStreams _ _ option selector extra => fitsManage (2 :: option :: selector :: extra)
  | .readCountersIntertrip _ _ option selector extra => fitsManage (3 :: option :: selector :: extra)
  | .readCountersReports _ _ option selector extra => fitsManage (4 :: option :: selector :: extra)
  | .readCountersCapture _ _ option selector extra => fitsManage (5 :: option :: selector :: extra)
  | .readCountersFiring _ _ option selector extra => fitsManage (6 :: option :: selector :: extra)
  | .writeTable _ _ params => fitsManage params
  | .readTable _ _ params => fitsManage params
  | .validate _ _ params => fitsManage params
  | .activate _ _ params => fitsManage params
  | .operateOpen _ _ target extra => fitsManage (target :: 1 :: extra)
  | .operateClose _ _ target extra => fitsManage (target :: 2 :: extra)
  | .resetLockout _ _ target extra => fitsManage (target :: 3 :: extra)
  | .closeAc _ _ target extra => fitsManage (target :: 4 :: extra)
  | .deblock _ _ target extra => fitsManage (target :: 5 :: extra)
  | .block _ _ target extra => fitsManage (target :: 6 :: extra)
  | .stopFull _ _ target extra => fitsManage (target :: 7 :: extra)
  | .resetRect _ _ target extra => fitsManage (target :: 8 :: extra)
  | .readReports _ _ params => fitsManage params
  | .captureList _ _ params => fitsManage params
  | .readCapture _ _ params => fitsManage params
  | .releaseCapture _ _ params => fitsManage params
  | .triggerCapture _ _ params => fitsManage params
  | .setTime _ _ params => fitsManage params
  | .restart _ _ params => fitsManage params
  | .unknownRequest _ _ code params => !definedCode code && fitsManage params
  | .bothWiresHigh => true

end Sys2Proof
end

