-- ==== Sys2Proof/Decode.lean ====
section
/-! DEFINITION. The rows of spec/opcode_table.json give no bits: no word spells a command. What does spell a command is
a ring frame: the MANAGE frame that carries each management request (section 11.2). -/

namespace Sys2Proof

/-- The command that a word spells by the table's bits: none, since no row gives bits. -/
def decodeTableWord (_nbits _w : Nat) : Option Instr := none

/-- The MANAGE frame of a request to a part with an own address (sections 11.1, 11.2). -/
def manageFrame (own src tag code : Byte) (params : List Byte) : Frame :=
  { dst := own, src := src, type := 4, flags := 0, payload := code :: tag :: params }

/-- The ring frame whose arrival at a part with an own address a command is; none for the commands that are no
frame's arrival, and for RING_FRAME, which is any bytes. -/
def frameOfInstr (own : Byte) : Instr → Option Frame
  | .coldReset _ _ => none
  | .ringFrame _ => none
  | .sampleFrame frame => some frame
  | .channelArrival _ => none
  | .stalenessTimerExpiry _ => none
  | .evaluatorArrival _ => none
  | .sequencerArrival _ => none
  | .trackerArrival => none
  | .rectCurrentArrival => none
  | .rectBusArrival => none
  | .captureArrival => none
  | .positionFrame frame => some frame
  | .positionAgeExpiry _ => none
  | .repeatTimerExpiry _ => none
  | .openTimerExpiry _ => none
  | .closeTimerExpiry _ => none
  | .deadTimeExpiry _ => none
  | .settleTimerExpiry _ => none
  | .reclaimExpiry _ => none
  | .holdTimerExpiry _ => none
  | .busWaitExpiry _ => none
  | .stopStepTimerExpiry => none
  | .firingDue => none
  | .gatePulseEnd _ => none
  | .fillTimerExpiry _ => none
  | .validationComplete => none
  | .ringDownTimerExpiry => none
  | .ringOutFrameEnd => none
  | .dayRollover => none
  | .intertripMessageReceived _ _ => none
  | .messageAbandoned _ => none
  | .lineLowEvent _ => none
  | .lowTimerExpiry _ => none
  | .busFreeTimerExpiry => none
  | .intertripMessageStart => none
  | .arbitrationLost _ => none
  | .sendAttemptEnd _ => none
  | .status src tag params => some (manageFrame own src tag 0x01 params)
  | .readFeeder src tag params => some (manageFrame own src tag 0x02 params)
  | .readRectifier src tag params => some (manageFrame own src tag 0x03 params)
  | .readChannel src tag params => some (manageFrame own src tag 0x04 params)
  | .readCountersRing src tag option selector extra =>
    some (manageFrame own src tag 0x05 (1 :: option :: selector :: extra))
  | .readCountersStreams src tag option selector extra =>
    some (manageFrame own src tag 0x05 (2 :: option :: selector :: extra))
  | .readCountersIntertrip src tag option selector extra =>
    some (manageFrame own src tag 0x05 (3 :: option :: selector :: extra))
  | .readCountersReports src tag option selector extra =>
    some (manageFrame own src tag 0x05 (4 :: option :: selector :: extra))
  | .readCountersCapture src tag option selector extra =>
    some (manageFrame own src tag 0x05 (5 :: option :: selector :: extra))
  | .readCountersFiring src tag option selector extra =>
    some (manageFrame own src tag 0x05 (6 :: option :: selector :: extra))
  | .writeTable src tag params => some (manageFrame own src tag 0x06 params)
  | .readTable src tag params => some (manageFrame own src tag 0x07 params)
  | .validate src tag params => some (manageFrame own src tag 0x08 params)
  | .activate src tag params => some (manageFrame own src tag 0x09 params)
  | .operateOpen src tag target extra => some (manageFrame own src tag 0x0A (target :: 1 :: extra))
  | .operateClose src tag target extra => some (manageFrame own src tag 0x0A (target :: 2 :: extra))
  | .resetLockout src tag target extra => some (manageFrame own src tag 0x0A (target :: 3 :: extra))
  | .closeAc src tag target extra => some (manageFrame own src tag 0x0A (target :: 4 :: extra))
  | .deblock src tag target extra => some (manageFrame own src tag 0x0A (target :: 5 :: extra))
  | .block src tag target extra => some (manageFrame own src tag 0x0A (target :: 6 :: extra))
  | .stopFull src tag target extra => some (manageFrame own src tag 0x0A (target :: 7 :: extra))
  | .resetRect src tag target extra => some (manageFrame own src tag 0x0A (target :: 8 :: extra))
  | .readReports src tag params => some (manageFrame own src tag 0x0B params)
  | .captureList src tag params => some (manageFrame own src tag 0x0C params)
  | .readCapture src tag params => some (manageFrame own src tag 0x0D params)
  | .releaseCapture src tag params => some (manageFrame own src tag 0x0E params)
  | .triggerCapture src tag params => some (manageFrame own src tag 0x0F params)
  | .setTime src tag params => some (manageFrame own src tag 0x10 params)
  | .restart src tag params => some (manageFrame own src tag 0x11 params)
  | .unknownRequest src tag code params => some (manageFrame own src tag code params)
  | .bothWiresHigh => none

end Sys2Proof
end

