-- ==== Sys2Proof/Machine/State.lean ====
section
/-! DEFINITION. The state of the DP208: every block's registers, queues, timers and pins, as plain data, and
the state after a cold reset. A running timer holds the time at which it runs out (in Config's units, on the
part's own time base), a stopped one is none. Counters are plain numbers that their own rule saturates. -/

namespace Sys2Proof.Machine

/-! ## Names -/

/-- Quality mark of an instant (section 1.3). -/
inductive Mark where
  | good
  | saturated
  | invalid
  | missing
  deriving DecidableEq, Repr

/-- One instant of a history or a recording. A MISSING instant holds value 0. -/
structure Instant where
  value : Word16
  mark  : Mark
  deriving DecidableEq, Repr

/-- Channel states, section 1.3. -/
inductive ChanState where
  | absent
  | recovering
  | valid
  | stale
  deriving DecidableEq, Repr

/-- The blocks that can stand on a channel's consumer list (R13). -/
inductive Consumer where
  | evaluator (f : Fin 8)
  | sequencer (f : Fin 8)
  | rectifier
  | capture
  deriving DecidableEq, Repr

/-- Evaluator states, R22. -/
inductive EvState where
  | off
  | quiet
  | rising
  | tripping
  | degraded
  deriving DecidableEq, Repr

/-- Positions of a switching device, R43 (`opened` is the manual's OPEN). -/
inductive Position where
  | unknown
  | opened
  | closed
  | travel
  | faulty
  deriving DecidableEq, Repr

/-- A device's outstanding command, R43. -/
inductive Command where
  | none
  | toOpen
  | toClose
  deriving DecidableEq, Repr

/-- Requesters of a command, R43. -/
inductive Requester where
  | feederProtection
  | sequencer
  | rectifier
  | operator
  | escalation
  deriving DecidableEq, Repr

/-- Failure flags, R43. -/
inductive FailFlag where
  | none
  | openFail
  | closeFail
  deriving DecidableEq, Repr

/-- Trigger causes (section 11.4); the trip causes of evaluators, sequencers and the rectifier are among them. -/
inductive Cause where
  | rising
  | instant
  | deltaI
  | definite
  | channelLoss
  | intertrip
  | breakerFail
  | overcurrent
  | phaseLost
  | currentChannel
  | acOpened
  | feederBf
  | dcbCloseFail
  | stopIncomplete
  | manual
  deriving DecidableEq, Repr

/-- Intertrip line states, R65. -/
inductive LineState where
  | waiting
  | free
  | receiving
  | sending
  | fault
  deriving DecidableEq, Repr

/-- Intertrip message kinds, R70. -/
inductive Kind where
  | trip
  | hold
  | release
  deriving DecidableEq, Repr

/-- Sequence states, R84. -/
inductive SeqState where
  | idleClosed
  | idleOpen
  | deadTime
  | held
  | waitBus
  | testing
  | measuring
  | testClear
  | closing
  | reclaim
  | lockout
  deriving DecidableEq, Repr

/-- Outcomes of a line test (section 5.5). -/
inductive TestOutcome where
  | healthy
  | faulted
  | live
  | busLow
  | measurementLost
  deriving DecidableEq, Repr

/-- Clear purpose of TEST_CLEAR, R84. -/
inductive ClearPurpose where
  | outcome (o : TestOutcome)
  | hold
  deriving DecidableEq, Repr

/-- The step that resumes from WAIT_BUS, R84. -/
inductive WaitingStep where
  | test
  | close
  deriving DecidableEq, Repr

/-- Lockout causes, section 5.7. -/
inductive LockoutCause where
  | noAttempts
  | testFault
  | retrip
  | busLow
  | noProtection
  | measurementLost
  | testContactor
  | breakerFail
  | closeFail
  | closeRefused
  | channelLoss
  deriving DecidableEq, Repr

/-- Rectifier states, R111. -/
inductive RectState where
  | off
  | blocked
  | starting
  | running
  | stopping
  | tripped
  deriving DecidableEq, Repr

/-- Deblock wait, R111. -/
inductive DeblockWait where
  | none
  | dcm
  | crossing
  deriving DecidableEq, Repr

/-- Tracker states, R111. -/
inductive TrackState where
  | unlocked
  | locking
  | locked
  deriving DecidableEq, Repr

/-- The two setting banks. -/
inductive BankId where
  | a
  | b
  deriving DecidableEq, Repr

/-- Bank states, R139. -/
inductive BankState where
  | unchecked
  | validating
  | valid
  | invalid
  | active
  deriving DecidableEq, Repr

/-- Capture slot states, R166. -/
inductive SlotState where
  | free
  | armed
  | filling
  | held
  | reading
  deriving DecidableEq, Repr

/-- Ring states, R186. -/
inductive RingState where
  | up
  | down
  deriving DecidableEq, Repr

/-- Channel-loss action of a feeder, section 2.1. -/
inductive LossAction where
  | hold
  | trip
  deriving DecidableEq, Repr

/-- Report classes, most severe first (section 8.1). -/
inductive ReportClass where
  | trip
  | breaker
  | rectifier
  | intertrip
  | reclose
  | supervision
  | settings
  | info
  deriving DecidableEq, Repr

/-- The 42 report codes, in the row order of section 8.5. -/
inductive ReportCode where
  | feederTrip
  | rectTrip
  | uncommanded
  | positionFaulty
  | positionUnknown
  | commandWithdrawn
  | openFail
  | closeFail
  | openedLate
  | acOpened
  | dcLost
  | started
  | running
  | blockDone
  | stopDone
  | deblockCancelled
  | trackerLocked
  | trackerUnlocked
  | regulatorHold
  | regulatorResumed
  | currentLimit
  | messageReceived
  | unanswered
  | lineFault
  | lineRestored
  | sequenceStart
  | testResult
  | recloseSuccess
  | lockout
  | abandoned
  | lockoutReset
  | channelStale
  | channelValid
  | feederDegraded
  | ringDown
  | ringRestored
  | clamped
  | active
  | eventEnd
  | captureDone
  | captureMissed
  | restart
  deriving DecidableEq, Repr

/-- Report and trigger sources (section 11.4). -/
inductive Source where
  | feeder (f : Fin 8)
  | rectifier
  | intertrip
  | bank
  | capture
  | part
  | channel (c : Fin 24)
  deriving DecidableEq, Repr

/-- Outcome of a management request (section 10.4). -/
inductive ReplyOutcome where
  | done
  | busy
  | refused
  deriving DecidableEq, Repr

/-- Reason of a refusal (section 11.1). -/
inductive Reason where
  | none
  | notPermitted
  | state
  | range
  | switchPending
  | noBank
  | badLength
  | unknown
  deriving DecidableEq, Repr

/-! ## Adopted settings (Chapter 11 gives the tables they are read from) -/

/-- Feeder settings record, table 2. -/
structure FeederSettings where
  inService : Bool
  chan      : Fin 24
  lineChan  : Fin 24
  lossAction : LossAction
  captureOnRising : Bool
  mainUnit  : Byte
  mainElem  : Byte
  testUnit  : Byte
  testElem  : Byte
  iMax      : Nat
  dStart    : Nat
  dStop     : Nat
  deltaISet : Nat
  tDelay    : Nat
  tMax      : Nat
  stopHold  : Nat
  iDt       : Nat
  tDt       : Nat
  bfTime    : Nat
  closeTime : Nat
  deriving DecidableEq, Repr

/-- Reclose plan, table 3 (reclaim, hold and bus-wait in seconds, the rest of the times in ms). -/
structure Plan where
  limit     : Nat
  dead      : List Nat
  reclaim   : Nat
  rTest     : Nat
  rMin      : Nat
  uTestMin  : Nat
  uLive     : Nat
  settle    : Nat
  hold      : Nat
  busWait   : Nat
  deriving DecidableEq, Repr

/-- Rectifier settings, table 4. -/
structure RectSettings where
  busChan   : Fin 24
  curChan   : Fin 24
  uabChan   : Fin 24
  dcmUnit   : Byte
  dcmElem   : Byte
  acmUnit   : Byte
  acmElem   : Byte
  gain      : Nat
  uSet      : Nat
  droop     : Nat
  alphaMin  : Nat
  alphaMax  : Nat
  delta     : Nat
  iLim      : Nat
  iRMax     : Nat
  dcFail    : Nat
  deriving DecidableEq, Repr

/-- Intertrip table, table 5; bus-free time in bit times. -/
structure LineTable where
  enable   : Bool
  busFree  : Nat
  retry    : Nat
  sections : Vector Byte 8
  deriving DecidableEq, Repr

/-- Capture settings of table 6. -/
structure CaptureSettings where
  chans     : List (Fin 24)
  overwrite : Bool
  deriving DecidableEq, Repr

/-! ## The blocks -/

/-- Time Base (R193). `now` is the part's own time base, the CLK count since cold reset, in 1/256 of a cycle. -/
structure TimeBase where
  now    : Nat
  day    : Nat
  micros : Nat
  unset  : Bool
  deriving DecidableEq, Repr

/-- One value for each of the 18 switching devices. -/
structure PerDevice (α : Type) where
  fm  : Vector α 8
  ft  : Vector α 8
  dcm : α
  acm : α
  deriving DecidableEq, Repr

/-- A built answer (R160, R196). -/
structure Answer where
  outcome : ReplyOutcome
  reason  : Reason
  queued  : Nat
  data    : List Byte
  deriving DecidableEq, Repr

/-- A place of the answer queue (R188): unready while `answer` is none; `begun` counts the ANSWER frames of it
that ring-out has begun to send. -/
structure AnswerPlace where
  dst    : Byte
  tag    : Byte
  answer : Option Answer
  begun  : Nat
  deriving DecidableEq, Repr

/-- The Ring Port's eleven counters, in the order of R192. -/
structure RingCounters where
  good      : Nat
  crc       : Nat
  framing   : Nat
  returned  : Nat
  relayed   : Nat
  drops     : Nat
  unused    : Nat
  commands  : Nat
  answers   : Nat
  overruns  : Nat
  downs     : Nat
  deriving DecidableEq, Repr

/-- Ring Port (Chapter 10). `turn` is the place in FM1..FM8, FT1..FT8, DCM, ACM at which the arbiter looks first. -/
structure RingPort where
  own      : Byte
  mgmt     : Byte
  relay    : List Frame
  answers  : List AnswerPlace
  claims   : PerDevice (Option Frame)
  turn     : Nat
  out      : Option Frame
  ring     : RingState
  downAt   : Option Nat
  counters : RingCounters
  deriving DecidableEq, Repr

/-- An entry of the adopted stream table and the Matcher's state for it (R1). Unit address 0: unused.
`resynced`: the last sequence count was made absent by R4. -/
structure StreamEntry where
  unit     : Byte
  stream   : Byte
  assign   : List (Option (Fin 24))
  last     : Option Byte
  resynced : Bool
  run      : Nat
  accepted : Nat
  gaps     : Nat
  duplicates : Nat
  outOfOrder : Nat
  short    : Nat
  resyncs  : Nat
  deriving DecidableEq, Repr

/-- Stream Matcher (R1). -/
structure Matcher where
  entries   : Vector StreamEntry 24
  unmatched : Nat
  malformed : Nat
  deriving DecidableEq, Repr

/-- An arrival handed to the Channel Store: missing instants, then the frame's own (R5). -/
structure Arrival where
  missing : Nat
  own     : Instant
  deriving DecidableEq, Repr

/-- The copy of an arrival handed to a consumer (R14). -/
structure Copy where
  chan    : Fin 24
  missing : Nat
  own     : Instant
  before  : ChanState
  after   : ChanState
  hist    : List Instant
  deriving DecidableEq, Repr

/-- A channel record (section 1.3). `waiting` holds arrivals handed over and not yet filed. -/
structure Channel where
  state      : ChanState
  last       : Instant
  hist       : List Instant
  goodRun    : Nat
  staleAt    : Option Nat
  samples    : Nat
  invalid    : Nat
  missing    : Nat
  staleMoves : Nat
  consumers  : List Consumer
  waiting    : List Arrival
  deriving DecidableEq, Repr

/-- Feeder Evaluator record (R22), with the settings it has adopted and the copies it has not yet taken. -/
structure Evaluator where
  settings  : Option FeederSettings
  state     : EvState
  posView   : Position
  chanView  : ChanState
  instCount : Nat
  dtCount   : Nat
  iBase     : Int
  elapsed   : Nat
  hold      : Nat
  peak      : Int
  lastTrip  : Option (Cause × Int)
  pendingTrip : Option Cause
  inbox     : List Copy
  deriving DecidableEq, Repr

/-- Switching-device record (R43). `cmdStart` is in ms of the millisecond base. -/
structure DevRecord where
  addr      : Option (Byte × Byte)
  pos       : Position
  ageAt     : Option Nat
  cmd       : Command
  requester : Option Requester
  cmdTimer  : Option Nat
  cmdStart  : Option Nat
  repeatAt  : Option Nat
  flag      : FailFlag
  deriving DecidableEq, Repr

/-- Transmit queue entry (R65). -/
structure TxEntry where
  code     : Byte
  kind     : Kind
  attempts : Nat
  changed  : Bool
  deriving DecidableEq, Repr

/-- The Intertrip Controller's eight counters (R65). -/
structure LineCounters where
  sent       : Nat
  acked      : Nat
  unanswered : Nat
  losses     : Nat
  received   : Nat
  checkErrors : Nat
  kind11     : Nat
  faults     : Nat
  deriving DecidableEq, Repr

/-- Cause of a state notice (R15). -/
inductive NoticeCause where
  | staleness
  | adoption
  deriving DecidableEq, Repr

/-- R15: a state notice, handed to each consumer of a channel whose state changes other than by filing. -/
structure StateNotice where
  chan  : Fin 24
  old   : ChanState
  new   : ChanState
  cause : NoticeCause
  deriving DecidableEq, Repr

/-- Intertrip Controller (R65). `freeSince`: when the running bus-free timer started. `clocks`: the clocks begun since
the start of the message being received or sent. `heard`: the bits read of the message being received. `inFlight`: the
14 bits being sent. `ckLow`, `dtLow`: the wires that are low. `driveCk`, `driveDt`: what this part drives low.
`accepted`: section code and kind of the message being received, from its acceptance at clock 14 until it is applied
(R72, notes/assumptions/22). `phaseAt`: the end of this part's own low or high time as a contender, or of the 50 µs
after its start (R66, R70). -/
structure LineCtl where
  table     : Option LineTable
  state     : LineState
  freeSince : Option Nat
  lowAt     : Option Nat
  queue     : List TxEntry
  clocks    : Nat
  heard     : List Bool
  inFlight  : List Bool
  ckLow     : Bool
  dtLow     : Bool
  driveCk   : Bool
  driveDt   : Bool
  accepted  : Option (Byte × Kind)
  phaseAt   : Option Nat
  counters  : LineCounters
  deriving DecidableEq, Repr

/-- Last test result (R84). -/
structure TestResult where
  outcome : TestOutcome
  r       : Option Nat
  uB      : Option Nat
  uL      : Option Nat
  day     : Nat
  micros  : Nat
  unset   : Bool
  deriving DecidableEq, Repr

/-- Reclose Sequencer record (R84), with its adopted plan and the copies it has not yet taken. -/
structure Sequencer where
  plan      : Option Plan
  state     : SeqState
  attempts  : Nat
  limit     : Nat
  noted     : Option Cause
  hold      : Bool
  holdAt    : Option Nat
  timerAt   : Option Nat
  busWaitAt : Option Nat
  waitStep  : Option WaitingStep
  busSum    : Nat
  busCount  : Nat
  lineSum   : Nat
  lineCount : Nat
  purpose   : Option ClearPurpose
  backingOff : Bool
  lockCause : Option LockoutCause
  lastTest  : Option TestResult
  inbox     : List Copy
  deriving DecidableEq, Repr

/-- A pending firing (R129): gate output, due time on the own time base, and whether it was already past
when it was placed. -/
structure Firing where
  gate : Fin 12
  due  : Int
  late : Bool
  deriving DecidableEq, Repr

/-- The six firing counters, in the order of R136. -/
structure FiringCounters where
  emitted    : Nat
  suppressed : Nat
  dropped    : Nat
  late       : Nat
  crossings  : Nat
  rejected   : Nat
  deriving DecidableEq, Repr

/-- The last crossing taken by the tracker: its time (mod 2^40) and the instant count at which it was taken. -/
structure Crossing where
  time : BitVec 40
  at_  : BitVec 32
  deriving DecidableEq, Repr

/-- The phase tracker (R111, R125). -/
structure Tracker where
  state     : TrackState
  count     : BitVec 32
  last      : Option Crossing
  goodCount : Nat
  p256      : Nat
  deriving DecidableEq, Repr

/-- The stop window of stop step 2 (R118). -/
structure StopWindow where
  sum     : Int
  usable  : Nat
  count   : Nat
  timerAt : Option Nat
  deriving DecidableEq, Repr

/-- The cycle sums (R133), all 32 bits wide. -/
structure CycleSums where
  busSum   : BitVec 32
  busCount : BitVec 32
  curSum   : BitVec 32
  curCount : BitVec 32
  deriving DecidableEq, Repr

/-- Rectifier Group Controller (R111). `gates g` is the end time of output G(g+1)'s pulse while it is high. -/
structure Rectifier where
  settings  : Option RectSettings
  state     : RectState
  wait      : DeblockWait
  stopStep  : Nat
  window    : StopWindow
  lastTrip  : Option (Cause × Int)
  tracker   : Tracker
  alpha     : Nat
  sums      : CycleSums
  uAvg      : Nat
  iAvg      : Int
  holdFlag  : Bool
  limitFlag : Bool
  overCount : Nat
  schedule  : List Firing
  lineRec   : Vector (Option Int) 12
  counters  : FiringCounters
  gateEn    : Bool
  gates     : Vector (Option Nat) 12
  uabIn     : List Copy
  curIn     : List Copy
  busIn     : List Copy
  deriving DecidableEq, Repr

/-- A field of a setting table: table id, entry from 1, and the field's byte offset within its entry. -/
structure FieldRef where
  table : Nat
  entry : Nat
  field : Nat
  deriving DecidableEq, Repr

/-- Last validation (R139). -/
structure LastValidation where
  valid  : Bool
  clamps : Nat
  first  : Option FieldRef
  deriving DecidableEq, Repr

/-- The running validator's request (R143). -/
structure ValidatorJob where
  src : Byte
  tag : Byte
  deriving DecidableEq, Repr

/-- Setting Bank Store (R139). -/
structure BankStore where
  bankA   : List Byte
  bankB   : List Byte
  stateA  : BankState
  stateB  : BankState
  active  : Option BankId
  mask    : Vector Bool 13
  target  : Option BankId
  validator : Option ValidatorJob
  lastVal : Option LastValidation
  deriving DecidableEq, Repr

/-- A report entry (R154); its class is its code's. -/
structure Report where
  code   : ReportCode
  source : Source
  cause  : Option Nat
  value  : Option Int
  slot   : Option (Fin 4)
  day    : Nat
  micros : Nat
  unset  : Bool
  deriving DecidableEq, Repr

/-- Report Queue (Chapter 8). -/
structure ReportQueue where
  queue     : List Report
  mask      : Option Byte
  occurred  : Vector Nat 8
  accepted  : BitVec 32
  read      : BitVec 32
  displaced : BitVec 32
  dropped   : BitVec 32
  deriving DecidableEq, Repr

/-- One channel position of a slot (R166): the pre-trigger instants and then the post-trigger ones. -/
structure SlotPos where
  chan  : Fin 24
  pre   : Nat
  post  : Nat
  insts : List Instant
  deriving DecidableEq, Repr

/-- An entry of a slot's trigger list (R166). -/
structure Trigger where
  cause  : Cause
  source : Source
  day    : Nat
  micros : Nat
  unset  : Bool
  index  : Nat
  deriving DecidableEq, Repr

/-- A capture slot (R166). -/
structure Slot where
  state     : SlotState
  positions : List SlotPos
  triggers  : List Trigger
  extra     : Nat
  truncated : Bool
  fillAt    : Option Nat
  deriving DecidableEq, Repr

/-- The Capture Unit's six counters (R178). -/
structure CaptureCounters where
  fills      : Nat
  merged     : Nat
  beyond     : Nat
  overwrites : Nat
  missed     : Nat
  truncated  : Nat
  deriving DecidableEq, Repr

/-- Capture Unit (R166). -/
structure CaptureUnit where
  settings : Option CaptureSettings
  slots    : Vector Slot 4
  order    : List (Fin 4)
  counters : CaptureCounters
  inbox    : List Copy
  deriving DecidableEq, Repr

/-- The machine. `pending` is the queue of commands waiting, first in first out; `freeCount` is the model's
own count of free values taken (notes/assumptions/12). -/
structure State where
  time         : TimeBase
  ring         : RingPort
  matcher      : Matcher
  chans        : Vector Channel 24
  evs          : Vector Evaluator 8
  devs         : PerDevice DevRecord
  unmatchedPos : Nat
  malformedPos : Nat
  line         : LineCtl
  seqs         : Vector Sequencer 8
  rect         : Rectifier
  banks        : BankStore
  reports      : ReportQueue
  capture      : CaptureUnit
  freeCount    : Nat
  pending      : List Instr
  deriving DecidableEq, Repr

/-- No rule of the manual stops the part, so there is no fault. -/
inductive Fault where
  deriving DecidableEq, Repr

/-- Why a command has no meaning. -/
inductive Refusal where
  /-- Raised by an arm of exec for a command that has no meaning yet (safe); no arm raises it. -/
  | notModelled (mnemonic : String)
  deriving DecidableEq, Repr

/-! ## The state after a cold reset -/

/-- A MISSING instant. -/
def missingInstant : Instant := ⟨0, .missing⟩

/-- R20: a channel in its reset condition. -/
def Channel.initial : Channel :=
  { state := .absent, last := missingInstant, hist := List.replicate 8 missingInstant, goodRun := 0,
    staleAt := none, samples := 0, invalid := 0, missing := 0, staleMoves := 0, consumers := [], waiting := [] }

/-- R1: an unused entry. -/
def StreamEntry.unused : StreamEntry :=
  { unit := 0, stream := 0, assign := [], last := none, resynced := false, run := 0, accepted := 0, gaps := 0,
    duplicates := 0, outOfOrder := 0, short := 0, resyncs := 0 }

/-- R41. -/
def Evaluator.initial : Evaluator :=
  { settings := none, state := .off, posView := .unknown, chanView := .absent, instCount := 0, dtCount := 0,
    iBase := 0, elapsed := 0, hold := 0, peak := 0, lastTrip := none, pendingTrip := none, inbox := [] }

/-- R62. -/
def DevRecord.initial : DevRecord :=
  { addr := none, pos := .unknown, ageAt := none, cmd := .none, requester := none, cmdTimer := none,
    cmdStart := none, repeatAt := none, flag := .none }

/-- R109. -/
def Sequencer.initial : Sequencer :=
  { plan := none, state := .idleOpen, attempts := 0, limit := 0, noted := none, hold := false, holdAt := none,
    timerAt := none, busWaitAt := none, waitStep := none, busSum := 0, busCount := 0, lineSum := 0, lineCount := 0,
    purpose := none, backingOff := false, lockCause := none, lastTest := none, inbox := [] }

/-- R82. -/
def LineCounters.zero : LineCounters := ⟨0, 0, 0, 0, 0, 0, 0, 0⟩

/-- R137. -/
def FiringCounters.zero : FiringCounters := ⟨0, 0, 0, 0, 0, 0⟩

/-- R137. -/
def CycleSums.zero : CycleSums := ⟨0, 0, 0, 0⟩

/-- R118: no window. -/
def StopWindow.cleared : StopWindow := ⟨0, 0, 0, none⟩

/-- R137. -/
def Rectifier.initial : Rectifier :=
  { settings := none, state := .off, wait := .none, stopStep := 0, window := StopWindow.cleared, lastTrip := none,
    tracker := ⟨.unlocked, 0, none, 0, 0⟩, alpha := 7500, sums := CycleSums.zero, uAvg := 0, iAvg := 0,
    holdFlag := false, limitFlag := false, overCount := 0, schedule := [], lineRec := Vector.replicate 12 none,
    counters := FiringCounters.zero, gateEn := false, gates := Vector.replicate 12 none,
    uabIn := [], curIn := [], busIn := [] }

/-- R152. -/
def BankStore.initial : BankStore :=
  { bankA := List.replicate 720 0, bankB := List.replicate 720 0, stateA := .unchecked, stateB := .unchecked,
    active := none, mask := Vector.replicate 13 false, target := none, validator := none, lastVal := none }

/-- R163. -/
def ReportQueue.initial : ReportQueue :=
  { queue := [], mask := none, occurred := Vector.replicate 8 0, accepted := 0, read := 0, displaced := 0,
    dropped := 0 }

/-- R180: a FREE slot. -/
def Slot.initial : Slot :=
  { state := .free, positions := [], triggers := [], extra := 0, truncated := false, fillAt := none }

/-- R178. -/
def CaptureCounters.zero : CaptureCounters := ⟨0, 0, 0, 0, 0, 0⟩

/-- R180. -/
def CaptureUnit.initial : CaptureUnit :=
  { settings := none, slots := Vector.replicate 4 Slot.initial, order := [], counters := CaptureCounters.zero,
    inbox := [] }

/-- R195. -/
def RingCounters.zero : RingCounters := ⟨0, 0, 0, 0, 0, 0, 0, 0, 0, 0, 0⟩

/-- The same value for all 18 devices. -/
def PerDevice.replicate {α : Type} (x : α) : PerDevice α :=
  { fm := Vector.replicate 8 x, ft := Vector.replicate 8 x, dcm := x, acm := x }

/-- R182, R195: the Ring Port after cold reset with the straps as read; the ring-down timer is started at time 0. -/
def RingPort.initial (addr : BitVec 6) (gw : BitVec 2) : RingPort :=
  { own := addr.setWidth 8, mgmt := 0xF0 + gw.setWidth 8, relay := [], answers := [],
    claims := PerDevice.replicate none, turn := 0, out := none, ring := .up,
    downAt := some (5 * Config.unitsPerMs), counters := RingCounters.zero }

/-- R82: the controller after cold reset, with the wires as they stand on the line. -/
def LineCtl.initial (ckLow dtLow : Bool) : LineCtl :=
  { table := none, state := .waiting,
    freeSince := if ckLow || dtLow then none else some 0,
    lowAt := if ckLow || dtLow then some (2 * Config.unitsPerMs) else none,
    queue := [], clocks := 0, heard := [], inFlight := [], ckLow := ckLow, dtLow := dtLow, driveCk := false, driveDt := false,
    accepted := none, phaseAt := none, counters := LineCounters.zero }

/-- R182: every block after a cold reset with the straps ADDR and GW and the intertrip wires as given. -/
def State.cold (addr : BitVec 6) (gw : BitVec 2) (ckLow dtLow : Bool) : State :=
  { time := { now := 0, day := 0, micros := 0, unset := true }
    ring := RingPort.initial addr gw
    matcher := { entries := Vector.replicate 24 StreamEntry.unused, unmatched := 0, malformed := 0 }
    chans := Vector.replicate 24 Channel.initial
    evs := Vector.replicate 8 Evaluator.initial
    devs := PerDevice.replicate DevRecord.initial
    unmatchedPos := 0
    malformedPos := 0
    line := LineCtl.initial ckLow dtLow
    seqs := Vector.replicate 8 Sequencer.initial
    rect := Rectifier.initial
    banks := BankStore.initial
    reports := ReportQueue.initial
    capture := CaptureUnit.initial
    freeCount := 0
    pending := [] }

/-- The machine right after reset. The straps are inputs whose level the manual does not give: DESIGN CHOICE
ADDR = 1, GW = 0, and both intertrip wires high (notes/assumptions/4). -/
def State.reset : State := State.cold 1 0 false false

/-! ## Access to one element of a block -/

namespace PerDevice

/-- The value for one device. -/
def get {α : Type} (p : PerDevice α) : Device → α
  | .fm f => p.fm[f]
  | .ft f => p.ft[f]
  | .dcm => p.dcm
  | .acm => p.acm

/-- Replace the value for one device. -/
def set {α : Type} (p : PerDevice α) (d : Device) (x : α) : PerDevice α :=
  match d with
  | .fm f => { p with fm := p.fm.set f x }
  | .ft f => { p with ft := p.ft.set f x }
  | .dcm => { p with dcm := x }
  | .acm => { p with acm := x }

end PerDevice

namespace State

/-- Channel record c. -/
def chan (s : State) (c : Fin 24) : Channel := s.chans[c]

/-- Evaluator record of a feeder. -/
def ev (s : State) (f : Fin 8) : Evaluator := s.evs[f]

/-- Sequencer record of a feeder. -/
def seq (s : State) (f : Fin 8) : Sequencer := s.seqs[f]

/-- Switching-device record. -/
def dev (s : State) (d : Device) : DevRecord := s.devs.get d

/-- Change one channel record. -/
def updChan (s : State) (c : Fin 24) (g : Channel → Channel) : State :=
  { s with chans := s.chans.set c (g s.chans[c]) }

/-- Change one evaluator record. -/
def updEv (s : State) (f : Fin 8) (g : Evaluator → Evaluator) : State :=
  { s with evs := s.evs.set f (g s.evs[f]) }

/-- Change one sequencer record. -/
def updSeq (s : State) (f : Fin 8) (g : Sequencer → Sequencer) : State :=
  { s with seqs := s.seqs.set f (g s.seqs[f]) }

/-- Change one switching-device record. -/
def updDev (s : State) (d : Device) (g : DevRecord → DevRecord) : State :=
  { s with devs := s.devs.set d (g (s.devs.get d)) }

/-- Change the Ring Port. -/
def updRing (s : State) (g : RingPort → RingPort) : State := { s with ring := g s.ring }

/-- Change the Rectifier Group Controller. -/
def updRect (s : State) (g : Rectifier → Rectifier) : State := { s with rect := g s.rect }

/-- Change the Intertrip Controller. -/
def updLine (s : State) (g : LineCtl → LineCtl) : State := { s with line := g s.line }

/-- Change the Setting Bank Store. -/
def updBanks (s : State) (g : BankStore → BankStore) : State := { s with banks := g s.banks }

/-- Change the Report Queue. -/
def updReports (s : State) (g : ReportQueue → ReportQueue) : State := { s with reports := g s.reports }

/-- Change the Capture Unit. -/
def updCapture (s : State) (g : CaptureUnit → CaptureUnit) : State := { s with capture := g s.capture }

/-- Change the Stream Matcher. -/
def updMatcher (s : State) (g : Matcher → Matcher) : State := { s with matcher := g s.matcher }

end State

end Sys2Proof.Machine
end

