-- ==== Sys2Proof/Machine/Flags.lean ====
section
/-! DEFINITION. The small tests the rules make over and over: whether an instant is usable, whether a state is a
firing state, whether a position counts as open, whether a class is enabled, and the saturating counter. -/

namespace Sys2Proof.Machine

/-- A 16-bit counter goes up by 1 and saturates at 65535 (00_scope, Counters and timers). -/
def bump (n : Nat) : Nat := min (n + 1) 65535

/-- Saturate at 65535 (00_scope, Arithmetic). -/
def sat16 (n : Nat) : Nat := min n 65535

/-- Clamp to lo..hi (00_scope, Arithmetic). -/
def clampInt (lo hi x : Int) : Int := if x < lo then lo else if hi < x then hi else x

/-- Usable: marked GOOD or SATURATED (00_scope, Terms). -/
def usable (i : Instant) : Bool := i.mark = .good || i.mark = .saturated

/-- The value taken as signed: currents and U_ab (R14). -/
def signed (i : Instant) : Int := i.value.toInt

/-- The value taken as unsigned: bus and line voltages (R14). -/
def unsigned (i : Instant) : Nat := i.value.toNat

/-- A channel's last usable value in a report or a trip: 0 while its mark is MISSING (R12, R35). -/
def lastUsable (c : Channel) : Int := if c.last.mark = .missing then 0 else signed c.last

/-- R112: the firing states, in which GATE_EN is high. -/
def firing (r : RectState) : Bool := r = .starting || r = .running || r = .stopping

/-- R84, R108: the sequence states in which a feeder may adopt. -/
def seqSafe (q : SeqState) : Bool := q = .idleClosed || q = .idleOpen || q = .lockout

/-- R86: the idle states of a sequence. -/
def seqIdle (q : SeqState) : Bool := q = .idleClosed || q = .idleOpen

/-- R40: the evaluator states in which a feeder may adopt. -/
def evSafe (e : EvState) : Bool := e = .off || e = .quiet || e = .degraded

/-- R46: no command is outstanding. -/
def noCommand (d : DevRecord) : Bool := d.cmd = .none

/-- R60: the device is reported OPEN with no command outstanding. -/
def openAtRest (d : DevRecord) : Bool := d.pos = .opened && noCommand d

/-- A feeder is in service by the settings it has adopted (R72, R105). -/
def inService (e : Evaluator) : Bool :=
  match e.settings with
  | none => false
  | some t => t.inService

/-- R31: an instant counts against a threshold when it is usable and at least the threshold, or SATURATED with a
value above 0. -/
def overThreshold (t : Nat) (i : Instant) : Bool :=
  (usable i && (t : Int) ≤ signed i) || (i.mark = .saturated && 0 < signed i)

/-- The class of a report code (section 8.5). -/
def classOf : ReportCode → ReportClass
  | .feederTrip | .rectTrip => .trip
  | .uncommanded | .positionFaulty | .positionUnknown | .commandWithdrawn | .openFail | .closeFail
  | .openedLate => .breaker
  | .acOpened | .dcLost | .started | .running | .blockDone | .stopDone | .deblockCancelled | .trackerLocked
  | .trackerUnlocked | .regulatorHold | .regulatorResumed | .currentLimit => .rectifier
  | .messageReceived | .unanswered | .lineFault | .lineRestored => .intertrip
  | .sequenceStart | .testResult | .recloseSuccess | .lockout | .abandoned | .lockoutReset => .reclose
  | .channelStale | .channelValid | .feederDegraded | .ringDown | .ringRestored => .supervision
  | .clamped | .active => .settings
  | .eventEnd | .captureDone | .captureMissed | .restart => .info

/-- Rank of a class less 1: 0 TRIP, the highest, to 7 INFO, the lowest (section 8.1). -/
def classRank : ReportClass → Fin 8
  | .trip => 0
  | .breaker => 1
  | .rectifier => 2
  | .intertrip => 3
  | .reclose => 4
  | .supervision => 5
  | .settings => 6
  | .info => 7

/-- R156: TRIP is always enabled; before the first adoption every class is; otherwise the mask bit says, bit 7
TRIP down to bit 0 INFO (section 11.5, table 6). -/
def classEnabled (mask : Option Byte) (c : ReportClass) : Bool :=
  match c, mask with
  | .trip, _ => true
  | _, none => true
  | c, some m => m.getLsbD (7 - (classRank c).val)

end Sys2Proof.Machine
end

