-- ==== Sys2Proof/Machine/Codes.lean ====
section
/-! DEFINITION. The codes of section 11.4: the number by which a report, an answer or a frame carries each
state, cause, position and requester. States are numbered from 0 in the order their chapter first lists them. -/

namespace Sys2Proof.Machine

/-- Report codes 1..42, in the row order of section 8.5. -/
def reportCode : ReportCode → Nat
  | .feederTrip => 1
  | .rectTrip => 2
  | .uncommanded => 3
  | .positionFaulty => 4
  | .positionUnknown => 5
  | .commandWithdrawn => 6
  | .openFail => 7
  | .closeFail => 8
  | .openedLate => 9
  | .acOpened => 10
  | .dcLost => 11
  | .started => 12
  | .running => 13
  | .blockDone => 14
  | .stopDone => 15
  | .deblockCancelled => 16
  | .trackerLocked => 17
  | .trackerUnlocked => 18
  | .regulatorHold => 19
  | .regulatorResumed => 20
  | .currentLimit => 21
  | .messageReceived => 22
  | .unanswered => 23
  | .lineFault => 24
  | .lineRestored => 25
  | .sequenceStart => 26
  | .testResult => 27
  | .recloseSuccess => 28
  | .lockout => 29
  | .abandoned => 30
  | .lockoutReset => 31
  | .channelStale => 32
  | .channelValid => 33
  | .feederDegraded => 34
  | .ringDown => 35
  | .ringRestored => 36
  | .clamped => 37
  | .active => 38
  | .eventEnd => 39
  | .captureDone => 40
  | .captureMissed => 41
  | .restart => 42

/-- Report and trigger sources. -/
def sourceCode : Source → Nat
  | .feeder f => f.val + 1
  | .rectifier => 9
  | .intertrip => 10
  | .bank => 11
  | .capture => 12
  | .part => 13
  | .channel c => 32 + c.val

/-- Trigger causes, also a trip cause in a record. -/
def causeCode : Cause → Nat
  | .rising => 1
  | .instant => 2
  | .deltaI => 3
  | .definite => 4
  | .channelLoss => 5
  | .intertrip => 6
  | .breakerFail => 7
  | .overcurrent => 8
  | .phaseLost => 9
  | .currentChannel => 10
  | .acOpened => 11
  | .feederBf => 12
  | .dcbCloseFail => 13
  | .stopIncomplete => 14
  | .manual => 15

/-- Cause of FEEDER_TRIP: INSTANT, DELTA_I, DEFINITE, CHANNEL_LOSS, INTERTRIP. -/
def feederTripCause : Cause → Nat
  | .instant => 1
  | .deltaI => 2
  | .definite => 3
  | .channelLoss => 4
  | .intertrip => 5
  | _ => 0

/-- Cause of RECT_TRIP: OVERCURRENT, PHASE_LOST, CURRENT_CHANNEL, AC_OPENED, FEEDER_BF, DCB_CLOSE_FAIL,
STOP_INCOMPLETE. -/
def rectTripCause : Cause → Nat
  | .overcurrent => 1
  | .phaseLost => 2
  | .currentChannel => 3
  | .acOpened => 4
  | .feederBf => 5
  | .dcbCloseFail => 6
  | .stopIncomplete => 7
  | _ => 0

/-- Cause of SEQUENCE_START: DELTA_I, INSTANT, DEFINITE, INTERTRIP, EXTERNAL (no noted trip), OPERATOR 6,
CHANNEL_LOSS. -/
def sequenceStartCause : Option Cause → Nat
  | some .deltaI => 1
  | some .instant => 2
  | some .definite => 3
  | some .intertrip => 4
  | none => 5
  | some .channelLoss => 7
  | some _ => 0

/-- Positions in records and values. -/
def positionCode : Position → Nat
  | .unknown => 0
  | .opened => 1
  | .closed => 2
  | .travel => 3
  | .faulty => 4

/-- Commands. -/
def commandCode : Command → Nat
  | .none => 0
  | .toOpen => 1
  | .toClose => 2

/-- Requesters. -/
def requesterCode : Requester → Nat
  | .feederProtection => 1
  | .sequencer => 2
  | .rectifier => 3
  | .operator => 4
  | .escalation => 5

/-- Failure flags. -/
def failFlagCode : FailFlag → Nat
  | .none => 0
  | .openFail => 1
  | .closeFail => 2

/-- Device causes: MAIN 1, TEST 2, DC_MAIN 3, AC_MAIN 4. -/
def deviceCause : Device → Nat
  | .fm _ => 1
  | .ft _ => 2
  | .dcm => 3
  | .acm => 4

/-- The source of a device's reports: its feeder, or the rectifier (section 3.7). -/
def deviceSource : Device → Source
  | .fm f => .feeder f
  | .ft f => .feeder f
  | .dcm => .rectifier
  | .acm => .rectifier

/-- Quality marks. -/
def markCode : Mark → Nat
  | .good => 0
  | .saturated => 1
  | .invalid => 2
  | .missing => 3

/-- Test outcomes, also the cause of TEST_RESULT. -/
def outcomeCode : TestOutcome → Nat
  | .healthy => 1
  | .faulted => 2
  | .live => 3
  | .busLow => 4
  | .measurementLost => 5

/-- Lockout causes, in the order of the table of section 5.7. -/
def lockoutCode : LockoutCause → Nat
  | .noAttempts => 1
  | .testFault => 2
  | .retrip => 3
  | .busLow => 4
  | .noProtection => 5
  | .measurementLost => 6
  | .testContactor => 7
  | .breakerFail => 8
  | .closeFail => 9
  | .closeRefused => 10
  | .channelLoss => 11

/-- Waiting step. -/
def waitStepCode : WaitingStep → Nat
  | .test => 1
  | .close => 2

/-- Intertrip kinds, the two bits of R70. -/
def kindCode : Kind → Nat
  | .trip => 0
  | .hold => 1
  | .release => 2

/-- Cause of MESSAGE_RECEIVED and UNANSWERED: TRIP, HOLD, RELEASE, numbered from 1. -/
def kindCause (k : Kind) : Nat := kindCode k + 1

/-- Deblock wait. -/
def waitCode : DeblockWait → Nat
  | .none => 0
  | .dcm => 1
  | .crossing => 2

/-- Banks. -/
def bankCode : BankId → Nat
  | .a => 1
  | .b => 2

/-- Channel states. -/
def chanStateCode : ChanState → Nat
  | .absent => 0
  | .recovering => 1
  | .valid => 2
  | .stale => 3

/-- Evaluator states. -/
def evStateCode : EvState → Nat
  | .off => 0
  | .quiet => 1
  | .rising => 2
  | .tripping => 3
  | .degraded => 4

/-- Sequence states. -/
def seqStateCode : SeqState → Nat
  | .idleClosed => 0
  | .idleOpen => 1
  | .deadTime => 2
  | .held => 3
  | .waitBus => 4
  | .testing => 5
  | .measuring => 6
  | .testClear => 7
  | .closing => 8
  | .reclaim => 9
  | .lockout => 10

/-- Rectifier states. -/
def rectStateCode : RectState → Nat
  | .off => 0
  | .blocked => 1
  | .starting => 2
  | .running => 3
  | .stopping => 4
  | .tripped => 5

/-- Tracker states. -/
def trackStateCode : TrackState → Nat
  | .unlocked => 0
  | .locking => 1
  | .locked => 2

/-- Intertrip line states. -/
def lineStateCode : LineState → Nat
  | .waiting => 0
  | .free => 1
  | .receiving => 2
  | .sending => 3
  | .fault => 4

/-- Capture slot states. -/
def slotStateCode : SlotState → Nat
  | .free => 0
  | .armed => 1
  | .filling => 2
  | .held => 3
  | .reading => 4

/-- Bank states. -/
def bankStateCode : BankState → Nat
  | .unchecked => 0
  | .validating => 1
  | .valid => 2
  | .invalid => 3
  | .active => 4

/-- Ring states. -/
def ringStateCode : RingState → Nat
  | .up => 0
  | .down => 1

/-- Answer outcomes (section 11.1). -/
def replyCode : ReplyOutcome → Nat
  | .done => 0
  | .busy => 1
  | .refused => 2

/-- Refusal reasons (section 11.1). -/
def reasonCode : Reason → Nat
  | .none => 0
  | .notPermitted => 1
  | .state => 2
  | .range => 3
  | .switchPending => 4
  | .noBank => 5
  | .badLength => 6
  | .unknown => 7

/-- A flag or mark in a record. -/
def flagCode (b : Bool) : Nat := if b then 1 else 0

/-- The position a POSITION frame names; none for an undefined code (section 11.1). -/
def framePosition (b : Byte) : Option Position :=
  match b.toNat with
  | 1 => some .opened
  | 2 => some .closed
  | 3 => some .travel
  | 4 => some .faulty
  | _ => none

/-- The mark a SAMPLE value carries; a code Chapter 11 does not define is filed as INVALID (R5). -/
def frameMark (b : Byte) : Mark :=
  match b.toNat with
  | 0 => .good
  | 1 => .saturated
  | _ => .invalid

end Sys2Proof.Machine
end

