-- ==== Sys2Proof/Machine/Operands.lean ====
section
/-! DEFINITION. The operand forms: bytes and multi-byte numbers, the CRC and the ring frame, the SAMPLE payload,
the intertrip message's bits, and the records of the six setting tables (Chapter 11). -/

namespace Sys2Proof.Machine

/-! ## Bytes (most significant first, Chapter 11) -/

/-- The byte at a place, 0 past the end. -/
def byteAt (l : List Byte) (i : Nat) : Byte := l.getD i 0

/-- One byte as a number. -/
def u8 (l : List Byte) (i : Nat) : Nat := (byteAt l i).toNat

/-- Two bytes as a number. -/
def u16 (l : List Byte) (i : Nat) : Nat := u8 l i * 256 + u8 l (i + 1)

/-- The low byte of a number. -/
def byteOf (n : Nat) : Byte := BitVec.ofNat 8 n

/-- A number as k bytes. -/
def bytesOf : Nat → Nat → List Byte
  | 0, _ => []
  | k + 1, n => byteOf (n / 256 ^ k) :: bytesOf k n

/-- A signed number as k bytes, two's complement. -/
def signedBytes (k : Nat) (x : Int) : List Byte := bytesOf k ((x % (256 ^ k : Nat)).toNat)

/-- The number that a list of bytes spells. -/
def numberOf (l : List Byte) : Nat := l.foldl (fun n b => n * 256 + b.toNat) 0

/-- Write bytes into a list at an offset. -/
def splice (l : List Byte) (off : Nat) (data : List Byte) : List Byte :=
  l.take off ++ data ++ l.drop (off + data.length)

/-! ## Ring frames (section 11.1) -/

/-- One bit of the CRC register, generator x^16 + x^12 + x^5 + 1. -/
def crcBit (c : BitVec 16) : BitVec 16 := if c.msb then (c <<< 1) ^^^ 0x1021#16 else c <<< 1

/-- One byte enters the register, most significant bit first. -/
def crcByte (c : BitVec 16) (b : Byte) : BitVec 16 :=
  crcBit (crcBit (crcBit (crcBit (crcBit (crcBit (crcBit (crcBit (c ^^^ (b.setWidth 16 <<< 8)))))))))

/-- CRC-16, register preset to 0xFFFF, no final inversion. -/
def crc16 (l : List Byte) : BitVec 16 := l.foldl crcByte 0xFFFF#16

/-- The bytes of a frame, start delimiter to CRC. -/
def frameBytes (f : Frame) : List Byte :=
  let body := [f.dst, f.src, (f.type ++ f.flags : BitVec 8), byteOf f.payload.length] ++ f.payload
  0xA5 :: body ++ bytesOf 2 (crc16 body).toNat

/-- Bytes after the start delimiter with a CRC at their end that matches (R183, first line). The CRC of a frame
that ends early or late is taken as its last two bytes (notes/assumptions/9). -/
def crcMatches (bytes : List Byte) : Bool :=
  let body := bytes.drop 1
  2 ≤ body.length &&
    (crc16 (body.take (body.length - 2))).toNat = numberOf (body.drop (body.length - 2))

/-- The frame that the bytes spell, when the stated length is at most 64 and the frame ends exactly there
(R183, second line). -/
def frameOf (bytes : List Byte) : Option Frame :=
  let n := u8 bytes 4
  if 7 ≤ bytes.length && n ≤ 64 && bytes.length = 7 + n then
    some { dst := byteAt bytes 1, src := byteAt bytes 2, type := (byteAt bytes 3).extractLsb' 4 4,
           flags := (byteAt bytes 3).extractLsb' 0 4, payload := (bytes.drop 5).take n }
  else none

/-- R2: the payload holds a value count from 1 to 4 and exactly that many values. -/
def sampleWellFormed (p : List Byte) : Bool :=
  3 ≤ p.length && 1 ≤ u8 p 2 && u8 p 2 ≤ 4 && p.length = 3 + 3 * u8 p 2

/-- Value k of a SAMPLE payload with its mark, when the frame carries it (section 11.1). -/
def sampleValue (p : List Byte) (k : Nat) : Option Instant :=
  if k < u8 p 2 then
    some { value := BitVec.ofNat 16 (u16 p (3 + 3 * k)), mark := frameMark (byteAt p (5 + 3 * k)) }
  else none

/-! ## Intertrip messages (R70) -/

/-- The k low bits of a number, most significant first. -/
def bitsOf (k n : Nat) : List Bool := (List.range k).map fun i => n.testBit (k - 1 - i)

/-- The number that bits spell, most significant first. -/
def numberOfBits (l : List Bool) : Nat := l.foldl (fun n b => 2 * n + (if b then 1 else 0)) 0

/-- The check of R70: (high nibble + low nibble of the section + kind) mod 16. -/
def messageCheck (section_ kind : Nat) : Nat := (section_ / 16 + section_ % 16 + kind) % 16

/-- The fourteen bits of a message: section, kind, check. -/
def messageBits (section_ : Byte) (k : Kind) : List Bool :=
  bitsOf 8 section_.toNat ++ bitsOf 2 (kindCode k) ++ bitsOf 4 (messageCheck section_.toNat (kindCode k))

/-- The kind of two bits; 11 is no kind. -/
def kindOf : Nat → Option Kind
  | 0 => some .trip
  | 1 => some .hold
  | 2 => some .release
  | _ => none

/-! ## Setting tables (section 11.5) -/

/-- Length of a table, 0 for an id that is not 1..6 (Chapter 7). -/
def tableLength : Nat → Nat
  | 1 => 144
  | 2 => 256
  | 3 => 256
  | 4 => 32
  | 5 => 16
  | 6 => 16
  | _ => 0

/-- Where a table begins among the 720 bytes of a bank. -/
def tableBase : Nat → Nat
  | 1 => 0
  | 2 => 144
  | 3 => 400
  | 4 => 656
  | 5 => 688
  | _ => 704

/-- Where an entry of a table begins in a bank; entries are numbered from 1. -/
def entryBase (table entry : Nat) : Nat :=
  match table with
  | 1 => tableBase 1 + 6 * (entry - 1)
  | 2 => tableBase 2 + 32 * (entry - 1)
  | 3 => tableBase 3 + 32 * (entry - 1)
  | t => tableBase t

/-- A one-byte field of an entry. -/
def field8 (bank : List Byte) (table entry off : Nat) : Nat := u8 bank (entryBase table entry + off)

/-- A two-byte field of an entry. -/
def field16 (bank : List Byte) (table entry off : Nat) : Nat := u16 bank (entryBase table entry + off)

/-- A channel number. Adopted banks are VALID, so the number is 0..23 (R144; notes/assumptions/31). -/
def channelOf (n : Nat) : Fin 24 := Fin.ofNat 24 n

/-- A value assignment of table 1: a channel, or NONE. -/
def assignmentOf (n : Nat) : Option (Fin 24) := if h : n < 24 then some ⟨n, h⟩ else none

/-- Entry k + 1 of the stream table, fresh (R1). -/
def streamEntryOf (bank : List Byte) (k : Fin 24) : StreamEntry :=
  let e := k.val + 1
  { StreamEntry.unused with
    unit := byteAt bank (entryBase 1 e), stream := byteAt bank (entryBase 1 e + 1),
    assign := (List.range 4).map fun p => assignmentOf (field8 bank 1 e (2 + p)) }

/-- Feeder settings record. -/
def feederOf (bank : List Byte) (f : Fin 8) : FeederSettings :=
  let e := f.val + 1
  { inService := field8 bank 2 e 0 = 1, chan := channelOf (field8 bank 2 e 1),
    lineChan := channelOf (field8 bank 2 e 2),
    lossAction := if field8 bank 2 e 3 = 1 then .trip else .hold,
    captureOnRising := field8 bank 2 e 4 = 1,
    mainUnit := byteAt bank (entryBase 2 e + 5), mainElem := byteAt bank (entryBase 2 e + 6),
    testUnit := byteAt bank (entryBase 2 e + 7), testElem := byteAt bank (entryBase 2 e + 8),
    iMax := field16 bank 2 e 10, dStart := field16 bank 2 e 12, dStop := field16 bank 2 e 14,
    deltaISet := field16 bank 2 e 16, tDelay := field16 bank 2 e 18, tMax := field16 bank 2 e 20,
    stopHold := field16 bank 2 e 22, iDt := field16 bank 2 e 24, tDt := field16 bank 2 e 26,
    bfTime := field16 bank 2 e 28, closeTime := field16 bank 2 e 30 }

/-- Reclose plan: the dead-time list is the first A slots (section 5.1). -/
def planOf (bank : List Byte) (f : Fin 8) : Plan :=
  let e := f.val + 1
  { limit := field8 bank 3 e 0,
    dead := (List.range (field8 bank 3 e 1)).map fun k => field16 bank 3 e (2 + 2 * k),
    reclaim := field16 bank 3 e 10, rTest := field16 bank 3 e 12, rMin := field16 bank 3 e 14,
    uTestMin := field16 bank 3 e 16, uLive := field16 bank 3 e 18, settle := field16 bank 3 e 20,
    hold := field16 bank 3 e 22, busWait := field16 bank 3 e 24 }

/-- Rectifier settings. -/
def rectOf (bank : List Byte) : RectSettings :=
  { busChan := channelOf (field8 bank 4 1 0), curChan := channelOf (field8 bank 4 1 1),
    uabChan := channelOf (field8 bank 4 1 2),
    dcmUnit := byteAt bank (entryBase 4 1 + 3), dcmElem := byteAt bank (entryBase 4 1 + 4),
    acmUnit := byteAt bank (entryBase 4 1 + 5), acmElem := byteAt bank (entryBase 4 1 + 6),
    gain := field8 bank 4 1 7, uSet := field16 bank 4 1 8, droop := field16 bank 4 1 10,
    alphaMin := field16 bank 4 1 12, alphaMax := field16 bank 4 1 14, delta := field16 bank 4 1 16,
    iLim := field16 bank 4 1 18, iRMax := field16 bank 4 1 20, dcFail := field16 bank 4 1 22 }

/-- Intertrip table; bus-free selection 0 for 8, 1 for 16, 2 for 32, 3 for 64 bit times. -/
def lineTableOf (bank : List Byte) : LineTable :=
  { enable := field8 bank 5 1 0 = 1, busFree := 8 * 2 ^ field8 bank 5 1 1, retry := field8 bank 5 1 2,
    sections := Vector.ofFn fun f : Fin 8 => byteAt bank (entryBase 5 1 + 3 + f.val) }

/-- Class mask of table 6. -/
def classMaskOf (bank : List Byte) : Byte := byteAt bank (entryBase 6 1)

/-- Capture settings of table 6. -/
def captureSettingsOf (bank : List Byte) : CaptureSettings :=
  { chans := (List.range (field8 bank 6 1 1)).map fun k => channelOf (field8 bank 6 1 (2 + k)),
    overwrite := field8 bank 6 1 10 = 1 }

end Sys2Proof.Machine
end

