-- ==== Sys2Proof/Machine/Ops.lean ====
section
/-! DEFINITION. The shared operations over time and free values: how the part's time base moves, how a timer is
started, read and taken at its expiry, and how a value the manual leaves open is taken. -/

namespace Sys2Proof.Machine

/-- Move the own time base on to a time, if it has not reached it; station time follows with it (R193). -/
def advanceTo (t : Nat) (s : State) : State :=
  if t ≤ s.time.now then s
  else
    let total := s.time.micros + (t / Config.unitsPerUs - s.time.now / Config.unitsPerUs)
    { s with time := { s.time with
        now := t, day := (s.time.day + total / Config.usPerDay) % 65536, micros := total % Config.usPerDay } }

/-- One CLK cycle passes on the own time base (notes/assumptions/2). -/
def tick (s : State) : State := advanceTo (s.time.now + Config.unitsPerClk) s

/-- The expiry of a timer of `ms` milliseconds started now (R193): exactly `ms` milliseconds on, between the ticks of the
millisecond base too (DESIGN CHOICE, notes/assumptions/44). -/
def deadline (s : State) (ms : Nat) : Nat := s.time.now + ms * Config.unitsPerMs

/-- The millisecond base (R193). -/
def nowMs (s : State) : Nat := s.time.now / Config.unitsPerMs

/-- The remaining time of a timer in ms, 0 when it is stopped (notes/assumptions/16). -/
def timeLeft (s : State) (timer : Option Nat) : Nat :=
  match timer with
  | none => 0
  | some d => (d - s.time.now) / Config.unitsPerMs

/-- A timer's expiry: nothing when the timer is stopped; else the time base moves on to the expiry and the rule
acts (notes/assumptions/3). -/
def whenExpired (timer : Option Nat) (k : State → State) (s : State) : State :=
  match timer with
  | none => s
  | some d => k (advanceTo d s)

/-- Midnight: the time at which microseconds of day next return to 0 (R193). -/
def nextMidnight (s : State) : Nat :=
  (s.time.now / Config.unitsPerUs + (Config.usPerDay - s.time.micros)) * Config.unitsPerUs

/-- R193: SET_TIME. The microseconds go on at the ticks of the own time base (DESIGN CHOICE, notes/assumptions/42). -/
def setStationTime (day micros : Nat) (s : State) : State :=
  { s with time := { s.time with day := day, micros := micros, unset := false } }

/-- One free value has been taken (notes/assumptions/12). -/
def freeTaken (s : State) : State := { s with freeCount := s.freeCount + 1 }

/-- Do something for each element of a list, in order. -/
def forEach {α : Type} (l : List α) (k : α → State → State) (s : State) : State := l.foldl (fun s x => k x s) s

/-- Feeders 1..8 in order. -/
def feeders : List (Fin 8) := [0, 1, 2, 3, 4, 5, 6, 7]

/-- The list order of the claim slots (R187). -/
def deviceList : List Device :=
  feeders.map .fm ++ feeders.map .ft ++ [.dcm, .acm]

end Sys2Proof.Machine
end

