-- ==== Sys2Proof/Machine/Reports.lean ====
section
/-! DEFINITION. The Report Queue (Chapter 8): submission, the full queue's choice, reading, and RESTART. -/

namespace Sys2Proof.Machine

/-- Rank of an entry's class less 1 (section 8.1). -/
def reportRank (r : Report) : Nat := (classRank (classOf r.code)).val

/-- The lowest class present, as the greatest rank. -/
def lowestRank (l : List Report) : Nat := l.foldl (fun m r => max m (reportRank r)) 0

/-- R155 step 1. -/
def raiseOccurrence (c : ReportClass) (q : ReportQueue) : ReportQueue :=
  { q with occurred := q.occurred.set (classRank c) (bump q.occurred[classRank c]) }

/-- R157: the entry joins the tail. -/
def enterReport (r : Report) (q : ReportQueue) : ReportQueue :=
  { q with queue := q.queue ++ [r], accepted := q.accepted + 1 }

/-- R158: the oldest entry of the lowest class present is removed. -/
def displaceReport (q : ReportQueue) : ReportQueue :=
  { q with queue := q.queue.eraseP fun x => reportRank x = lowestRank q.queue, displaced := q.displaced + 1 }

/-- R157, R158: an entry is offered to the queue. -/
def offerReport (r : Report) (q : ReportQueue) : ReportQueue :=
  if q.queue.length < 64 then enterReport r q
  else if reportRank r < lowestRank q.queue then enterReport r (displaceReport q)
  else { q with dropped := q.dropped + 1 }

/-- R154: the entry, stamped with the station time at which it is taken. -/
def stampReport (s : State) (code : ReportCode) (source : Source) (cause : Option Nat) (value : Option Int)
    (slot : Option (Fin 4)) : Report :=
  { code := code, source := source, cause := cause, value := value, slot := slot,
    day := s.time.day, micros := s.time.micros, unset := s.time.unset }

/-- R155: a submission is taken whole. -/
def submit (code : ReportCode) (source : Source) (cause : Option Nat) (value : Option Int)
    (slot : Option (Fin 4)) (s : State) : State :=
  s.updReports fun q =>
    let counted := raiseOccurrence (classOf code) q
    if classEnabled q.mask (classOf code) then offerReport (stampReport s code source cause value slot) counted
    else counted

/-- A submission with no capture slot. -/
def report (code : ReportCode) (source : Source) (cause : Option Nat) (value : Option Int) (s : State) : State :=
  submit code source cause value none s

/-- R159: the entries that READ_REPORTS n removes. -/
def readEntries (n : Nat) (s : State) : List Report := s.reports.queue.take n

/-- R159: the queue after READ_REPORTS n. -/
def removeEntries (n : Nat) (s : State) : State :=
  s.updReports fun q =>
    { q with queue := q.queue.drop n, read := q.read + BitVec.ofNat 32 (min n q.queue.length) }

/-- R165: RESTART empties the queue, clears the counters, keeps the mask, and queues its own report whatever the
mask. -/
def restartReports (s : State) : State :=
  s.updReports fun q =>
    enterReport (stampReport s .restart .part none none none)
      (raiseOccurrence .info
        { q with queue := [], occurred := Vector.replicate 8 0, accepted := 0, read := 0, displaced := 0, dropped := 0 })

end Sys2Proof.Machine
end

