-- ==== Sys2Proof/Machine/RingOut.lean ====
section
/-! DEFINITION. The transmit side of the Ring Port (sections 10.2, 10.3 and R196): the claim list, the relay buffer,
the answer queue and the arbiter. A frame begins to be sent when the arbiter serves it, and stands in `out` until
RING_OUT_FRAME_END (notes/assumptions/8). -/

namespace Sys2Proof.Machine

/-! ## The claimants -/

/-- R187: the first claim slot holding a frame, from the turn on and round; with its place in the list order. -/
def nextClaim (p : RingPort) : Option (Nat × Device × Frame) :=
  ((deviceList.zipIdx.rotateLeft p.turn).filterMap fun (d, i) =>
    (p.claims.get d).map fun fr => (i, d, fr)).head?

/-- R196: how many ANSWER frames an answer takes. -/
def segments (a : Answer) : Nat := max 1 ((a.data.length + 59) / 60)

/-- A place whose answer is built and not all begun. -/
def AnswerPlace.readyToSend (p : AnswerPlace) : Bool :=
  match p.answer with
  | none => false
  | some a => p.begun < segments a

/-- A place whose answer has begun its last frame. -/
def AnswerPlace.allBegun (p : AnswerPlace) : Bool :=
  match p.answer with
  | none => false
  | some a => segments a ≤ p.begun

/-- R196: frame k of an answer: flags hold the segment number modulo 8 and the last-segment mark; up to 60 bytes of
the data. -/
def answerFrame (own dst tag : Byte) (a : Answer) (k : Nat) : Frame :=
  { dst := dst, src := own, type := 5,
    flags := BitVec.ofNat 4 (k % 8 + (if k + 1 = segments a then 8 else 0)),
    payload := [tag, byteOf (replyCode a.outcome), byteOf (reasonCode a.reason), byteOf a.queued] ++
      (a.data.drop (60 * k)).take 60 }

/-- The frame a ready place sends next. -/
def AnswerPlace.nextFrame (own : Byte) (p : AnswerPlace) : Option Frame :=
  match p.answer with
  | none => none
  | some a => if p.begun < segments a then some (answerFrame own p.dst p.tag a p.begun) else none

/-- The first place that is ready has one more frame begun. -/
def beginAnswer : List AnswerPlace → List AnswerPlace
  | [] => []
  | p :: rest => if p.readyToSend then { p with begun := p.begun + 1 } :: rest else p :: beginAnswer rest

/-! ## The arbiter (R187) -/

/-- Ring-out has just become free: the highest claimant holding a frame is served. The oldest ready answer is the one whose
place was taken first (DEDUCED, notes/assumptions/8). -/
def serve (p : RingPort) : RingPort :=
  match nextClaim p with
  | some (i, d, fr) =>
    { p with claims := p.claims.set d none, turn := (i + 1) % 18, out := some fr,
             counters := { p.counters with commands := bump p.counters.commands } }
  | none =>
    match p.relay with
    | fr :: rest =>
      { p with relay := rest, out := some fr, counters := { p.counters with relayed := bump p.counters.relayed } }
    | [] =>
      match (p.answers.filterMap (AnswerPlace.nextFrame p.own)).head? with
      | some fr =>
        { p with answers := beginAnswer p.answers, out := some fr,
                 counters := { p.counters with answers := bump p.counters.answers } }
      | none => { p with out := none }

/-- A frame has joined a claimant: it is sent at once when ring-out is idle. -/
def kick (p : RingPort) : RingPort := if p.out = none then serve p else p

/-- The frame being sent has ended: an answer that has sent its last frame frees its place (R188, R196), and the
arbiter serves. -/
def frameEnd (p : RingPort) : RingPort :=
  if p.out = none then p
  else serve { p with answers := p.answers.filter fun a => !a.allBegun, out := none }

/-! ## Joining -/

/-- R48: a COMMAND frame is placed in a device's claim slot. -/
def placeClaim (d : Device) (fr : Frame) (s : State) : State :=
  s.updRing fun p => kick { p with claims := p.claims.set d (some fr) }

/-- The claim slot of a device is emptied (R48, R64). -/
def clearClaim (d : Device) (s : State) : State :=
  s.updRing fun p => { p with claims := p.claims.set d none }

/-- R185: a frame to be relayed joins the buffer, or is dropped. -/
def joinRelay (fr : Frame) (p : RingPort) : RingPort :=
  if p.relay.length < 4 then kick { p with relay := p.relay ++ [fr] }
  else { p with counters := { p.counters with drops := bump p.counters.drops } }

/-- R188: a request takes a place with its answer built in the same step. -/
def placeAnswer (dst tag : Byte) (a : Answer) (s : State) : State :=
  s.updRing fun p => kick { p with answers := p.answers ++ [⟨dst, tag, some a, 0⟩] }

/-- R188: a taken VALIDATE holds its place unready. -/
def placeUnready (dst tag : Byte) (s : State) : State :=
  s.updRing fun p => { p with answers := p.answers ++ [⟨dst, tag, none, 0⟩] }

/-- The unready place gets its answer (R144, R145). Only a taken VALIDATE is unready, and one validation runs at
a time (R143). -/
def fillUnready (a : Answer) (s : State) : State :=
  s.updRing fun p =>
    kick { p with answers := p.answers.map fun pl => if pl.answer = none then { pl with answer := some a } else pl }

/-- R188: the place of an abandoned validation is freed. -/
def freeUnready (s : State) : State :=
  s.updRing fun p => { p with answers := p.answers.filter fun pl => pl.answer ≠ none }

end Sys2Proof.Machine
end

