-- ==== Sys2Proof/Machine/Capture.lean ====
section
/-! DEFINITION. The Capture Unit (Chapter 9): arming, recording, triggers, and the end of a filling. -/

namespace Sys2Proof.Machine

/-- The slots in order. -/
def allSlots : List (Fin 4) := [0, 1, 2, 3]

/-- The slot in a state, if there is one. -/
def CaptureUnit.inState (c : CaptureUnit) (st : SlotState) : Option (Fin 4) :=
  allSlots.find? fun i => c.slots[i].state = st

/-- R167: a slot newly armed for a channel list. -/
def armedSlot (chans : List (Fin 24)) : Slot :=
  { state := .armed, positions := chans.map fun c => ⟨c, 0, 0, []⟩, triggers := [], extra := 0, truncated := false,
    fillAt := none }

/-- R167: the lowest FREE slot is armed when none is ARMED and capture settings are adopted. -/
def armIfPossible (c : CaptureUnit) : CaptureUnit :=
  match c.settings, c.inState .armed, c.inState .free with
  | some t, none, some i => { c with slots := c.slots.set i (armedSlot t.chans) }
  | _, _, _ => c

/-- A slot becomes FREE: its recording is discarded and it leaves the fill order list (R172, R177). -/
def freeSlot (i : Fin 4) (c : CaptureUnit) : CaptureUnit :=
  { c with slots := c.slots.set i Slot.initial, order := c.order.filter (· ≠ i) }

/-! ## Recording (R168) -/

/-- The 1 + m instants to record for an arrival. -/
def recordedInstants (k : Copy) : List Instant :=
  List.replicate k.missing missingInstant ++ [if k.after = .valid then k.own else missingInstant]

/-- The latest n of a list. -/
def latest {α : Type} (n : Nat) (l : List α) : List α := l.drop (l.length - n)

/-- Instants are added to a position: in ARMED the window keeps the latest 320, in FILLING the position takes what
it has room for (R171); otherwise nothing is recorded. -/
def recordPos (st : SlotState) (new : List Instant) (p : SlotPos) : SlotPos :=
  match st with
  | .armed => { p with insts := latest 320 (p.insts ++ new) }
  | .filling =>
    let taken := new.take (960 - p.post)
    { p with insts := p.insts ++ taken, post := p.post + taken.length }
  | _ => p

/-- A slot records an arrival at every position that names its channel. -/
def recordSlot (c : Fin 24) (new : List Instant) (t : Slot) : Slot :=
  { t with positions := t.positions.map fun p => if p.chan = c then recordPos t.state new p else p }

/-- Every position has its 960 post-trigger instants (R174). -/
def Slot.isFull (t : Slot) : Bool := t.state = .filling && t.positions.all fun p => p.post = 960

/-- Number of triggers a slot took (R174). -/
def Slot.taken (t : Slot) : Nat := t.triggers.length + t.extra

/-- R174: a FILLING slot becomes HELD; cause 1 COMPLETE, 2 TRUNCATED. -/
def endFilling (i : Fin 4) (truncated : Bool) (s : State) : State :=
  let t := s.capture.slots[i]
  (s.updCapture fun c =>
    { c with
      slots := c.slots.set i { t with state := .held, truncated := truncated, fillAt := none },
      counters := if truncated then { c.counters with truncated := bump c.counters.truncated } else c.counters })
  |> submit .captureDone .capture (some (if truncated then 2 else 1)) (some t.taken) (some i)

/-- A FILLING slot that has reached its end becomes HELD. -/
def completeSlot (i : Fin 4) (s : State) : State :=
  if s.capture.slots[i].isFull then endFilling i false s else s

/-- R168, R174: the Capture Unit takes a copy of an arrival. A channel that is no longer in the adopted list is not
recorded (section 9.2). -/
def takeCaptureCopy (k : Copy) (s : State) : State :=
  if (s.capture.settings.map fun t => t.chans.contains k.chan) = some true then
    (s.updCapture fun c => { c with slots := c.slots.map (recordSlot k.chan (recordedInstants k)) })
    |> forEach allSlots completeSlot
  else s

/-- R174: the fill timer of a slot expires. -/
def fillExpired (i : Fin 4) (s : State) : State :=
  if s.capture.slots[i].state = .filling then endFilling i true s else s

/-! ## Triggers (R169 to R173) -/

/-- The sample index that the next instant at position 0 will take (R170). -/
def Slot.nextIndex (t : Slot) : Nat :=
  match t.positions with
  | [] => 0
  | p :: _ => p.pre + p.post

/-- R170: a trigger-list entry. -/
def triggerEntry (s : State) (cause : Cause) (source : Source) (index : Nat) : Trigger :=
  { cause := cause, source := source, day := s.time.day, micros := s.time.micros, unset := s.time.unset,
    index := index }

/-- R170: a trigger is merged into the FILLING slot. -/
def mergeTrigger (i : Fin 4) (cause : Cause) (source : Source) (s : State) : State :=
  let t := s.capture.slots[i]
  let merged := { s.capture.counters with merged := bump s.capture.counters.merged }
  s.updCapture fun c =>
    if t.triggers.length < 8 then
      { c with slots := c.slots.set i { t with triggers := t.triggers ++ [triggerEntry s cause source t.nextIndex] },
               counters := merged }
    else
      { c with slots := c.slots.set i { t with extra := bump t.extra },
               counters := { merged with beyond := bump merged.beyond } }

/-- R171: a slot's pre-trigger part is fixed. -/
def fixPre (p : SlotPos) : SlotPos := { p with pre := p.insts.length, post := 0 }

/-- R171: a trigger starts the ARMED slot. -/
def startFilling (i : Fin 4) (cause : Cause) (source : Source) (s : State) : State :=
  let t := s.capture.slots[i]
  let fixed := { t with positions := t.positions.map fixPre }
  let filling := { fixed with
    state := .filling, triggers := [triggerEntry s cause source fixed.nextIndex], fillAt := some (deadline s 150) }
  s.updCapture fun c => armIfPossible
    { c with slots := c.slots.set i filling, order := c.order ++ [i],
             counters := { c.counters with fills := bump c.counters.fills } }

/-- R172: the first HELD slot of the fill order list, when the adopted policy is OVERWRITE. -/
def overwritable (c : CaptureUnit) : Option (Fin 4) :=
  match c.settings with
  | none => none
  | some t => if t.overwrite then c.order.find? fun i => c.slots[i].state = .held else none

/-- R172 steps 1 and 2: the slot is freed and armed at once. -/
def overwriteSlot (i : Fin 4) (c : CaptureUnit) : CaptureUnit :=
  let freed := freeSlot i c
  { freed with
    slots := freed.slots.set i (armedSlot ((c.settings.map fun t => t.chans).getD [])),
    counters := { c.counters with overwrites := bump c.counters.overwrites } }

/-- R169: a trigger is taken whole, and answered with a slot or a miss. -/
def trigger (cause : Cause) (source : Source) (s : State) : Option (Fin 4) × State :=
  match s.capture.inState .filling with
  | some i => (some i, mergeTrigger i cause source s)
  | none =>
    match s.capture.inState .armed with
    | some i => (some i, startFilling i cause source s)
    | none =>
      match overwritable s.capture with
      | some i => (some i, startFilling i cause source (s.updCapture (overwriteSlot i)))
      | none =>
        (none, (s.updCapture fun c =>
            { c with counters := { c.counters with missed := bump c.counters.missed } })
          |> report .captureMissed .capture (some (causeCode cause)) (some (sourceCode source)))

/-- A trigger whose submitter does not use the answer. -/
def triggerOnly (cause : Cause) (source : Source) (s : State) : State := (trigger cause source s).2

/-! ## Requests and adoption -/

/-- R177: a HELD or READING slot is released, and armed in the same step if no slot is ARMED. -/
def releaseSlot (i : Fin 4) (s : State) : State := s.updCapture fun c => armIfPossible (freeSlot i c)

/-- R176: a HELD slot that is read becomes READING. -/
def markReading (i : Fin 4) (s : State) : State :=
  s.updCapture fun c =>
    { c with slots := c.slots.set i { c.slots[i] with
        state := if c.slots[i].state = .held then .reading else c.slots[i].state } }

/-- R179 step 3: an ARMED slot takes a new channel list, keeping the windows of channels it had. -/
def rechannel (chans : List (Fin 24)) (t : Slot) : Slot :=
  if t.state = .armed then
    { t with positions := chans.map fun c =>
        { chan := c, pre := 0, post := 0, insts := ((t.positions.find? fun p => p.chan = c).map fun p => p.insts).getD [] } }
  else t

/-- R179 steps 1, 3 and 5. -/
def adoptCaptureSettings (t : CaptureSettings) (c : CaptureUnit) : CaptureUnit :=
  armIfPossible { c with settings := some t, slots := c.slots.map (rechannel t.chans) }

/-- R179: the safe point, no slot FILLING. -/
def captureSafe (s : State) : Bool := s.capture.inState .filling = none

/-- R181 steps 1 to 3: every slot FREE, the list emptied, the counters 0. -/
def restartCapture (s : State) : State :=
  s.updCapture fun c =>
    { c with slots := Vector.replicate 4 Slot.initial, order := [], counters := CaptureCounters.zero }

end Sys2Proof.Machine
end

