-- ==== Sys2Proof/Machine/Intertrip.lean ====
section
/-! DEFINITION. The Intertrip Controller (Chapter 4): the transmit queue, the line state, and what a message read off
the line says. The model follows the line by its edges and samples (notes/assumptions/21). -/

namespace Sys2Proof.Machine

/-! ## The transmit queue (R78, R79) -/

/-- R78: an entry of the section meets a kind asked; `inFlight` when it is the head and the line is SENDING (R79). -/
def supersede (inFlight : Bool) (k : Kind) (e : TxEntry) : TxEntry :=
  if e.kind = k || (e.kind = .trip && k = .hold) then e
  else { e with kind := k, attempts := 0, changed := inFlight }

/-- R78: at most one entry for a section; a new one joins the tail. -/
def enterTx (inFlight : Bool) (code : Byte) (k : Kind) : List TxEntry → List TxEntry
  | [] => [⟨code, k, 0, false⟩]
  | e :: rest =>
    if e.code = code then supersede inFlight k e :: rest else e :: enterTx false code k rest

/-- R78: an enqueue for a feeder; ignored without an enabled table or without a section. -/
def enqueue (f : Fin 8) (k : Kind) (s : State) : State :=
  match s.line.table with
  | none => s
  | some t =>
    if !t.enable || t.sections[f] = 0 then s
    else s.updLine fun l => { l with queue := enterTx (l.state = .sending) t.sections[f] k l.queue }

/-! ## The wires and their timers (R65 to R69) -/

/-- The bus-free time in force, in the model's units: bit times of 100 µs, 64 of them without a table (R65, R68). -/
def busFreeTime (l : LineCtl) : Nat :=
  (match l.table with | none => 64 | some t => t.busFree) * 100 * Config.unitsPerUs

/-- What this part drives low changes. A wire it releases is high unless another station was already seen to hold it
(notes/assumptions/21). -/
def LineCtl.drive (ck dt : Bool) (l : LineCtl) : LineCtl :=
  { l with driveCk := ck, driveDt := dt, ckLow := ck || (l.ckLow && !l.driveCk),
           dtLow := dt || (l.dtLow && !l.driveDt) }

/-- R65, R68, R69: the two timers follow the wires. The low timer runs while either wire is low; the bus-free timer
runs while both are high, outside SENDING and RECEIVING. -/
def LineCtl.timed (now : Nat) (l : LineCtl) : LineCtl :=
  { l with
    lowAt := if l.ckLow || l.dtLow then some (l.lowAt.getD (now + 2 * Config.unitsPerMs)) else none
    freeSince := if l.ckLow || l.dtLow || l.state = .sending || l.state = .receiving then none
      else some (l.freeSince.getD now) }

/-- Change the Intertrip Controller by an event on the line, its timers following. -/
def updWires (g : LineCtl → LineCtl) (s : State) : State := s.updLine fun l => (g l).timed s.time.now

/-- The record of the message in progress is given up. -/
def LineCtl.noMessage (l : LineCtl) : LineCtl :=
  { l with clocks := 0, heard := [], inFlight := [], accepted := none, phaseAt := none }

/-- The line returns to WAITING at a stop: both wires are high, this part drives neither, and the bus-free timer starts
afresh (R68). -/
def goWaiting (s : State) : State :=
  updWires (fun l => { l.noMessage with
    state := .waiting, freeSince := none, ckLow := false, dtLow := false, driveCk := false, driveDt := false }) s

/-- A start by another station: DT has fallen with CK high, and a new receive record begins (R67, R71). -/
def startReceive (s : State) : State :=
  updWires (fun l => { l.noMessage with
    state := .receiving, lowAt := none, ckLow := false, dtLow := true, driveCk := false, driveDt := false }) s

/-- The line becomes FREE; after a fault LINE_RESTORED is reported (R68, R69). -/
def becomeFree (s : State) : State :=
  let freed := s.updLine fun l => { l with state := .free }
  if s.line.state = .fault then report .lineRestored .intertrip none none freed else freed

/-- R71: messages are received in every state but SENDING and FAULT. -/
def canReceive (l : LineCtl) : Bool := l.state ≠ .sending && l.state ≠ .fault

/-- The end of a received message: the stop returns the line to WAITING, a start begins a new record (R71). -/
def endMessage (restart : Bool) (s : State) : State := if restart then startReceive s else goWaiting s

/-- R71: clock 15 of the message being received has begun. R71 names what comes before and after clock 15; a start or a
stop in clock 15 itself is taken as one after it (DESIGN CHOICE, notes/assumptions/21). -/
def pastSlot (l : LineCtl) : Bool := l.state = .receiving && 15 ≤ l.clocks

/-- R71: a start or a stop: before clock 15 it abandons the message, which counts as a check error. -/
def abandonMessage (restart : Bool) (s : State) : State :=
  if canReceive s.line then
    (if pastSlot s.line then s
      else s.updLine fun l => { l with counters := { l.counters with checkErrors := bump l.counters.checkErrors } })
    |> endMessage restart
  else s

/-- R66: half a nominal bit time, a contender's own low time and its own high time; R70: the time from the start to the
first clock. -/
def halfBit : Nat := 50 * Config.unitsPerUs

/-- R66: CK has risen in the message being sent, and this part's own high time runs up to a time. After the clock of the
stop it has no further clock to begin (R70). -/
def LineCtl.risen (highEnd : Nat) (l : LineCtl) : LineCtl :=
  if l.state = .sending then { l with phaseAt := if l.clocks < 16 then some highEnd else none } else l

/-- The bit that the sender gives at a clock (1..14), 1 past them (R74). -/
def sentBit (l : LineCtl) (clock : Nat) : Bool := l.inFlight.getD (clock - 1) true

/-- R70, R74, R77: what the sender drives on DT in a clock: its bits, nothing in the acknowledge slot, and low for the
stop. -/
def senderDrives (l : LineCtl) (clock : Nat) : Bool :=
  if clock ≤ 14 then !sentBit l clock else clock = 16

/-- R66 to R68, R71: both wires have become high. In a message being received, with CK high before, it is DT that has
risen: a stop. In a message being sent, with CK low before, CK has risen and this part's own high time begins. DT is not
high while this part drives it; CK being high says that this part has released it too (notes/assumptions/21). -/
def bothHigh (s : State) : State :=
  let l := s.line
  if l.driveDt || !(l.ckLow || l.dtLow) then s
  else if l.state = .receiving && !l.ckLow then abandonMessage false s
  else updWires (fun l =>
    { (if l.ckLow then l.risen (s.time.now + halfBit) else l) with
      ckLow := false, dtLow := false, driveCk := false }) s

/-- Value of LINE_FAULT: 1 CK, 2 DT, 3 both (R69). -/
def heldCode : Held → Nat
  | .ck => 1
  | .dt => 2
  | .both => 3

/-- The head entry's in-flight change mark is cleared (R79). -/
def clearHeadMark : List TxEntry → List TxEntry
  | [] => []
  | e :: rest => { e with changed := false } :: rest

/-- R69: the controller declares a line fault. -/
def lineFault (h : Held) (s : State) : State :=
  (s.updLine fun l => { l.noMessage with
    state := .fault, freeSince := none, lowAt := none,
    queue := if l.state = .sending then clearHeadMark l.queue else l.queue,
    ckLow := h ≠ .dt, dtLow := h ≠ .ck, driveCk := false, driveDt := false,
    counters := { l.counters with faults := bump l.counters.faults } })
  |> report .lineFault .intertrip none (some (heldCode h))

/-- R69: the low timer runs out; in FAULT it changes nothing but itself. -/
def lowExpired (h : Held) (s : State) : State :=
  match s.line.state with
  | .fault => whenExpired s.line.lowAt (fun s => s.updLine fun l => { l with lowAt := none }) s
  | _ => whenExpired s.line.lowAt (lineFault h) s

/-- R68: the bus-free timer runs out, in WAITING or in FAULT. -/
def busFreeExpired (s : State) : State :=
  match s.line.freeSince with
  | none => s
  | some t =>
    if s.line.state = .waiting || s.line.state = .fault then becomeFree (advanceTo (t + busFreeTime s.line) s) else s

/-! ## Sending (R74 to R77) -/

/-- R74 steps 1 and 2: the head entry's message is started, with the start on DT; its first clock is 50 µs later. -/
def startSending (s : State) : State :=
  match s.line.state, s.line.queue with
  | .free, e :: _ =>
    updWires (fun l => { l.noMessage with
      state := .sending, inFlight := messageBits e.code e.kind, phaseAt := some (s.time.now + halfBit) }.drive false true) s
  | _, _ => s

/-- R75: arbitration is lost at the sample of a clock (0 for clock 1) that the attempt has not passed: the bits read so
far are the part's own and then the other value of the bit it drove. -/
def loseArbitration (clock : Fin 14) (s : State) : State :=
  if s.line.state = .sending && s.line.clocks ≤ clock.val + 1 then
    updWires (fun l =>
      let driven := sentBit l (clock.val + 1)
      { l with
        state := .receiving, clocks := clock.val + 1, heard := l.inFlight.take clock.val ++ [!driven], inFlight := [],
        ckLow := false, dtLow := driven, driveCk := false, driveDt := false, accepted := none, phaseAt := none,
        queue := clearHeadMark l.queue, counters := { l.counters with losses := bump l.counters.losses } }) s
  else s

/-- Retry count in force, 0 without a table (R65). -/
def retryCount (l : LineCtl) : Nat := match l.table with | none => 0 | some t => t.retry

/-- R77: what becomes of the head entry. -/
def settleHead (ack : Bool) (s : State) : State :=
  match s.line.queue with
  | [] => s
  | e :: rest =>
    let acked (l : LineCtl) := { l.counters with acked := if ack then bump l.counters.acked else l.counters.acked }
    if e.changed then
      s.updLine fun l => { l with queue := { e with attempts := 0, changed := false } :: rest, counters := acked l }
    else if ack then s.updLine fun l => { l with queue := rest, counters := acked l }
    else if e.attempts + 1 < 1 + retryCount s.line then
      s.updLine fun l => { l with queue := { e with attempts := e.attempts + 1 } :: rest }
    else
      (s.updLine fun l => { l with
        queue := rest, counters := { l.counters with unanswered := bump l.counters.unanswered } })
      |> report .unanswered .intertrip (some (kindCause e.kind)) (some e.code.toNat)

/-- R77: the sender has read the acknowledge slot and made the stop. -/
def endAttempt (ack : Bool) (s : State) : State :=
  if s.line.state = .sending then
    (s.updLine fun l => { l with counters := { l.counters with sent := bump l.counters.sent } })
    |> settleHead ack |> goWaiting
  else s

/-! ## Receiving (R71, R72) -/

/-- The fourteen bits of the message being received: those already read in losing arbitration, and the rest. -/
def receivedBits (l : LineCtl) (bits : BitVec 14) : List Bool :=
  let all := bitsOf 14 bits.toNat
  if l.state = .receiving then l.heard ++ all.drop l.heard.length else all

/-- R71: section code and kind of fourteen bits; none when the check differs, kind none for 11. -/
def messageOf (bits : List Bool) : Option (Byte × Option Kind) :=
  let sec := numberOfBits (bits.take 8)
  let kind := numberOfBits ((bits.drop 8).take 2)
  if numberOfBits ((bits.drop 10).take 4) = messageCheck sec kind then some (byteOf sec, kindOf kind) else none

/-- R73: the in-service feeders of a section in the adopted table, 1 to 8, which orders their reports and triggers (DESIGN
CHOICE, notes/assumptions/7). -/
def sectionFeeders (code : Byte) (s : State) : List (Fin 8) :=
  match s.line.table with
  | none => []
  | some t => feeders.filter fun f => t.sections[f] = code && inService (s.ev f)

/-- R72: the adopted table is enabled and has the section, which is never 0, for a feeder in service. -/
def accepts (code : Byte) (s : State) : Bool :=
  (match s.line.table with | none => false | some t => t.enable) && code ≠ 0 && !(sectionFeeders code s).isEmpty

/-! ## Adoption and RESTART -/

/-- R80: the safe point. -/
def lineSafe (s : State) : Bool := s.line.queue.isEmpty && s.line.state ≠ .sending

/-- R80: a new table is adopted; a running bus-free timer at or beyond the new time makes the line FREE. -/
def adoptLineTable (t : LineTable) (s : State) : State :=
  let adopted := s.updLine fun l => { l with table := some t }
  match s.line.freeSince with
  | none => adopted
  | some d =>
    if (s.line.state = .waiting || s.line.state = .fault) && d + busFreeTime adopted.line ≤ s.time.now then
      becomeFree adopted
    else adopted

/-- R83: the message in progress is given up uncounted and this part releases the wires. A wire that another station
holds stays low, and the timers follow (notes/assumptions/26). -/
def dropMessage (s : State) : State :=
  updWires (fun l => { l.noMessage with state := .waiting, freeSince := none }.drive false false) s

/-- R83 steps 1 to 5. The levels of the wires that it leaves are the model's choice (notes/assumptions/26). -/
def restartLine (s : State) : State :=
  let idle := match s.line.state with
    | .sending | .receiving => dropMessage s
    | _ => s
  idle.updLine fun l => { l with queue := [], counters := LineCounters.zero }

end Sys2Proof.Machine
end

