-- ==== Sys2Proof/Machine/Switchgear.lean ====
section
/-! DEFINITION. The Switchgear Supervisor's commands (sections 3.3 and 3.5): taking, ending and repeating a command,
the OPEN and CLOSE requests, and the interlock guards; with the two things a guard or a trip tells a sequencer at
once: LOCKOUT (R103) and the trip cause (R87). -/

namespace Sys2Proof.Machine

/-! ## What a sequencer is told at once -/

/-- R103: the sequence enters LOCKOUT with a cause. The hold flag and timer, the attempt count and the limit are
kept. -/
def lockout (f : Fin 8) (cause : LockoutCause) (s : State) : State :=
  (s.updSeq f fun q => { q with
    state := .lockout, timerAt := none, busWaitAt := none, waitStep := none, purpose := none, backingOff := false,
    busSum := 0, busCount := 0, lineSum := 0, lineCount := 0, lockCause := some cause, noted := none })
  |> report .lockout (.feeder f) (some (lockoutCode cause)) (some (s.seq f).attempts)
  |> enqueue f .hold

/-- R87: the sequencer is told a trip cause. -/
def tellTrip (f : Fin 8) (cause : Cause) (s : State) : State :=
  let fm := s.dev (.fm f)
  match (s.seq f).state with
  | .idleClosed | .closing | .lockout => s.updSeq f fun q => { q with noted := some cause }
  | .reclaim => s.updSeq f fun q => { q with noted := some cause, timerAt := none }
  | .idleOpen =>
    if fm.cmd = .toOpen && fm.requester = some .operator then s
    else s.updSeq f fun q => { q with noted := some cause }
  | _ => s

/-! ## A device's times and frames -/

/-- OPEN command time in ms (R48). A command is taken only by an assigned record, whose owner has settings. -/
def openTime (d : Device) (s : State) : Nat :=
  match d with
  | .fm f => match (s.ev f).settings with | none => 0 | some t => t.bfTime
  | .ft _ => 100
  | .dcm => match s.rect.settings with | none => 0 | some t => t.dcFail
  | .acm => 200

/-- CLOSE command time in ms (R48). -/
def closeTime (d : Device) (s : State) : Nat :=
  match d with
  | .fm f => match (s.ev f).settings with | none => 0 | some t => t.closeTime
  | .ft _ => 100
  | .dcm => 500
  | .acm => 1000

/-- Command time of a command. -/
def commandTime (d : Device) (c : Command) (s : State) : Nat :=
  match c with
  | .toClose => closeTime d s
  | _ => openTime d s

/-- The COMMAND frame of a record's outstanding command (section 11.1); none without one. -/
def commandFrame (own : Byte) (r : DevRecord) : Option Frame :=
  match r.addr, r.cmd with
  | none, _ => none
  | _, .none => none
  | some (unit, elem), c =>
    some { dst := unit, src := own, type := 3, flags := 0, payload := [elem, byteOf (commandCode c)] }

/-- R48: a COMMAND frame for the outstanding command goes into the claim slot and the repeat timer starts. -/
def sendCommand (d : Device) (s : State) : State :=
  match commandFrame s.ring.own (s.dev d) with
  | none => s
  | some fr => (s.updDev d fun r => { r with repeatAt := some (deadline s 1) }) |> placeClaim d fr

/-- R48, R49: a command is taken, or replaces another, with a fresh command timer and command start. -/
def takeCommand (d : Device) (c : Command) (by_ : Option Requester) (s : State) : State :=
  (s.updDev d fun r => { r with
    cmd := c, requester := by_, cmdTimer := some (deadline s (commandTime d c s)), cmdStart := some (nowMs s) })
  |> sendCommand d

/-- R51: a command ends: its timers stop and an unsent frame leaves the claim slot. -/
def endCommand (d : Device) (s : State) : State :=
  (s.updDev d fun r => { r with
    cmd := .none, requester := none, cmdTimer := none, cmdStart := none, repeatAt := none })
  |> clearClaim d

/-- A BREAKER report of a device (section 3.7). -/
def breakerReport (code : ReportCode) (d : Device) (value : Nat) (s : State) : State :=
  report code (deviceSource d) (some (deviceCause d)) (some value) s

/-- COMMAND_WITHDRAWN: the value is the requester of the withdrawn CLOSE. -/
def reportWithdrawn (d : Device) (s : State) : State :=
  breakerReport .commandWithdrawn d (match (s.dev d).requester with | none => 0 | some q => requesterCode q) s

/-! ## The guard of an FMf CLOSE (R56) -/

/-- R56: a change to FTf has left FMf with CLOSE outstanding and FTf not at rest in OPEN. -/
def guardMain (f : Fin 8) (s : State) : State :=
  if (s.dev (.fm f)).cmd = .toClose && !openAtRest (s.dev (.ft f)) then
    s |> reportWithdrawn (.fm f) |> takeCommand (.fm f) .toOpen (some .sequencer) |> lockout f .testContactor
  else s

/-- The guard that a change of a device's command calls for. -/
def guardCommand (d : Device) (s : State) : State :=
  match d with
  | .ft f => guardMain f s
  | _ => s

/-! ## Requests (R49, R50) -/

/-- R49: an OPEN request: refused (false) by an unassigned record, taken by every other. The withdrawal of a CLOSE
calls for nothing more from its owner: each owner that asks for the OPEN has already acted. -/
def requestOpen (d : Device) (by_ : Requester) (s : State) : Bool × State :=
  let r := s.dev d
  if r.addr = none then (false, s)
  else
    match r.cmd with
    | .toOpen => (true, s)
    | .none => (true, s |> takeCommand d .toOpen (some by_) |> guardCommand d)
    | .toClose => (true, s |> reportWithdrawn d |> takeCommand d .toOpen (some by_) |> guardCommand d)

/-- An OPEN request whose answer the requester does not use. -/
def askOpen (d : Device) (by_ : Requester) (s : State) : State := (requestOpen d by_ s).2

/-- R50: the interlock line of a CLOSE request. -/
def interlocked (d : Device) (s : State) : Bool :=
  match d with
  | .fm f => !openAtRest (s.dev (.ft f))
  | .ft f => !openAtRest (s.dev (.fm f))
  | _ => false

/-- R50: the checks that refuse a CLOSE; an unassigned record refuses too (R43). -/
def closeRefused (d : Device) (s : State) : Bool :=
  let r := s.dev d
  r.addr = none || r.cmd = .toOpen || r.flag ≠ .none || r.pos = .unknown || r.pos = .faulty || interlocked d s

/-- R50: a CLOSE request. -/
def requestClose (d : Device) (by_ : Requester) (s : State) : Bool × State :=
  if closeRefused d s then (false, s)
  else
    match (s.dev d).cmd with
    | .toClose => (true, s)
    | _ => (true, takeCommand d .toClose (some by_) s)

/-! ## The guard of FTf (R57) -/

/-- R57: FMf stands in CLOSED or TRAVEL while FTf has CLOSE outstanding or is reported CLOSED. -/
def testExposed (f : Fin 8) (s : State) : Bool :=
  let fm := (s.dev (.fm f)).pos
  let ft := s.dev (.ft f)
  (fm = .closed || fm = .travel) && (ft.cmd = .toClose || ft.pos = .closed)

/-- R57: FTf is given OPEN, and the test is abandoned. -/
def openTest (f : Fin 8) (s : State) : State := s |> askOpen (.ft f) .sequencer |> lockout f .testContactor

/-- The guards of section 3.5 after a change of a device's position. R57 is judged by where FMf and FTf stood at the
change, whatever the notice of it has brought about since (an adoption can re-address both); R56 by what the change has
left (notes/assumptions/6, 7). -/
def guardPosition (d : Device) (changed : State) (s : State) : State :=
  match d with
  | .fm f => if testExposed f changed then openTest f s else s
  | .ft f => guardMain f s
  | _ => s

/-- R48: the repeat timer of an outstanding command expires. -/
def repeatExpired (d : Device) (s : State) : State :=
  if (s.dev d).cmd = .none then s else sendCommand d s

/-- R60: a failure flag is cleared when the device is reported OPEN with no command outstanding. -/
def clearFlagAtRest (d : Device) (s : State) : State :=
  if openAtRest (s.dev d) then s.updDev d fun r => { r with flag := .none } else s

/-- R44: an address is taken at adoption; a change of it re-addresses the record but for the notice, which the
caller gives. The outstanding command's frames go to the new target from now on, and its repeat timer restarts whether or
not a frame waits in the claim slot (DESIGN CHOICE, notes/assumptions/39). -/
def readdress (d : Device) (addr : Byte × Byte) (s : State) : State :=
  let r := s.dev d
  if r.addr = some addr then s
  else
    let moved := s.updDev d fun r => { r with addr := some addr, pos := .unknown, ageAt := none }
    if r.cmd = .none then moved
    else if (s.ring.claims.get d).isSome then sendCommand d moved
    else moved.updDev d fun r => { r with repeatAt := some (deadline s 1) }

/-- R64 steps 1, 2 and 5. -/
def restartSwitchgear (s : State) : State :=
  let cleared := forEach deviceList (fun d s => endCommand d s |> (·.updDev d fun r => { r with flag := .none })) s
  { cleared with unmatchedPos := 0, malformedPos := 0 }

end Sys2Proof.Machine
end

