-- ==== Sys2Proof/Machine/Evaluator.lean ====
section
/-! DEFINITION. The Feeder Evaluators (Chapter 2): settling, notices, the trip decision, and one instant at a time
through the three protective elements. Working through a whole arrival stands in Arrivals.lean, because adoption can
fall between two instants. -/

namespace Sys2Proof.Machine

/-! ## Settling and channel loss -/

/-- The counts and the event registers are set to 0 (R23, R24, R26, R34). -/
def Evaluator.clearElements (e : Evaluator) : Evaluator :=
  { e with instCount := 0, dtCount := 0, iBase := 0, elapsed := 0, hold := 0, peak := 0 }

/-- R32: the event registers are set to 0 and the evaluator is QUIET. -/
def Evaluator.endEvent (e : Evaluator) : Evaluator :=
  { e with state := .quiet, iBase := 0, elapsed := 0, hold := 0, peak := 0 }

/-- R23: the state that settling chooses. -/
def settledState (e : Evaluator) : EvState :=
  if !inService e then .off
  else if e.chanView ≠ .valid then .degraded
  else if e.posView = .opened then .off
  else .quiet

/-- FEEDER_DEGRADED: the value is the current channel's number (R23, R26). -/
def reportDegraded (f : Fin 8) (s : State) : State :=
  report .feederDegraded (.feeder f) none ((s.ev f).settings.map fun t => (t.chan.val : Int)) s

/-- R23: the evaluator settles. -/
def settle (f : Fin 8) (s : State) : State :=
  let e := s.ev f
  let settled := s.updEv f fun e => { e.clearElements with state := settledState e }
  if settledState e = .degraded && e.state ≠ .degraded then reportDegraded f settled else settled

/-- R34: a trip decision. The value is as R35 gives. -/
def tripDecision (f : Fin 8) (cause : Cause) (value : Int) (s : State) : State :=
  let asked := (s.updEv f fun e => { e.clearElements with
      state := .tripping, pendingTrip := some cause, lastTrip := some (cause, value) })
    |> askOpen (.fm f) .feederProtection
  let (slot, triggered) := trigger cause (.feeder f) asked
  let reported := submit .feederTrip (.feeder f) (some (feederTripCause cause)) (some value) slot triggered
  (if cause = .intertrip then reported else enqueue f .trip reported) |> tellTrip f cause

/-- R26: the current channel is lost in QUIET or RISING. -/
def channelLoss (f : Fin 8) (s : State) : State :=
  match (s.ev f).settings with
  | none => s
  | some t =>
    match t.lossAction with
    | .hold => (s.updEv f fun e => { e.clearElements with state := .degraded }) |> reportDegraded f
    | .trip => tripDecision f .channelLoss (lastUsable (s.chan t.chan)) s

/-- R25: the channel view changes to a state. -/
def viewChange (f : Fin 8) (new : ChanState) (s : State) : State :=
  let e := s.ev f
  let viewed := s.updEv f fun e => { e with chanView := new }
  match e.state with
  | .off => if inService e && e.chanView = .valid && new ≠ .valid then settle f viewed else viewed
  | .degraded => if new = .valid then settle f viewed else viewed
  | .tripping => viewed
  | .quiet | .rising => if new ≠ .valid then channelLoss f viewed else viewed

/-- R24: a position notice for FMf. -/
def evaluatorNotice (f : Fin 8) (new : Position) (s : State) : State :=
  let e := s.ev f
  let viewed := s.updEv f fun e => { e with posView := new }
  match e.state with
  | .off =>
    if new ≠ .opened && inService e && e.chanView = .valid then settle f viewed else viewed
  | .quiet | .rising =>
    if new = .opened then viewed.updEv f fun e => { e.clearElements with state := .off } else viewed
  | .tripping =>
    if new = .opened then (viewed.updEv f fun e => { e with pendingTrip := none }) |> settle f else viewed
  | .degraded => viewed

/-- R38: an intertrip trip request carrying a section code. -/
def intertripTrip (f : Fin 8) (code : Byte) (s : State) : State :=
  let e := s.ev f
  match e.state with
  | .quiet | .rising | .degraded => if e.posView = .opened then s else tripDecision f .intertrip code.toNat s
  | .off | .tripping => s

/-! ## One instant (R27 to R33) -/

/-- R32: the stop test and the lapse test with a slope; what they leave of the record, and the cause that ended the
event (1 SETTLED, 2 LAPSED). -/
def endTests (t : FeederSettings) (slope : Int) (e : Evaluator) : Option Nat × Evaluator :=
  let held := { e with hold := if (t.dStop : Int) ≤ slope then 0 else e.hold + 1 }
  if t.stopHold ≤ held.hold then (some 1, held.endEvent)
  else if t.tMax ≤ held.elapsed then (some 2, held.endEvent)
  else (none, held)

/-- The end tests with their EVENT_END report. -/
def testEnd (f : Fin 8) (t : FeederSettings) (slope : Int) (s : State) : State :=
  let (cause, e) := endTests t slope (s.ev f)
  let tested := s.updEv f fun _ => e
  match cause with
  | none => tested
  | some c => report .eventEnd (.feeder f) (some c) (some (s.ev f).peak) tested

/-- R28: a missing instant. -/
def missingStep (f : Fin 8) (t : FeederSettings) (s : State) : State :=
  let counted := s.updEv f fun e => { e with instCount := 0, dtCount := 0 }
  match (s.ev f).state with
  | .rising => (counted.updEv f fun e => { e with elapsed := e.elapsed + 1 }) |> testEnd f t 0
  | _ => counted

/-- R29: the slope, from the own instant and the slot four places older. -/
def slopeOf (own old : Instant) : Int :=
  if usable own && usable old then 2 * (signed own - signed old) else 0

/-- R32: the event start test, and the event's start. -/
def startTest (f : Fin 8) (t : FeederSettings) (own old : Instant) (s : State) : State :=
  if (t.dStart : Int) ≤ slopeOf own old then
    let started := s.updEv f fun e => { e with
      state := .rising, iBase := signed old, elapsed := 0, hold := 0, peak := signed own - signed old }
    if t.captureOnRising then triggerOnly .rising (.feeder f) started else started
  else s

/-- R31: a definite-time decision: a counting instant with the count at 8 × T_dt or more. -/
def definiteMet (t : FeederSettings) (own : Instant) (count : Nat) : Bool :=
  overThreshold t.iDt own && 8 * t.tDt ≤ count

/-- R33: the ΔI test, after elapsed has gone up. -/
def deltaMet (t : FeederSettings) (own : Instant) (e : Evaluator) : Bool :=
  usable own && (t.deltaISet : Int) ≤ signed own - e.iBase && t.tDelay ≤ e.elapsed

/-- R30 to R33: the frame's own instant in QUIET or RISING, its checks in their fixed order. -/
def ownStep (f : Fin 8) (t : FeederSettings) (own old : Instant) (s : State) : State :=
  let e := s.ev f
  let inst := if overThreshold t.iMax own then e.instCount + 1 else 0
  let dt := if overThreshold t.iDt own then e.dtCount + 1 else 0
  if 2 ≤ inst then tripDecision f .instant (signed own) s
  else
    match e.state with
    | .quiet =>
      if definiteMet t own dt then tripDecision f .definite (signed own) s
      else (s.updEv f fun e => { e with instCount := inst, dtCount := dt }) |> startTest f t own old
    | .rising =>
      let e1 := { e with
        instCount := inst, elapsed := e.elapsed + 1,
        peak := if usable own then max e.peak (signed own - e.iBase) else e.peak }
      if deltaMet t own e1 then tripDecision f .deltaI (signed own - e.iBase) s
      else if definiteMet t own dt then tripDecision f .definite (signed own) s
      else (s.updEv f fun _ => { e1 with dtCount := dt }) |> testEnd f t (slopeOf own old)
    | _ => s

/-- R40: the adoption of a feeder's settings by its evaluator: steps 2 to 4. The counts are kept when channel and
In service are unchanged and it settles to QUIET from QUIET. -/
def evaluatorAdopt (f : Fin 8) (t : FeederSettings) (settles : Bool) (s : State) : State :=
  let e := s.ev f
  let same := match e.settings with
    | none => false
    | some o => o.chan = t.chan && o.inService = t.inService
  let adopted := s.updEv f fun e => { e with
    settings := some t, chanView := (s.chan t.chan).state,
    instCount := if same then e.instCount else 0, dtCount := if same then e.dtCount else 0 }
  if settles then
    let settled := settle f adopted
    if same && e.state = .quiet && (settled.ev f).state = .quiet then
      settled.updEv f fun x => { x with instCount := e.instCount, dtCount := e.dtCount }
    else settled
  else adopted

/-- R40: the evaluator's half of a feeder's safe point. -/
def evaluatorSafe (f : Fin 8) (s : State) : Bool := evSafe (s.ev f).state

end Sys2Proof.Machine
end

