-- ==== Sys2Proof/Machine/Sequencer.lean ====
section
/-! DEFINITION. The Reclose Sequencers (Chapter 5): waits, holds, the line test, closing and reclaim, and the operator
requests on a feeder. -/

namespace Sys2Proof.Machine

/-! ## The plan, the bus and the record -/

/-- What a sequencer without a plan works from. No sequence runs without one (R88, R105). -/
def noPlan : Plan :=
  { limit := 0, dead := [], reclaim := 0, rTest := 0, rMin := 0, uTestMin := 0, uLive := 0, settle := 0, hold := 0,
    busWait := 0 }

/-- The adopted plan. -/
def planFor (f : Fin 8) (s : State) : Plan := (s.seq f).plan.getD noPlan

/-- The bus channel: the one the adopted rectifier settings name (R13). -/
def busChannel (s : State) : Option (Fin 24) := s.rect.settings.map fun t => t.busChan

/-- The line-voltage channel of a feeder (R13). -/
def lineChannel (f : Fin 8) (s : State) : Option (Fin 24) := (s.ev f).settings.map fun t => t.lineChan

/-- A channel is VALID; no channel is not. -/
def channelValid (c : Option (Fin 24)) (s : State) : Bool :=
  match c with
  | none => false
  | some c => (s.chan c).state = .valid

/-- The last usable value of a channel, taken as a voltage (R14, R15). -/
def voltageOf (c : Option (Fin 24)) (s : State) : Nat :=
  match c with
  | none => 0
  | some c => unsigned (s.chan c).last

/-- R90, R100: the bus channel is VALID with its last usable value at or above U_test_min. -/
def busGood (f : Fin 8) (s : State) : Bool :=
  channelValid (busChannel s) s && (planFor f s).uTestMin ≤ voltageOf (busChannel s) s

/-- A state is entered: the timers and marks of the state left are given up (R84). -/
def enterSeq (f : Fin 8) (st : SeqState) (s : State) : State :=
  s.updSeq f fun q => { q with
    state := st, timerAt := none, busWaitAt := none, waitStep := none, purpose := none, backingOff := false }

/-- The sequence timer starts, with a time in ms. -/
def startSeqTimer (f : Fin 8) (ms : Nat) (s : State) : State :=
  s.updSeq f fun q => { q with timerAt := some (deadline s ms) }

/-- R84: sums and counts are set to 0. -/
def clearSums (f : Fin 8) (s : State) : State :=
  s.updSeq f fun q => { q with busSum := 0, busCount := 0, lineSum := 0, lineCount := 0 }

/-- R85: an idle state is entered, with a = 0 and the limit in force at A. -/
def enterIdle (f : Fin 8) (st : SeqState) (s : State) : State :=
  (enterSeq f st s).updSeq f fun q => { q with attempts := 0, limit := (planFor f s).limit }

/-! ## Waiting (R89 to R92) -/

/-- dead_time[k] of a plan; a plan that has no such dead time gives a free value (notes/assumptions/37). -/
def deadTime (p : Plan) (k : Nat) : Nat := p.dead.getD k (Config.deadTimeBeyond k)

/-- R89: a wait with dead_time[k]. -/
def waitDead (f : Fin 8) (k : Nat) (s : State) : State :=
  if (s.seq f).hold then enterSeq f .held s
  else enterSeq f .deadTime s |> startSeqTimer f (deadTime (planFor f s) k)

/-- R90, R97, R100: WAIT_BUS with a waiting step; the bus-wait timer starts. -/
def waitBus (f : Fin 8) (step : WaitingStep) (s : State) : State :=
  (enterSeq f .waitBus s).updSeq f fun q => { q with
    waitStep := some step, busWaitAt := some (deadline s (1000 * (planFor f s).busWait)) }

/-- R100: the CLOSING entry checks. -/
def closingEntry (f : Fin 8) (s : State) : State :=
  if (s.ev f).state = .degraded then lockout f .noProtection s
  else if (s.seq f).hold then enterSeq f .held s
  else if !busGood f s then waitBus f .close s
  else
    let (taken, asked) := requestClose (.fm f) .sequencer s
    if taken then
      (enterSeq f .closing asked).updSeq f fun q => { q with attempts := q.attempts + 1 }
    else lockout f .closeRefused asked

/-- The last test result is written and TEST_RESULT reported (R93, R96). -/
def testResult (f : Fin 8) (o : TestOutcome) (r uB uL : Option Nat) (value : Option Int) (s : State) : State :=
  (s.updSeq f fun q => { q with
    lastTest := some ⟨o, r, uB, uL, s.time.day, s.time.micros, s.time.unset⟩ })
  |> report .testResult (.feeder f) (some (outcomeCode o)) value

/-- R93: the TESTING entry check. -/
def testingEntry (f : Fin 8) (s : State) : State :=
  if (s.ev f).state = .degraded then lockout f .noProtection s
  else
    let line := voltageOf (lineChannel f s) s
    if channelValid (lineChannel f s) s && (planFor f s).uLive ≤ line then
      testResult f .live none none (some line) (some line) s |> closingEntry f
    else
      let (taken, asked) := requestClose (.ft f) .sequencer s
      if taken then enterSeq f .testing asked else lockout f .closeRefused asked

/-- R90: the test start. -/
def testStart (f : Fin 8) (s : State) : State :=
  if (s.seq f).hold then enterSeq f .held s
  else if !busGood f s then waitBus f .test s
  else testingEntry f s

/-! ## The line test (R94 to R99) -/

/-- R96: what follows every outcome of a test in progress. -/
def testOutcome (f : Fin 8) (o : TestOutcome) (r uB uL : Option Nat) (value : Option Int) (s : State) : State :=
  (testResult f o r uB uL value s |> askOpen (.ft f) .sequencer |> enterSeq f .testClear).updSeq f fun q => { q with
    purpose := some (.outcome o) }

/-- R94, R95: a channel is lost during the test. -/
def measurementLost (f : Fin 8) (s : State) : State := testOutcome f .measurementLost none none none none s

/-- R96: R in unsigned 32-bit arithmetic, saturated at 65535. -/
def lineResistance (rTest uB uL : Nat) : Nat := sat16 (rTest * uL % 4294967296 / (uB - uL))

/-- R96: the outcome when both counts have reached 64. -/
def workOut (f : Fin 8) (s : State) : State :=
  let q := s.seq f
  let p := planFor f s
  let uB := q.busSum / 64
  let uL := q.lineSum / 64
  if uB < p.uTestMin then testOutcome f .busLow none (some uB) (some uL) (some uB) s
  else if uB ≤ uL then testOutcome f .live none (some uB) (some uL) (some uL) s
  else
    let r := lineResistance p.rTest uB uL
    testOutcome f (if p.rMin ≤ r then .healthy else .faulted) (some r) (some uB) (some uL) (some r) s

/-- R94 stage 1: FTf is reported CLOSED, and the settle timer starts. -/
def startSettling (f : Fin 8) (s : State) : State := startSeqTimer f (planFor f s).settle s

/-- R94 stage 2: the settle timer expires. -/
def settleExpired (f : Fin 8) (s : State) : State :=
  if channelValid (busChannel s) s && channelValid (lineChannel f s) s then
    enterSeq f .measuring s |> clearSums f
  else measurementLost f s

/-- R95: an arrival's own instant is added to one channel's sum. -/
def addReading (isBus isLine : Bool) (i : Instant) (q : Sequencer) : Sequencer :=
  let q := if isBus && usable i && q.busCount < 64 then
      { q with busSum := q.busSum + unsigned i, busCount := q.busCount + 1 } else q
  if isLine && usable i && q.lineCount < 64 then
    { q with lineSum := q.lineSum + unsigned i, lineCount := q.lineCount + 1 } else q

/-- R92, R95: the sequencer takes a copy of an arrival on its bus or line-voltage channel. -/
def takeSequencerCopy (f : Fin 8) (k : Copy) (s : State) : State :=
  let isBus := busChannel s = some k.chan
  let isLine := lineChannel f s = some k.chan
  let q := s.seq f
  match q.state with
  | .waitBus =>
    if isBus && k.after = .valid && usable k.own && (planFor f s).uTestMin ≤ unsigned k.own then
      match q.waitStep with
      | some .close => closingEntry f s
      | _ => testingEntry f s
    else s
  | .measuring =>
    if isBus || isLine then
      if k.after ≠ .valid then measurementLost f s
      else
        let added := s.updSeq f (addReading isBus isLine k.own)
        if (added.seq f).busCount = 64 && (added.seq f).lineCount = 64 then workOut f added else added
    else s
  | _ => s

/-- R95: a state notice that takes the bus or line-voltage channel out of VALID. -/
def sequencerStateNotice (f : Fin 8) (n : StateNotice) (s : State) : State :=
  if (s.seq f).state = .measuring && (busChannel s = some n.chan || lineChannel f s = some n.chan) &&
      n.old = .valid && n.new ≠ .valid then measurementLost f s
  else s

/-- R95: the bus channel has changed by the rectifier's adoption: a measurement in progress starts again. -/
def busChannelChanged (f : Fin 8) (s : State) : State :=
  if (s.seq f).state = .measuring then
    if channelValid (busChannel s) s then clearSums f s else measurementLost f s
  else s

/-- R98: a hold notice interrupts the test. -/
def interruptTest (f : Fin 8) (s : State) : State :=
  (clearSums f s |> askOpen (.ft f) .sequencer |> enterSeq f .testClear).updSeq f fun q => { q with
    purpose := some .hold }

/-- R97: FTf OPEN has completed in TEST_CLEAR. -/
def testCleared (f : Fin 8) (s : State) : State :=
  let q := s.seq f
  match q.purpose with
  | none => s
  | some (.outcome .healthy) | some (.outcome .live) => closingEntry f s
  | some (.outcome .faulted) =>
    let counted := s.updSeq f fun q => { q with attempts := q.attempts + 1 }
    if q.attempts + 1 < q.limit then waitDead f (q.attempts + 1) counted else lockout f .testFault counted
  | some (.outcome .busLow) => if q.hold then enterSeq f .held s else waitBus f .test s
  | some (.outcome .measurementLost) => lockout f .measurementLost s
  | some .hold => if q.hold then enterSeq f .held s else testStart f s

/-! ## Holds (R91, R98, R101) -/

/-- R101: a close is withdrawn for a hold. -/
def withdrawClose (f : Fin 8) (s : State) : State :=
  (askOpen (.fm f) .sequencer s).updSeq f fun q => { q with attempts := q.attempts - 1, backingOff := true }

/-- R91: a hold notice. -/
def holdNotice (f : Fin 8) (s : State) : State :=
  let held := s.updSeq f fun q => { q with
    hold := true, holdAt := some (deadline s (1000 * (planFor f s).hold)) }
  match (s.seq f).state with
  | .deadTime | .waitBus => enterSeq f .held held
  | .testing | .measuring => interruptTest f held
  | .closing =>
    if (s.dev (.fm f)).pos = .opened && !(s.seq f).backingOff then withdrawClose f held else held
  | _ => held

/-- R91: a release notice, or the expiry of the hold timer. -/
def releaseHold (f : Fin 8) (s : State) : State :=
  let freed := s.updSeq f fun q => { q with hold := false, holdAt := none }
  if (s.seq f).state = .held then testStart f freed else freed

/-! ## Sequence start, retrip and FMf (R86, R88, R89, R99, R101, R102) -/

/-- R88: a sequence starts, with the noted trip or EXTERNAL. -/
def sequenceStart (f : Fin 8) (s : State) : State :=
  let cause := (s.seq f).noted
  let started := s.updSeq f fun q => { q with attempts := 0, limit := (planFor f s).limit, noted := none }
  if !inService (s.ev f) || (s.seq f).plan = none then enterIdle f .idleOpen started
  else
    let reported := report .sequenceStart (.feeder f) (some (sequenceStartCause cause))
      (some (planFor f s).limit) started
    if cause = some .channelLoss then lockout f .channelLoss reported
    else if (planFor f s).limit = 0 then lockout f .noAttempts reported
    else waitDead f 0 reported

/-- R102: the retrip step. -/
def retrip (f : Fin 8) (s : State) : State :=
  let q := s.seq f
  let cleared := s.updSeq f fun q => { q with noted := none }
  if q.noted = some .channelLoss then lockout f .channelLoss cleared
  else if q.attempts < q.limit then waitDead f q.attempts cleared
  else lockout f .retrip cleared

/-- ABANDONED: cause 1 EXTERNAL, 2 OPERATOR (R89, R104). -/
def reportAbandoned (f : Fin 8) (cause : Nat) (s : State) : State :=
  report .abandoned (.feeder f) (some cause) none s

/-- R86, R89, R101, R102, R103: a position notice for FMf. -/
def mainNotice (f : Fin 8) (old new : Position) (mark : Bool) (s : State) : State :=
  let q := s.seq f
  match q.state with
  | .idleOpen =>
    if new = .closed then (enterIdle f .idleClosed s).updSeq f fun q => { q with noted := none }
    else if new = .opened && q.noted ≠ none then sequenceStart f s
    else s
  | .idleClosed =>
    if new = .opened then
      if q.noted ≠ none || mark then sequenceStart f s else enterIdle f .idleOpen s
    else s
  | .deadTime | .held | .waitBus =>
    if new = .closed then reportAbandoned f 1 (enterIdle f .idleClosed s) else s
  | .closing => if new = .opened && q.noted ≠ none then retrip f s else s
  | .reclaim =>
    if new = .opened && (q.noted ≠ none || mark || old = .unknown) then retrip f s else s
  | .lockout => if new = .opened then s.updSeq f fun q => { q with noted := none } else s
  | .testing | .measuring | .testClear => s

/-- R99: a position notice for FTf: in the second stage of TESTING and in MEASURING it drops out. -/
def testNotice (f : Fin 8) (old new : Position) (s : State) : State :=
  let q := s.seq f
  let watching := q.state = .measuring || (q.state = .testing && q.timerAt ≠ none)
  if watching && old = .closed && new ≠ .closed then
    s |> askOpen (.ft f) .sequencer |> lockout f .testContactor
  else s

/-- R97, R101: a command of FMf or FTf has completed. -/
def sequencerCompletion (f : Fin 8) (isMain : Bool) (c : Command) (s : State) : State :=
  let q := s.seq f
  match q.state, isMain, c with
  | .testing, false, .toClose => startSettling f s
  | .testClear, false, .toOpen => testCleared f s
  | .closing, true, .toClose => enterSeq f .reclaim s |> startSeqTimer f (1000 * (planFor f s).reclaim)
  | .closing, true, .toOpen =>
    if q.backingOff then (if q.hold then enterSeq f .held s else testStart f s) else s
  | _, _, _ => s

/-- R102: the reclaim timer expires. -/
def reclaimExpired (f : Fin 8) (s : State) : State :=
  enterIdle f .idleClosed s
  |> report .recloseSuccess (.feeder f) none (some (s.seq f).attempts)
  |> enqueue f .release

/-! ## Operator requests (R104 to R106) -/

/-- R104: OPEN; false when FMf's record is unassigned. -/
def operatorOpen (f : Fin 8) (s : State) : Bool × State :=
  let (taken, asked) := requestOpen (.fm f) .operator s
  if !taken then (false, s)
  else
    let ft := asked.dev (.ft f)
    let both := if ft.pos ≠ .opened || ft.cmd ≠ .none then askOpen (.ft f) .operator asked else asked
    if (both.seq f).state = .lockout then (true, both)
    else
      let idle := (enterIdle f .idleOpen (clearSums f both)).updSeq f fun q => { q with noted := none }
      (true, if seqIdle (both.seq f).state then idle else reportAbandoned f 2 idle)

/-- R105: whether an operator CLOSE is taken. -/
def operatorCloseTaken (f : Fin 8) (s : State) : Bool :=
  (s.seq f).state = .idleOpen && !(s.seq f).hold && inService (s.ev f)

/-- R105: a taken operator CLOSE starts a sequence with a limit of 1; SEQUENCE_START's cause OPERATOR is 6. -/
def operatorClose (f : Fin 8) (s : State) : State :=
  (s.updSeq f fun q => { q with attempts := 0, limit := 1, noted := none })
  |> report .sequenceStart (.feeder f) (some 6) (some 1)
  |> testStart f

/-- R106: whether a RESET_LOCKOUT is taken. -/
def resetLockoutTaken (f : Fin 8) (s : State) : Bool :=
  (s.seq f).state = .lockout && (s.dev (.fm f)).pos = .opened

/-- R106: a taken RESET_LOCKOUT. -/
def resetLockout (f : Fin 8) (s : State) : State :=
  (s |> clearFlagAtRest (.fm f) |> clearFlagAtRest (.ft f) |> enterIdle f .idleOpen).updSeq f (fun q => { q with
    lockCause := none })
  |> report .lockoutReset (.feeder f) none none
  |> enqueue f .release

/-! ## Adoption and RESTART -/

/-- R40: the sequencer's half of a feeder's safe point. -/
def sequencerSafe (f : Fin 8) (s : State) : Bool := seqSafe (s.seq f).state

/-- R108: a new plan is adopted; in the idle states the limit in force becomes the new A. -/
def sequencerAdopt (f : Fin 8) (p : Plan) (s : State) : State :=
  s.updSeq f fun q => { q with plan := some p, limit := if seqIdle q.state then p.limit else q.limit }

/-- R110 step 1: the sequence is abandoned without a report. -/
def restartSequencer (f : Fin 8) (s : State) : State :=
  (enterSeq f .idleOpen (clearSums f s)).updSeq f fun q => { q with
    attempts := 0, noted := none, hold := false, holdAt := none, lockCause := none }

/-- R110 steps 2 and 3: the limit takes the plan's A, and the idle state follows FMf's position. -/
def restartIdle (f : Fin 8) (s : State) : State :=
  enterIdle f (if (s.dev (.fm f)).pos = .closed then .idleClosed else .idleOpen) s

end Sys2Proof.Machine
end

