-- ==== Sys2Proof/Machine/Rectifier.lean ====
section
/-! DEFINITION. The Rectifier Group Controller's states (sections 6.2 to 6.4): the firing states and GATE_EN, trips,
deblock waits, the ordered stop, the notices of ACM and DCM, the operator requests, and the tracker's leaving
LOCKED. -/

namespace Sys2Proof.Machine

/-! ## States and trips -/

/-- R112: a state is entered. Outside the firing states GATE_EN is low, the schedule is discarded, every gate output
is low, and the flags and the overcurrent count are cleared (R122, R134). -/
def rectGo (st : RectState) (s : State) : State :=
  s.updRect fun r =>
    if firing st then { r with state := st, gateEn := true }
    else { r with state := st, gateEn := false, schedule := [], gates := Vector.replicate 12 none,
                  holdFlag := false, limitFlag := false, overCount := 0 }

/-- The stop step changes; the stop window is given up (R118). -/
def setStopStep (n : Nat) (s : State) : State :=
  s.updRect fun r => { r with stopStep := n, window := StopWindow.cleared }

/-- R123, R124: a trip. In OFF and TRIPPED it changes nothing. -/
def rectTrip (cause : Cause) (value : Int) (s : State) : State :=
  match s.rect.state with
  | .off | .tripped => s
  | _ =>
    let tripped := (s |> rectGo .tripped |> setStopStep 0).updRect fun r => { r with
      wait := .none, lastTrip := some (cause, value) }
    let asked := if cause = .overcurrent || cause = .feederBf then askOpen .dcm .rectifier tripped else tripped
    let (slot, triggered) := trigger cause .rectifier asked
    submit .rectTrip .rectifier (some (rectTripCause cause)) (some value) slot triggered

/-- R116: a deblock wait is cancelled; cause 1 DC_MAIN, 2 CURRENT_CHANNEL, 3 PHASE, 4 AC_MAIN, 5 STOP. -/
def cancelWait (cause : Nat) (s : State) : State :=
  if s.rect.wait = .none then s
  else
    let cancelled := (s.updRect fun r => { r with wait := .none })
      |> report .deblockCancelled .rectifier (some cause) none
    if (cancelled.dev .dcm).cmd = .toClose then askOpen .dcm .rectifier cancelled else cancelled

/-! ## The ordered stop (R118, R119) -/

/-- R119: a step has failed: a trip with its number, or in OFF the end of the stop. -/
def stopFailed (s : State) : State :=
  if s.rect.state = .off then setStopStep 0 s else rectTrip .stopIncomplete s.rect.stopStep s

/-- R118: step 2 begins, with its 1000 ms timer. -/
def beginStep2 (s : State) : State :=
  (setStopStep 2 s).updRect fun r => { r with window := { r.window with timerAt := some (deadline s 1000) } }

/-- R119: step 3 or step 4 asks for its breaker's OPEN; a refusal fails the step. -/
def beginBreakerStep (n : Nat) (d : Device) (s : State) : State :=
  let (taken, asked) := requestOpen d .rectifier (setStopStep n s)
  if taken then asked else stopFailed asked

/-- The rectifier becomes BLOCKED from a firing state; step 1 of an ordered stop is complete (R117, R118, R121).
Every high gate output is driven low with GATE_EN, as R112 says, also one that R117 would have run to its end (DESIGN
CHOICE, notes/assumptions/40). -/
def becomeBlocked (s : State) : State :=
  let blocked := rectGo .blocked s
  if s.rect.stopStep = 1 then beginStep2 blocked else blocked

/-- R118: one instant of a window: whether the step completes at it, and the window after it. -/
def windowStep (iLim : Nat) (i : Instant) (w : StopWindow) : Bool × StopWindow :=
  let w := { w with
    count := w.count + 1, sum := if usable i then w.sum + signed i else w.sum,
    usable := if usable i then w.usable + 1 else w.usable }
  if w.count < 160 then (false, w)
  else (0 < w.usable && w.sum.tdiv w.usable < ((iLim / 50 : Nat) : Int), { StopWindow.cleared with timerAt := w.timerAt })

/-- R118: the instants of an arrival, in order, up to the one that completes the step. -/
def windowSteps (iLim : Nat) : List Instant → StopWindow → Bool × StopWindow
  | [], w => (false, w)
  | i :: rest, w =>
    match windowStep iLim i w with
    | (true, w) => (true, w)
    | (false, w) => windowSteps iLim rest w

/-- The 1 + m instants of a copy, missing ones first. -/
def copyInstants (k : Copy) : List Instant := List.replicate k.missing missingInstant ++ [k.own]

/-- R118: step 2 takes an arrival on the rectifier current channel. -/
def stopArrival (t : RectSettings) (k : Copy) (s : State) : State :=
  if s.rect.stopStep = 2 then
    let (done, w) := windowSteps t.iLim (copyInstants k) s.rect.window
    if done then beginBreakerStep 3 .dcm s else s.updRect fun r => { r with window := w }
  else s

/-! ## The rectifier current (R122, R123, R133) -/

/-- The rectifier current channel is not VALID: a trip in a firing state (R123); when it has just left VALID, the
failure of stop step 2 (R118). -/
def currentLost (c : Fin 24) (left : Bool) (s : State) : State :=
  if firing s.rect.state then rectTrip .currentChannel c.val s
  else if s.rect.stopStep = 2 && left then stopFailed s
  else s

/-- R122: the overcurrent count after an arrival. -/
def overcurrentCount (t : RectSettings) (k : Copy) (n : Nat) : Nat :=
  if overThreshold t.iRMax k.own then (if k.missing = 0 then n + 1 else 1) else 0

/-- R122: overcurrent, in a firing state. -/
def overcurrent (t : RectSettings) (k : Copy) (s : State) : State :=
  if firing s.rect.state then
    let n := overcurrentCount t k s.rect.overCount
    if 4 ≤ n then rectTrip .overcurrent (signed k.own) s else s.updRect fun r => { r with overCount := n }
  else s

/-- R133: an arrival's own instant is added to the current sum. -/
def addCurrent (i : Instant) (s : State) : State :=
  if usable i then
    s.updRect fun r => { r with sums := { r.sums with
      curSum := r.sums.curSum + BitVec.ofInt 32 (signed i), curCount := r.sums.curCount + 1 } }
  else s

/-- R133: an arrival's own instant is added to the bus sum. -/
def addBus (i : Instant) (s : State) : State :=
  if usable i then
    s.updRect fun r => { r with sums := { r.sums with
      busSum := r.sums.busSum + i.value.setWidth 32, busCount := r.sums.busCount + 1 } }
  else s

/-- R118, R122, R133: the controller takes a copy of an arrival on the rectifier current channel. -/
def takeCurrentCopy (k : Copy) (s : State) : State :=
  match s.rect.settings with
  | none => s
  | some t =>
    if t.curChan = k.chan then
      let lost := if k.after = .valid then s else currentLost k.chan (k.before = .valid) s
      lost |> overcurrent t k |> addCurrent k.own |> stopArrival t k
    else s

/-- R133: the controller takes a copy of an arrival on the bus channel. -/
def takeBusCopy (k : Copy) (s : State) : State :=
  if busChannel s = some k.chan then addBus k.own s else s

/-! ## The tracker leaves LOCKED (R126, R127) -/

/-- The tracker has left LOCKED: a trip in a firing state, the end of a deblock wait (R116, R127). -/
def leftLocked (s : State) : State :=
  if firing s.rect.state then rectTrip .phaseLost s.rect.tracker.p256 s else cancelWait 3 s

/-- The tracker moves to a state other than LOCKED. Leaving LOCKED reports TRACKER_UNLOCKED; cause 1 OUT_OF_RANGE,
2 NO_CROSSING, 3 CHANNEL, 4 ADOPTION. The good-period count is 0 at once (DESIGN CHOICE, notes/assumptions/41). -/
def trackerTo (st : TrackState) (cause value : Nat) (s : State) : State :=
  let moved := s.updRect fun r => { r with tracker := { r.tracker with state := st, goodCount := 0 } }
  if s.rect.tracker.state = .locked then
    moved |> report .trackerUnlocked .rectifier (some cause) (some value) |> leftLocked
  else moved

/-- R127: the U_ab channel has left VALID. -/
def trackerChannelLost (s : State) : State := trackerTo .unlocked 3 s.rect.tracker.p256 s

/-- R123, R127: a state notice that takes a channel out of VALID, in each role the channel has; U_ab first (DESIGN CHOICE,
notes/assumptions/7), so that a trip of a channel with both roles is PHASE_LOST. The notice's cause makes no difference. -/
def rectStateNotice (n : StateNotice) (s : State) : State :=
  match s.rect.settings with
  | none => s
  | some t =>
    if n.old = .valid && n.new ≠ .valid then
      let tracked := if t.uabChan = n.chan then trackerChannelLost s else s
      if t.curChan = n.chan then currentLost n.chan true tracked else tracked
    else s

/-! ## Notices of the breakers (R113, R116, R119, R121) -/

/-- AC_OPENED: the value is the new position. -/
def reportAcOpened (new : Position) (s : State) : State :=
  report .acOpened .rectifier none (some (positionCode new)) s

/-- R113, R119: a position notice for ACM. -/
def acNotice (new : Position) (mark : Bool) (s : State) : State :=
  match s.rect.state with
  | .off =>
    if new = .closed then rectGo .blocked s
    else if mark && new = .opened then reportAcOpened new s
    else s
  | .blocked =>
    if new = .closed then s
    else
      let off := s |> rectGo .off |> cancelWait 4
      let ended := if off.rect.stopStep = 4 then off else setStopStep 0 off
      if mark then reportAcOpened new ended else ended
  | .starting | .running | .stopping =>
    if new = .opened || new = .travel || new = .faulty then rectTrip .acOpened (positionCode new) s else s
  | .tripped => s

/-- R116, R121: a position notice for DCM. -/
def dcNotice (old new : Position) (s : State) : State :=
  if new = .closed then s
  else if firing s.rect.state then
    becomeBlocked s |> report .dcLost .rectifier none (some (positionCode new))
  else if s.rect.wait = .crossing && old = .closed then cancelWait 1 s
  else s

/-- R116, R119: a command of DCM or ACM has completed. -/
def rectCompletion (d : Device) (c : Command) (s : State) : State :=
  match d, c with
  | .dcm, .toClose => if s.rect.wait = .dcm then s.updRect fun r => { r with wait := .crossing } else s
  | .dcm, .toOpen => if s.rect.stopStep = 3 then beginBreakerStep 4 .acm s else s
  | .acm, .toOpen =>
    if s.rect.stopStep = 4 then setStopStep 0 s |> report .stopDone .rectifier none none else s
  | _, _ => s

/-- R116: DCM has failed to close. -/
def dcCloseFailed (s : State) : State :=
  if s.rect.wait = .dcm then rectTrip .dcbCloseFail 500 s else s

/-- R59, R119: DCM or ACM has failed to open. -/
def rectOpenFailed (d : Device) (s : State) : State :=
  match d with
  | .dcm => if s.rect.stopStep = 0 then s else stopFailed s
  | .acm => if s.rect.stopStep = 4 then stopFailed s else s
  | _ => s

/-! ## Requests (R114, R115, R117, R118, R120) -/

/-- R114: CLOSE_AC. -/
def closeAc (s : State) : Bool × State :=
  if s.rect.state = .off then requestClose .acm .rectifier s else (false, s)

/-- R115: no FMf and not DCM carries OPEN_FAIL. -/
def noOpenFail (s : State) : Bool :=
  (feeders.all fun f => (s.dev (.fm f)).flag ≠ .openFail) && (s.dev .dcm).flag ≠ .openFail

/-- The adopted rectifier current channel is VALID (R115, R116). -/
def currentValid (s : State) : Bool := channelValid (s.rect.settings.map fun t => t.curChan) s

/-- R115: the conditions of DEBLOCK. -/
def deblockAllowed (s : State) : Bool :=
  s.rect.state = .blocked && s.rect.stopStep = 0 && s.rect.settings ≠ none && s.rect.tracker.state = .locked &&
    currentValid s && noOpenFail s

/-- R115: DEBLOCK. -/
def deblock (s : State) : Bool × State :=
  if !deblockAllowed s then (false, s)
  else if s.rect.wait ≠ .none then (true, s)
  else
    let dcm := s.dev .dcm
    if dcm.pos = .closed && noCommand dcm then (true, s.updRect fun r => { r with wait := .crossing })
    else
      let (taken, asked) := requestClose .dcm .rectifier s
      if taken then (true, asked.updRect fun r => { r with wait := .dcm }) else (false, s)

/-- R117: BLOCK. -/
def block (s : State) : Bool × State :=
  match s.rect.state with
  | .starting | .running => (true, rectGo .stopping s)
  | .stopping => (true, s)
  | _ => (false, s)

/-- R118: STOP_FULL. -/
def stopFull (s : State) : Bool × State :=
  if s.rect.stopStep ≠ 0 then (false, s)
  else
    match s.rect.state with
    | .starting | .running | .stopping => (true, rectGo .stopping s |> setStopStep 1)
    | .blocked => (true, cancelWait 5 s |> beginStep2)
    | _ => (false, s)

/-- R120: RESET_RECT. -/
def resetRect (s : State) : Bool × State :=
  if s.rect.state = .tripped then
    let cleared := s |> clearFlagAtRest .dcm |> clearFlagAtRest .acm
    (true, rectGo (if (cleared.dev .acm).pos = .closed then .blocked else .off) cleared)
  else (false, s)

/-- R138 steps 1 to 5. -/
def restartRect (s : State) : State :=
  (setStopStep 0 s).updRect fun r => { r with
    wait := .none, sums := CycleSums.zero, holdFlag := false, limitFlag := false, overCount := 0,
    counters := FiringCounters.zero }

end Sys2Proof.Machine
end

