-- ==== Sys2Proof/Machine/Firing.lean ====
section
/-! DEFINITION. The regulator (section 6.7) and the firing scheduler (section 6.6). -/

namespace Sys2Proof.Machine

/-! ## The regulator (R133, R134) -/

/-- R133: U_avg of the cycle. -/
def busAverage (c : CycleSums) : Nat := c.busSum.toNat / c.busCount.toNat

/-- R133: I_avg of the cycle, 0 when the current count is 0. -/
def currentAverage (c : CycleSums) : Int := if c.curCount = 0 then 0 else c.curSum.toInt.tdiv c.curCount.toNat

/-- R133: the regulator holds. -/
def regulatorHolds (t : RectSettings) (s : State) : Bool :=
  s.rect.sums.busCount = 0 || (s.chan t.busChan).state ≠ .valid

/-- R134 step 2: the target. -/
def busTarget (t : RectSettings) (iAvg : Int) : Int := t.uSet - ((t.droop : Int) * iAvg).tdiv 1000

/-- R134 steps 3 and 4: the proportional step, clamped. -/
def proportionalStep (t : RectSettings) (iAvg : Int) (uAvg : Nat) : Int :=
  clampInt (-500) 500 (-(((busTarget t iAvg - uAvg) * (t.gain : Int)).tdiv 64))

/-- R134 step 5: the current is at its limit. -/
def atLimit (t : RectSettings) (iAvg : Int) : Bool := (t.iLim : Int) ≤ iAvg

/-- R134 steps 4 to 6: Δα. -/
def alphaStep (t : RectSettings) (starting : Bool) (iAvg : Int) (uAvg : Nat) : Int :=
  let limited := if atLimit t iAvg then max (proportionalStep t iAvg uAvg) 50 else proportionalStep t iAvg uAvg
  if starting then max limited (-100) else limited

/-- R134 step 7: the new α. -/
def newAlpha (t : RectSettings) (starting : Bool) (iAvg : Int) (uAvg alpha : Nat) : Nat :=
  (clampInt t.alphaMin t.alphaMax (alpha + alphaStep t starting iAvg uAvg)).toNat

/-- R134 step 5: the CURRENT_LIMIT flag and the report of its change. -/
def setLimitFlag (limited : Bool) (s : State) : State :=
  if s.rect.limitFlag = limited then s
  else
    (s.updRect fun r => { r with limitFlag := limited })
    |> report .currentLimit .rectifier none (some (flagCode limited))

/-- R134 step 8: the test that ends STARTING. -/
def testRunning (t : RectSettings) (uTgt : Int) (s : State) : State :=
  if s.rect.state = .starting && (uTgt - 100 ≤ s.rect.uAvg || s.rect.alpha = t.alphaMin) then
    rectGo .running s |> report .running .rectifier none (some s.rect.alpha)
  else s

/-- R133: the HOLD flag is cleared at the first step that does not hold. -/
def resumeRegulator (s : State) : State :=
  if s.rect.holdFlag then
    (s.updRect fun r => { r with holdFlag := false }) |> report .regulatorResumed .rectifier none none
  else s

/-- R133, R134: the regulator's step at a crossing. -/
def regulatorStep (t : RectSettings) (s : State) : State :=
  let raw := currentAverage s.rect.sums
  if regulatorHolds t s then
    let kept := s.updRect fun r => { r with iAvg := raw, holdFlag := true }
    if s.rect.holdFlag then kept else report .regulatorHold .rectifier none (some t.busChan.val) kept
  else
    let iAvg := max raw 0
    let uAvg := busAverage s.rect.sums
    let starting := s.rect.state = .starting
    ((resumeRegulator s |> setLimitFlag (atLimit t iAvg)).updRect fun r => { r with
      uAvg := uAvg, iAvg := iAvg, alpha := newAlpha t starting iAvg uAvg r.alpha })
    |> testRunning t (busTarget t iAvg)

/-! ## The schedule (R129, R130, R132) -/

/-- R129: θ_k. -/
def firingAngle (alpha delta k : Nat) : Nat := (((alpha : Int) - delta + 3000 * k) % 36000).toNat

/-- R129: t_k in P256 units. -/
def firingTime (theta p256 : Nat) : Nat := (theta * p256 + 18000) % 4294967296 / 36000

/-- R129: the firing on gate output g after a crossing at a time on the own time base. -/
def firingFor (t : RectSettings) (crossing : Int) (now alpha p256 : Nat) (g : Fin 12) : Firing :=
  let due := crossing + firingTime (firingAngle alpha t.delta g.val) p256 * Config.unitsPerP256
  { gate := g, due := due, late := due < now }

/-- G1..G12. -/
def gateList : List (Fin 12) := [0, 1, 2, 3, 4, 5, 6, 7, 8, 9, 10, 11]

/-- R129: the twelve firings of a crossing are placed. -/
def placeFirings (t : RectSettings) (crossing : Int) (s : State) : State :=
  s.updRect fun r => { r with
    schedule := gateList.map (firingFor t crossing s.time.now r.alpha r.tracker.p256) }

/-- A counter raised n times. -/
def bumpBy (n k : Nat) : Nat := min (n + k) 65535

/-- R132: the firings that have not fallen due are dropped and counted. -/
def dropFirings (s : State) : State :=
  s.updRect fun r => { r with
    schedule := [], counters := { r.counters with dropped := bumpBy r.counters.dropped r.schedule.length } }

/-- R133: the cycle sums are set to 0. -/
def clearCycle (s : State) : State := s.updRect fun r => { r with sums := CycleSums.zero }

/-- R116: STARTING begins at a crossing. -/
def beginStarting (t : RectSettings) (crossing : Int) (s : State) : State :=
  ((s.updRect fun r => { r with
      wait := .none, alpha := t.alphaMax, sums := CycleSums.zero, overCount := 0, holdFlag := false,
      limitFlag := false }) |> rectGo .starting |> placeFirings t crossing)
  |> report .started .rectifier none (some t.alphaMax)

/-- R116: a crossing at the end of a deblock wait. -/
def endWait (t : RectSettings) (crossing : Int) (s : State) : State :=
  if (s.dev .dcm).pos ≠ .closed then cancelWait 1 s
  else if !currentValid s then cancelWait 2 s
  else beginStarting t crossing s

/-! ## A firing falls due (R117, R130) -/

/-- The pending firing with the earliest due time; of equals the first placed. -/
def earliest : List Firing → Option Firing
  | [] => none
  | x :: rest =>
    match earliest rest with
    | none => some x
    | some y => if x.due ≤ y.due then some x else some y

/-- R130: the firing comes too close after the last one on its output. -/
def tooClose (r : Rectifier) (x : Firing) : Bool :=
  r.gates[x.gate] ≠ none ||
    match r.lineRec[x.gate] with
    | none => false
    | some last => x.due - last < ((r.tracker.p256 / 4 * Config.unitsPerP256 : Nat) : Int)

/-- R130: a firing is suppressed or emitted. -/
def emitFiring (x : Firing) (s : State) : State :=
  s.updRect fun r =>
    let r := { r with schedule := r.schedule.erase x }
    if tooClose r x then { r with counters := { r.counters with suppressed := bump r.counters.suppressed } }
    else
      { r with
        gates := r.gates.set x.gate (some (s.time.now + 250 * Config.unitsPerUs)),
        lineRec := r.lineRec.set x.gate (some x.due),
        counters := { r.counters with
          emitted := bump r.counters.emitted, late := if x.late then bump r.counters.late else r.counters.late } }

/-- R117: the firing that ends STOPPING. -/
def blockDone (s : State) : State :=
  becomeBlocked s |> report .blockDone .rectifier none (some s.rect.alpha)

/-- R117, R130: the earliest pending firing falls due. -/
def firingFallsDue (s : State) : State :=
  match earliest s.rect.schedule with
  | none => s
  | some x =>
    let due := advanceTo x.due.toNat s
    if s.rect.state = .stopping then blockDone due else emitFiring x due

/-- R130: a gate output's pulse ends. -/
def gatePulseEnds (g : Fin 12) (s : State) : State := s.updRect fun r => { r with gates := r.gates.set g none }

end Sys2Proof.Machine
end

