-- ==== Sys2Proof/Machine/Positions.lean ====
section
/-! DEFINITION. Position notices, re-addressing, completions and failures of the switching devices (sections 3.1, 3.2,
3.4, 3.6), with what each hands to its owner. -/

namespace Sys2Proof.Machine

/-! ## Position notices (R46) -/

/-- R46: the uncommanded mark of a change, by the cases in order. -/
def uncommanded (r : DevRecord) (new : Position) : Bool :=
  if new = .faulty then noCommand r
  else if r.pos = .unknown || new = .unknown then false
  else noCommand r

/-- R46: the report of a change made by a frame. -/
def positionReport (d : Device) (r : DevRecord) (new : Position) (s : State) : State :=
  if new = .faulty then breakerReport .positionFaulty d (commandCode r.cmd) s
  else if r.pos = .unknown || new = .unknown then s
  else if noCommand r then breakerReport .uncommanded d (positionCode new) s
  else s

/-- R46: the position notice of a re-addressed record is handed to its owner, which is adopting; for FMf to the
evaluator and to the sequencer. -/
def giveNotice (d : Device) (old new : Position) (mark : Bool) (s : State) : State :=
  match d with
  | .fm f => s |> evaluatorNotice f new |> mainNotice f old new mark
  | .ft f => testNotice f old new s
  | .dcm => dcNotice old new s
  | .acm => acNotice new mark s

/-- R44: a record takes an address at its owner's adoption, with the notice of a position that becomes UNKNOWN. -/
def takeAddress (d : Device) (addr : Byte × Byte) (s : State) : State :=
  let r := s.dev d
  let moved := readdress d addr s
  if r.addr = some addr || r.pos = .unknown then moved
  else giveNotice d r.pos .unknown false moved |> guardPosition d moved

/-! ## Escalation (R58, R59) -/

/-- R58: FMf has failed to open. The time in the report is the setting in force now (DESIGN CHOICE, notes/assumptions/38). -/
def escalateMain (f : Fin 8) (s : State) : State :=
  let asked := s |> askOpen .dcm .escalation |> rectTrip .feederBf (f.val + 1) |> enqueue f .trip
  let (slot, triggered) := trigger .breakerFail (.feeder f) asked
  submit .openFail (.feeder f) (some (deviceCause (.fm f))) (some (openTime (.fm f) s)) slot triggered
  |> lockout f .breakerFail

/-- R53, R58, R59: the escalation that belongs to the device. -/
def escalate (d : Device) (s : State) : State :=
  match d with
  | .fm f => escalateMain f s
  | .ft f => breakerReport .openFail d (openTime d s) s |> lockout f .testContactor
  | .dcm => askOpen .acm .escalation s |> breakerReport .openFail d (openTime d s) |> rectOpenFailed d
  | .acm => breakerReport .openFail d (openTime d s) s |> rectOpenFailed d

/-! ## Failures and completion (R51 to R55) -/

/-- R53: an OPEN has failed; it goes on repeating. -/
def openFailed (d : Device) (s : State) : State :=
  (s.updDev d fun r => { r with flag := .openFail, cmdTimer := none }) |> escalate d

/-- R55: the owner is told that a CLOSE failed. -/
def tellCloseFailed (d : Device) (s : State) : State :=
  match d with
  | .fm f => lockout f .closeFail s
  | .ft f => lockout f .closeFail s
  | .dcm => dcCloseFailed s
  | .acm => s

/-- R55: a CLOSE has failed and is replaced by OPEN. -/
def closeFailed (d : Device) (s : State) : State :=
  (s.updDev d fun r => { r with flag := .closeFail })
  |> takeCommand d .toOpen (s.dev d).requester
  |> breakerReport .closeFail d (closeTime d s)
  |> tellCloseFailed d
  |> guardCommand d

/-- The owner is told of a completion. -/
def tellCompleted (d : Device) (c : Command) (s : State) : State :=
  match d with
  | .fm f => sequencerCompletion f true c s
  | .ft f => sequencerCompletion f false c s
  | d => rectCompletion d c s

/-- R54: the time from the command start to now, in ms. -/
def sinceStart (r : DevRecord) (s : State) : Nat := sat16 (nowMs s - r.cmdStart.getD (nowMs s))

/-- R51, R54: a command completes. An OPEN that completes with OPEN_FAIL set makes OPENED_LATE and keeps the flag. -/
def completeCommand (d : Device) (s : State) : State :=
  let r := s.dev d
  let ended := (endCommand d s).updDev d fun x => { x with flag := if x.flag = .closeFail then .none else x.flag }
  (if r.cmd = .toOpen && r.flag = .openFail then breakerReport .openedLate d (sinceStart r s) ended else ended)
  |> tellCompleted d r.cmd

/-! ## Timers of a command -/

/-- R53: the command timer of an OPEN expires. -/
def openTimerExpired (d : Device) (s : State) : State := if (s.dev d).cmd = .toOpen then openFailed d s else s

/-- R55: the command timer of a CLOSE expires. -/
def closeTimerExpired (d : Device) (s : State) : State := if (s.dev d).cmd = .toClose then closeFailed d s else s

end Sys2Proof.Machine
end

