-- ==== Sys2Proof/Machine/Banks.lean ====
section
/-! DEFINITION. The Setting Bank Store (sections 7.1 to 7.3): the banks, writing and reading them, and validation. -/

namespace Sys2Proof.Machine

/-! ## The banks (R139, R140) -/

/-- The bytes of a bank. -/
def bankBytes (bk : BankId) (s : State) : List Byte :=
  match bk with
  | .a => s.banks.bankA
  | .b => s.banks.bankB

/-- The state of a bank. -/
def bankState (bk : BankId) (s : State) : BankState :=
  match bk with
  | .a => s.banks.stateA
  | .b => s.banks.stateB

/-- Replace the bytes of a bank. -/
def setBankBytes (bk : BankId) (l : List Byte) (s : State) : State :=
  s.updBanks fun k => match bk with
    | .a => { k with bankA := l }
    | .b => { k with bankB := l }

/-- Change the state of a bank. -/
def setBankState (bk : BankId) (st : BankState) (s : State) : State :=
  s.updBanks fun k => match bk with
    | .a => { k with stateA := st }
    | .b => { k with stateB := st }

/-- The other bank. -/
def otherBank : BankId → BankId
  | .a => .b
  | .b => .a

/-- R140: the standby bank: A while none is active, else the one that is not active. -/
def standby (s : State) : BankId :=
  match s.banks.active with
  | none => .a
  | some bk => otherBank bk

/-- A switch-over is pending: there is a target (R139). -/
def switchPending (s : State) : Bool := s.banks.target ≠ none

/-! ## Structural faults (R144) -/

/-- A field with whether it holds a structural fault. -/
abbrev Check := FieldRef × Bool

/-- The pair (unit, stream) of a table 1 entry. -/
def streamPair (bank : List Byte) (e : Nat) : Nat × Nat := (field8 bank 1 e 0, field8 bank 1 e 1)

/-- A table 1 entry is used: its unit address is not 0. -/
def entryUsed (bank : List Byte) (e : Nat) : Bool := field8 bank 1 e 0 ≠ 0

/-- The channels that used entries 1..n of table 1 assign, in order. -/
def assignedUpTo (bank : List Byte) (n : Nat) : List Nat :=
  (List.range n).flatMap fun k =>
    if entryUsed bank (k + 1) then ((List.range 4).map fun p => field8 bank 1 (k + 1) (2 + p)).filter (· < 24) else []

/-- A unit address of a switching device outside 0x01..0xEF. -/
def badUnit (n : Nat) : Bool := n = 0 || 0xEF < n

/-- R144: an assignment code that is no channel and not NONE, or a channel assigned before. -/
def badAssignment (code : Nat) (before : List Nat) : Bool :=
  if code < 24 then before.contains code else code ≠ 0xFF

/-- R144, table 1: the checks of an entry, none for an unused one. -/
def checkStreamEntry (bank : List Byte) (e : Nat) : List Check :=
  if entryUsed bank e then
    let codes := (List.range 4).map fun p => field8 bank 1 e (2 + p)
    let twice := (List.range (e - 1)).any fun k => entryUsed bank (k + 1) && streamPair bank (k + 1) = streamPair bank e
    [(⟨1, e, 0⟩, decide (0xEF < field8 bank 1 e 0)), (⟨1, e, 1⟩, decide (15 < field8 bank 1 e 1) || twice)] ++
      (List.range 4).map fun p =>
        (⟨1, e, 2 + p⟩, badAssignment (codes.getD p 0) (assignedUpTo bank (e - 1) ++ codes.take p))
  else []

/-- The places of the 18 devices' addresses, in the order FM1, FT1, … FM8, FT8, DCM, ACM: table, entry and the unit's
offset; the element stands one byte on. -/
def devicePlaces : List (Nat × Nat × Nat) :=
  ((List.range 8).flatMap fun k => [(2, k + 1, 5), (2, k + 1, 7)]) ++ [(4, 1, 3), (4, 1, 5)]

/-- Unit address and element at a place. -/
def addressAt (bank : List Byte) (p : Nat × Nat × Nat) : Nat × Nat :=
  (field8 bank p.1 p.2.1 p.2.2, field8 bank p.1 p.2.1 (p.2.2 + 1))

/-- R144: the checks of a device's unit address and element, against the devices before it. -/
def checkDevice (bank : List Byte) (p : Nat × Nat × Nat) : List Check :=
  let mine := addressAt bank p
  let before := (devicePlaces.takeWhile (· ≠ p)).map (addressAt bank)
  [(⟨p.1, p.2.1, p.2.2⟩, badUnit mine.1), (⟨p.1, p.2.1, p.2.2 + 1⟩, decide (1 < mine.2) || before.contains mine)]

/-- R144, table 2: the checks of a record. -/
def checkFeeder (bank : List Byte) (e : Nat) : List Check :=
  let served := field8 bank 2 e 0 = 1
  let fed := assignedUpTo bank 24
  let badChannel (off : Nat) : Bool :=
    decide (23 < field8 bank 2 e off) || (served && !fed.contains (field8 bank 2 e off))
  [(⟨2, e, 0⟩, decide (1 < field8 bank 2 e 0)), (⟨2, e, 1⟩, badChannel 1), (⟨2, e, 2⟩, badChannel 2),
    (⟨2, e, 3⟩, decide (1 < field8 bank 2 e 3)), (⟨2, e, 4⟩, decide (1 < field8 bank 2 e 4))] ++
    checkDevice bank (2, e, 5) ++ checkDevice bank (2, e, 7)

/-- R144, table 3: the dead-time count is at most 4 and equals the attempt limit. -/
def checkPlan (bank : List Byte) (e : Nat) : List Check :=
  [(⟨3, e, 1⟩, decide (4 < field8 bank 3 e 1) || field8 bank 3 e 1 ≠ field8 bank 3 e 0)]

/-- R144, table 4. -/
def checkRect (bank : List Byte) : List Check :=
  ((List.range 3).map fun k => (⟨4, 1, k⟩, decide (23 < field8 bank 4 1 k))) ++
    checkDevice bank (4, 1, 3) ++ checkDevice bank (4, 1, 5) ++
    [(⟨4, 1, 14⟩, decide (field16 bank 4 1 14 < field16 bank 4 1 12))]

/-- R144, table 5. -/
def checkLine (bank : List Byte) : List Check :=
  [(⟨5, 1, 0⟩, decide (1 < field8 bank 5 1 0)), (⟨5, 1, 1⟩, decide (3 < field8 bank 5 1 1))]

/-- R144, table 6. -/
def checkCapture (bank : List Byte) : List Check :=
  let n := field8 bank 6 1 1
  [(⟨6, 1, 1⟩, n = 0 || 8 < n)] ++
    ((List.range (min n 8)).map fun k => (⟨6, 1, 2 + k⟩, decide (23 < field8 bank 6 1 (2 + k)))) ++
    [(⟨6, 1, 10⟩, decide (1 < field8 bank 6 1 10))]

/-- Entries 1..n. -/
def entries (n : Nat) : List Nat := (List.range n).map (· + 1)

/-- R144: every check, in the order in which the search makes them. -/
def structuralChecks (bank : List Byte) : List Check :=
  (entries 24).flatMap (checkStreamEntry bank) ++ (entries 8).flatMap (checkFeeder bank) ++
    (entries 8).flatMap (checkPlan bank) ++ checkRect bank ++ checkLine bank ++ checkCapture bank

/-- R144: the first fault found. -/
def firstFault (bank : List Byte) : Option FieldRef := ((structuralChecks bank).find? fun c => c.2).map fun c => c.1

/-! ## Clamping (R145) -/

/-- A bound of a range: a number, or the two-byte field of the same entry at an offset plus a number. -/
inductive Bound where
  | num (n : Nat)
  | field (off plus : Nat)
  deriving DecidableEq, Repr

/-- A numeric field of a table with its range; `width` in bytes. -/
structure FieldRange where
  table : Nat
  entry : Nat
  off   : Nat
  width : Nat
  lo    : Bound
  hi    : Bound
  deriving DecidableEq, Repr

/-- The value of a bound in a bank. -/
def boundIn (bank : List Byte) (table entry : Nat) : Bound → Nat
  | .num n => n
  | .field off plus => field16 bank table entry off + plus

/-- A two-byte field with fixed bounds. -/
def range16 (table entry off lo hi : Nat) : FieldRange := ⟨table, entry, off, 2, .num lo, .num hi⟩

/-- The ranges of a feeder record (section 2.1, R48). -/
def feederRanges (e : Nat) : List FieldRange :=
  [range16 2 e 10 500 30000, range16 2 e 12 50 5000, ⟨2, e, 14, 2, .num 10, .field 12 0⟩, range16 2 e 16 200 20000,
    range16 2 e 18 0 400, ⟨2, e, 20, 2, .field 18 1, .num 2000⟩, range16 2 e 22 2 64, range16 2 e 24 200 20000,
    range16 2 e 26 10 5000, range16 2 e 28 20 500, range16 2 e 30 50 2000]

/-- The ranges of a reclose plan (section 5.1), dead-time slots within the count only. -/
def planRanges (bank : List Byte) (e : Nat) : List FieldRange :=
  ((List.range (field8 bank 3 e 1)).map fun k => range16 3 e (2 + 2 * k) 100 60000) ++
    [range16 3 e 10 1 600, range16 3 e 12 100 20000, range16 3 e 14 10 5000, range16 3 e 16 1000 9000,
      range16 3 e 18 500 9000, range16 3 e 20 10 500, range16 3 e 22 1 120, range16 3 e 24 1 300]

/-- The ranges of the rectifier settings (section 6.1). -/
def rectRanges : List FieldRange :=
  [range16 4 1 8 5000 9000, range16 4 1 10 0 500, range16 4 1 12 300 7500, range16 4 1 14 300 7500,
    range16 4 1 16 0 1500, range16 4 1 18 500 12000, ⟨4, 1, 20, 2, .field 18 0, .num 20000⟩, range16 4 1 22 20 500]

/-- Every numeric field with its range, in the order in which the validator works; table 1 and table 6 have none, of
table 5 only the retry count (section 11.5). -/
def fieldRanges (bank : List Byte) : List FieldRange :=
  (entries 8).flatMap feederRanges ++ (entries 8).flatMap (planRanges bank) ++ rectRanges ++
    [⟨5, 1, 2, 1, .num 0, .num 3⟩]

/-- A clamping under way: how many more clamps it may make, the bank, the clamps made, the first field clamped. -/
structure Clamping where
  budget : Nat
  bank   : List Byte
  clamps : Nat
  first  : Option FieldRef
  deriving DecidableEq, Repr

/-- The nearer bound of a range, or the value itself. -/
def clampNat (lo hi x : Nat) : Nat := if x < lo then lo else if hi < x then hi else x

/-- R145: one field is clamped in the bank; out of budget, nothing more is. -/
def clampField (c : Clamping) (r : FieldRange) : Clamping :=
  let v := if r.width = 1 then field8 c.bank r.table r.entry r.off else field16 c.bank r.table r.entry r.off
  let v' := clampNat (boundIn c.bank r.table r.entry r.lo) (boundIn c.bank r.table r.entry r.hi) v
  if v' = v || c.budget = 0 then c
  else
    { budget := c.budget - 1, bank := splice c.bank (entryBase r.table r.entry + r.off) (bytesOf r.width v'),
      clamps := bump c.clamps,
      first := match c.first with | none => some ⟨r.table, r.entry, r.off⟩ | some x => some x }

/-- R145: the clamping of a bank, stopped after a number of clamps. -/
def clampBank (budget : Nat) (bank : List Byte) : Clamping :=
  (fieldRanges bank).foldl clampField ⟨budget, bank, 0, none⟩

/-- More clamps than a bank has fields. -/
def noLimit : Nat := 65535

/-! ## Requests and answers -/

/-- R160, R188: an answer built now, with the queued-report count. -/
def answerNow (o : ReplyOutcome) (r : Reason) (data : List Byte) (s : State) : Answer :=
  { outcome := o, reason := r, queued := s.reports.queue.length, data := data }

/-- Table, entry and field of an answer, one byte each (notes/assumptions/14, 15). -/
def fieldBytes (r : FieldRef) : List Byte := [byteOf r.table, byteOf r.entry, Config.fieldCode r.table r.field]

/-- A field that can be absent, with its presence byte (R196). -/
def optField : Option FieldRef → List Byte
  | none => [0, 0, 0, 0]
  | some r => 1 :: fieldBytes r

/-- R143: a taken VALIDATE. -/
def startValidation (src tag : Byte) (s : State) : State :=
  (setBankState (standby s) .validating s).updBanks fun k => { k with validator := some ⟨src, tag⟩ }

/-- R144: the bank has a structural fault. -/
def endInvalid (r : FieldRef) (s : State) : State :=
  let s := (setBankState (standby s) .invalid s).updBanks fun k => { k with
    validator := none, lastVal := some ⟨false, 0, some r⟩ }
  fillUnready (answerNow .refused .range (fieldBytes r) s) s

/-- R145: the bank has been clamped and is VALID. -/
def endValid (c : Clamping) (s : State) : State :=
  let bk := standby s
  let valid := (setBankBytes bk c.bank s |> setBankState bk .valid).updBanks fun k => { k with
    validator := none, lastVal := some ⟨true, c.clamps, c.first⟩ }
  let reported := if c.clamps = 0 then valid
    else report .clamped .bank (some (bankCode bk)) (some c.clamps) valid
  fillUnready (answerNow .done .none (bytesOf 2 c.clamps ++ optField c.first) reported) reported

/-- R144, R145: the running validation completes. -/
def completeValidation (s : State) : State :=
  match s.banks.validator with
  | none => s
  | some _ =>
    match firstFault (bankBytes (standby s) s) with
    | some r => endInvalid r s
    | none => endValid (clampBank noLimit (bankBytes (standby s) s)) s

/-- R153 step 1: a validation in flight is abandoned; the clamps it has made stay, how many being a free value
(R146, notes/assumptions/13). Its place in the answer queue is freed (R188). -/
def abandonValidation (s : State) : State :=
  match s.banks.validator with
  | none => s
  | some _ =>
    let bk := standby s
    let bank := bankBytes bk s
    let left := match firstFault bank with
      | some _ => bank
      | none => (clampBank (Config.freeNat s.freeCount) bank).bank
    ((setBankBytes bk left s |> setBankState bk .unchecked).updBanks fun k => { k with validator := none })
    |> freeUnready |> freeTaken

/-- R141: bytes are written into the standby bank, which becomes UNCHECKED. -/
def writeStandby (table off : Nat) (data : List Byte) (s : State) : State :=
  let bk := standby s
  setBankBytes bk (splice (bankBytes bk s) (tableBase table + off) data) s |> setBankState bk .unchecked

end Sys2Proof.Machine
end

