-- ==== Sys2Proof/Machine/Adoption.lean ====
section
/-! DEFINITION. Switch-over (section 7.4): how each consumer adopts the target, the consumer lists, the state notices
of a channel, and the sweep that lets every consumer at its safe point adopt. -/

namespace Sys2Proof.Machine

/-! ## Consumer lists and state notices (R13, R15) -/

/-- Whether the adopted settings of a block name a channel (R13). -/
def namesChannel (s : State) (c : Fin 24) : Consumer → Bool
  | .evaluator f => (s.ev f).settings.map (fun t => t.chan) = some c
  | .sequencer f =>
    (lineChannel f s = some c) || (busChannel s = some c)
  | .rectifier =>
    match s.rect.settings with
    | none => false
    | some t => t.busChan = c || t.curChan = c || t.uabChan = c
  | .capture => s.capture.settings.map (fun t => t.chans.contains c) = some true

/-- Every block that can be a consumer, in the order of a list (notes/assumptions/34). -/
def allConsumers : List Consumer :=
  feeders.map .evaluator ++ feeders.map .sequencer ++ [.rectifier, .capture]

/-- R13, R19: the consumer lists as the adopted settings give them. -/
def rebuildConsumers (s : State) : State :=
  { s with chans := Vector.ofFn fun c : Fin 24 =>
      { s.chan c with consumers := allConsumers.filter (namesChannel s c) } }

/-- R15: a state notice reaches one consumer. The capture unit records nothing for it (R168). -/
def noticeTo (n : StateNotice) (k : Consumer) (s : State) : State :=
  match k with
  | .evaluator f => viewChange f n.new s
  | .sequencer f => sequencerStateNotice f n s
  | .rectifier => rectStateNotice n s
  | .capture => s

/-- R15: a state notice goes to each consumer on the channel's list. -/
def stateNotice (n : StateNotice) (s : State) : State :=
  forEach (s.chan n.chan).consumers (noticeTo n) s

/-! ## The stream table (R17, R18) -/

/-- The entry used for a pair (unit, stream), if there is one. -/
def usedEntry (m : Vector StreamEntry 24) (unit stream : Byte) : Option StreamEntry :=
  m.toList.find? fun e => e.unit ≠ 0 && e.unit = unit && e.stream = stream

/-- R17: an entry of the new table takes over the state of the old entry with its pair. -/
def carryEntry (old : Vector StreamEntry 24) (e : StreamEntry) : StreamEntry :=
  if e.unit = 0 then e
  else
    match usedEntry old e.unit e.stream with
    | none => e
    | some o => { o with assign := e.assign }

/-- R18: the triple (unit, stream, position) that feeds a channel in a table. -/
def feedOf (m : Vector StreamEntry 24) (c : Fin 24) : Option (Byte × Byte × Nat) :=
  (m.toList.flatMap fun e =>
    if e.unit = 0 then [] else e.assign.zipIdx.filterMap fun (a, p) =>
      if a = some c then some (e.unit, e.stream, p) else none).head?

/-- R18: a channel is reset; its list and what waits for filing are kept. -/
def resetChannel (k : Channel) : Channel :=
  { Channel.initial with consumers := k.consumers, waiting := k.waiting }

/-- R18: one channel, by its assignment in the old and new tables. -/
def adoptChannel (old new : Vector StreamEntry 24) (c : Fin 24) (s : State) : State :=
  if feedOf old c = feedOf new c then s
  else
    let was := (s.chan c).state
    let reset := s.updChan c resetChannel
    if was = .absent then reset else stateNotice ⟨c, was, .absent, .adoption⟩ reset

/-- Channels 0..23. -/
def channelList : List (Fin 24) := List.ofFn fun c : Fin 24 => c

/-- R17, R18: the Stream Matcher and the Channel Store adopt. Channels 0 to 23 are looked at one after another, each with its
notice, which orders the reports that follow (DESIGN CHOICE, notes/assumptions/7). -/
def adoptStreams (bank : List Byte) (s : State) : State :=
  let old := s.matcher.entries
  let new := Vector.ofFn fun k : Fin 24 => carryEntry old (streamEntryOf bank k)
  forEach channelList (adoptChannel old new) (s.updMatcher fun m => { m with entries := new })

/-! ## The other consumers -/

/-- R40, R44, R108: feeder f adopts its record and its plan together. FMf is re-addressed before FTf (DESIGN CHOICE,
notes/assumptions/7). -/
def adoptFeeder (settles : Bool) (bank : List Byte) (f : Fin 8) (s : State) : State :=
  let t := feederOf bank f
  s |> evaluatorAdopt f t settles |> sequencerAdopt f (planOf bank f)
    |> takeAddress (.fm f) (t.mainUnit, t.mainElem) |> takeAddress (.ft f) (t.testUnit, t.testElem)

/-- R135 step 1: α is clamped. -/
def clampAlpha (t : RectSettings) (s : State) : State :=
  s.updRect fun r => { r with settings := some t, alpha := clampNat t.alphaMin t.alphaMax r.alpha }

/-- R135 step 4: the rectifier current channel has changed. Step 2 of an ordered stop goes on with its window, whatever
the new channel's state (DESIGN CHOICE, notes/assumptions/43). -/
def currentChanged (t : RectSettings) (s : State) : State :=
  let zeroed := s.updRect fun r => { r with overCount := 0 }
  if firing s.rect.state && (s.chan t.curChan).state ≠ .valid then rectTrip .currentChannel t.curChan.val zeroed
  else zeroed

/-- R135: the Rectifier Group Controller adopts; the sequencers' bus channel moves with it (R95). DCM is re-addressed
before ACM (DESIGN CHOICE, notes/assumptions/7). -/
def adoptRect (bank : List Byte) (s : State) : State :=
  let t := rectOf bank
  let old := s.rect.settings
  let clamped := clampAlpha t s
  let bus := if old.map (fun o => o.busChan) = some t.busChan then clamped
    else forEach feeders busChannelChanged clamped
  let uab := if old.map (fun o => o.uabChan) = some t.uabChan then bus
    else trackerTo .unlocked 4 bus.rect.tracker.p256 bus
  let cur := if old.map (fun o => o.curChan) = some t.curChan then uab else currentChanged t uab
  cur |> takeAddress .dcm (t.dcmUnit, t.dcmElem) |> takeAddress .acm (t.acmUnit, t.acmElem)

/-- R80: the Intertrip Controller adopts. -/
def adoptLine (bank : List Byte) (s : State) : State := adoptLineTable (lineTableOf bank) s

/-- R156: the report settings are adopted. -/
def adoptReports (bank : List Byte) (s : State) : State :=
  s.updReports fun q => { q with mask := some (classMaskOf bank) }

/-- R179: the Capture Unit adopts. -/
def adoptCapture (bank : List Byte) (s : State) : State :=
  s.updCapture (adoptCaptureSettings (captureSettingsOf bank))

/-! ## Marks (R139, R149, R150) -/

/-- The place of a feeder's mark. -/
def feederMark (f : Fin 8) : Fin 13 := ⟨f.val + 1, by omega⟩

/-- A mark of the pending mask is set. -/
def marked (k : Fin 13) (s : State) : Bool := s.banks.mask[k]

/-- R150: the switch-over completes: the target is ACTIVE, the bank that was active VALID. -/
def completeSwitch (target : BankId) (s : State) : State :=
  let demoted := match s.banks.active with
    | none => s
    | some old => setBankState old .valid s
  ((setBankState target .active demoted).updBanks fun k => { k with active := some target, target := none })
  |> report .active .bank (some (bankCode target)) none

/-- R149: a consumer's mark is cleared; the last one completes the switch-over. -/
def clearMark (k : Fin 13) (s : State) : State :=
  let cleared := s.updBanks fun b => { b with mask := b.mask.set k false }
  match s.banks.target with
  | none => cleared
  | some t => if cleared.banks.mask.toList.any id then cleared else completeSwitch t cleared

/-- R149: a marked consumer that is at its safe point adopts the target and clears its mark. -/
def adoptIf (k : Fin 13) (safe : State → Bool) (adopt : List Byte → State → State) (s : State) : State :=
  match s.banks.target with
  | none => s
  | some t => if marked k s && safe s then adopt (bankBytes t s) s |> clearMark k else s

/-- R40: feeder f's safe point. -/
def feederSafe (f : Fin 8) (s : State) : Bool := evaluatorSafe f s && sequencerSafe f s

/-- R135: the rectifier's safe point outside the crossing. -/
def rectSafe (s : State) : Bool := !firing s.rect.state

/-- One round over the consumers whose safe point can be awaited, in the order of R139. -/
def sweepOnce (s : State) : State :=
  forEach feeders (fun f => adoptIf (feederMark f) (feederSafe f) (fun b => adoptFeeder true b f)) s
  |> adoptIf 9 rectSafe adoptRect |> adoptIf 10 lineSafe adoptLine |> adoptIf 12 captureSafe adoptCapture

/-- Rounds of the sweep: an adoption can bring another consumer to its safe point, and each round but the last
clears a mark. -/
def sweeps : Nat → State → State
  | 0, s => s
  | n + 1, s => sweeps n (sweepOnce s)

/-- What ends each step that can bring a consumer to its safe point (R149; notes/assumptions/6). -/
def finish (s : State) : State :=
  if switchPending s then rebuildConsumers (sweeps 13 s) else s

/-- Step 2 of a crossing: the rectifier adopts if it is marked, whatever its state (R128). -/
def adoptRectAtCrossing (s : State) : State :=
  if switchPending s then rebuildConsumers (adoptIf 9 (fun _ => true) adoptRect s) else s

/-- A consumer adopts the target whatever its state. -/
def adoptAlways (k : Fin 13) (adopt : List Byte → State → State) (s : State) : State :=
  adoptIf k (fun _ => true) adopt s

/-- R148: a switch-over starts: the streams, the report settings, and then the other consumers, all of them when no
bank is active. -/
def startSwitch (s : State) : State :=
  let target := standby s
  let first := s.banks.active = none
  let marked := s.updBanks fun k => { k with target := some target, mask := Vector.replicate 13 true }
  let begun := marked |> adoptAlways 0 adoptStreams |> adoptAlways 11 adoptReports
  let all := if first then
      forEach feeders (fun f => adoptAlways (feederMark f) (fun b => adoptFeeder true b f)) begun
      |> adoptAlways 9 adoptRect |> adoptAlways 10 adoptLine |> adoptAlways 12 adoptCapture
    else begun
  rebuildConsumers (sweeps 13 all)

end Sys2Proof.Machine
end

