-- ==== Sys2Proof/Machine/Channels.lean ====
section
/-! DEFINITION. The Stream Matcher and the Channel Store (Chapter 1): the sequence check, filing, the channel states,
and the copies handed to consumers. -/

namespace Sys2Proof.Machine

/-! ## The Stream Matcher (R2 to R5) -/

/-- Outcome of the sequence check: discarded, or accepted with a number of missing instants (R3, R4). -/
def sequenceCheck (seq : Byte) (e : StreamEntry) : Option Nat × StreamEntry :=
  let accepted := { e with last := some seq, resynced := false, run := 0, accepted := bump e.accepted }
  match e.last with
  | none => (some (if e.resynced then 8 else 0), accepted)
  | some last =>
    let d := (seq - last).toNat
    if d = 0 then (none, { e with duplicates := bump e.duplicates })
    else if d = 1 then (some 0, accepted)
    else if d ≤ 128 then (some (d - 1), { accepted with gaps := bump e.gaps })
    else if e.run + 1 = 4 then
      (none, { e with last := none, resynced := true, run := 0, outOfOrder := bump e.outOfOrder,
                      resyncs := bump e.resyncs })
    else (none, { e with outOfOrder := bump e.outOfOrder, run := e.run + 1 })

/-- R5: the own instant of a value position: the frame's value, or MISSING when it carries none. -/
def ownInstant (payload : List Byte) (p : Nat) : Instant := (sampleValue payload p).getD missingInstant

/-- R5: an arrival is handed to a channel, to be filed at CHANNEL_ARRIVAL. -/
def handArrival (c : Fin 24) (a : Arrival) (s : State) : State :=
  s.updChan c fun k => { k with waiting := k.waiting ++ [a] }

/-- R5: a frame is filed into the channels of its entry. -/
def fileFrame (payload : List Byte) (missing : Nat) (assign : List (Option (Fin 24))) (s : State) : State :=
  forEach assign.zipIdx (fun (a, p) s =>
    match a with
    | none => s
    | some c => handArrival c ⟨missing, ownInstant payload p⟩ s) s

/-- R5: some assigned position lacks its value. -/
def isShort (payload : List Byte) (assign : List (Option (Fin 24))) : Bool :=
  assign.zipIdx.any fun (a, p) => a ≠ none && sampleValue payload p = none

/-- R2: the place of the used entry for a frame. -/
def matchEntry (unit stream : Byte) (m : Matcher) : Option (Fin 24) :=
  channelList.find? fun k => m.entries[k].unit ≠ 0 && m.entries[k].unit = unit && m.entries[k].stream = stream

/-- R2 to R5: the Stream Matcher takes a SAMPLE frame. -/
def takeSample (fr : Frame) (s : State) : State :=
  if !sampleWellFormed fr.payload then s.updMatcher fun m => { m with malformed := bump m.malformed }
  else
    match matchEntry fr.src (byteAt fr.payload 0) s.matcher with
    | none => s.updMatcher fun m => { m with unmatched := bump m.unmatched }
    | some k =>
      let (missing, e) := sequenceCheck (byteAt fr.payload 1) s.matcher.entries[k]
      match missing with
      | none => s.updMatcher fun m => { m with entries := m.entries.set k e }
      | some n =>
        let e := if isShort fr.payload e.assign then { e with short := bump e.short } else e
        (s.updMatcher fun m => { m with entries := m.entries.set k e }) |> fileFrame fr.payload n e.assign

/-! ## Filing (R7 to R12) -/

/-- R7: history, last usable value, good run and counters of one instant. -/
def recordInstant (i : Instant) (k : Channel) : Channel :=
  let k := { k with hist := k.hist.drop 1 ++ [i] }
  match i.mark with
  | .good | .saturated => { k with last := i, goodRun := min (k.goodRun + 1) 32, samples := bump k.samples }
  | .invalid => { k with goodRun := 0, samples := bump k.samples, invalid := bump k.invalid }
  | .missing => { k with goodRun := 0, missing := bump k.missing }

/-- R8 to R11: the state rules for one instant; a usable one restarts the staleness timer. -/
def stateRule (staleAt : Nat) (i : Instant) (k : Channel) : Channel :=
  if usable i then
    let timed := { k with staleAt := some staleAt }
    match k.state with
    | .absent | .stale => { timed with state := .recovering, goodRun := 1 }
    | .recovering => if k.goodRun = 32 then { timed with state := .valid } else timed
    | .valid => timed
  else
    match k.state with
    | .absent => { k with goodRun := 0 }
    | _ => k

/-- R7: one instant is filed. -/
def fileInstant (staleAt : Nat) (k : Channel) (i : Instant) : Channel := stateRule staleAt i (recordInstant i k)

/-- R7: the instants of an arrival are filed one at a time. -/
def fileArrival (staleAt : Nat) (a : Arrival) (k : Channel) : Channel :=
  (List.replicate a.missing missingInstant ++ [a.own]).foldl (fileInstant staleAt) k

/-- R12: a report of a channel, made when its consumer list is not empty. -/
def channelReport (code : ReportCode) (c : Fin 24) (value : Option Int) (s : State) : State :=
  if (s.chan c).consumers.isEmpty then s else report code (.channel c) none value s

/-- R14: a copy is handed to one consumer; the rectifier's takes it in each role the channel has. -/
def handCopy (k : Copy) (taker : Consumer) (s : State) : State :=
  match taker with
  | .evaluator f => s.updEv f fun e => { e with inbox := e.inbox ++ [k] }
  | .sequencer f => s.updSeq f fun q => { q with inbox := q.inbox ++ [k] }
  | .capture => s.updCapture fun c => { c with inbox := c.inbox ++ [k] }
  | .rectifier =>
    match s.rect.settings with
    | none => s
    | some t => s.updRect fun r => { r with
        uabIn := if t.uabChan = k.chan then r.uabIn ++ [k] else r.uabIn,
        curIn := if t.curChan = k.chan then r.curIn ++ [k] else r.curIn,
        busIn := if t.busChan = k.chan then r.busIn ++ [k] else r.busIn }

/-- R7 to R14: the Channel Store files the oldest arrival waiting for a channel. -/
def fileOldest (c : Fin 24) (s : State) : State :=
  let before := s.chan c
  match before.waiting with
  | [] => s
  | a :: rest =>
    let filed := s.updChan c fun k => { fileArrival (deadline s 2) a k with waiting := rest }
    let after := filed.chan c
    let reported := if before.state ≠ .valid && after.state = .valid then
        channelReport .channelValid c none filed else filed
    let copy : Copy := { chan := c, missing := a.missing, own := a.own, before := before.state,
                         after := after.state, hist := after.hist }
    forEach after.consumers (handCopy copy) reported

/-- R10, R12: a channel moves to STALE; its notice is given by the caller. -/
def goStale (c : Fin 24) (s : State) : State :=
  (s.updChan c fun k => { k with
    state := .stale, staleAt := none, goodRun := 0, staleMoves := bump k.staleMoves })
  |> channelReport .channelStale c (some (lastUsable (s.chan c)))

/-- R21: the counters of the Matcher and of the channels are set to 0. -/
def restartMeasurement (s : State) : State :=
  let m := s.matcher
  { s with
    matcher := { entries := m.entries.map fun e => { e with
                   accepted := 0, gaps := 0, duplicates := 0, outOfOrder := 0, short := 0, resyncs := 0 },
                 unmatched := 0, malformed := 0 }
    chans := s.chans.map fun k => { k with samples := 0, invalid := 0, missing := 0, staleMoves := 0 } }

end Sys2Proof.Machine
end

