-- ==== Sys2Proof/Machine/Tracker.lean ====
section
/-! DEFINITION. The phase tracker (section 6.5) and what a crossing does (R128). -/

namespace Sys2Proof.Machine

/-- A positive-going crossing: its time, and how many P256 units before the own instant it lies. -/
abbrev Found := BitVec 40 × Nat

/-- R125: the most recent usable slot before the own instant, with how far back it lies (1..7). The history is oldest
first, the own instant its last slot. -/
def lastUsableSlot (hist : List Instant) : Option (Nat × Instant) :=
  ((List.range 7).map fun j => (j + 1, hist.getD (6 - j) missingInstant)).find? fun x => usable x.2

/-- R125: at least 100 instants have passed since the last crossing. -/
def spaced (t : Tracker) (n : BitVec 32) : Bool :=
  match t.last with
  | none => true
  | some c => 100 ≤ (n - c.at_).toNat

/-- R125: the fraction f. -/
def crossingFraction (k : Nat) (own old : Int) : Nat := ((256 * (k : Int) * (-old)) / (own - old)).toNat

/-- R125: the crossing at instant n, if there is one. -/
def findCrossing (t : Tracker) (n : BitVec 32) (own : Instant) (hist : List Instant) : Option Found :=
  match lastUsableSlot hist with
  | none => none
  | some (k, old) =>
    if usable own && 0 ≤ signed own && signed old < 0 && spaced t n then
      let f := crossingFraction k (signed own) (signed old)
      some (BitVec.ofNat 40 (256 * n.toNat) - BitVec.ofNat 40 (256 * k) + BitVec.ofNat 40 f, 256 * k - f)
    else none

/-- R126: a good period. -/
def goodPeriod (p : Nat) : Bool := 37237 ≤ p && p ≤ 45511

/-- R125: the crossing is counted and its time taken, and the cycle sums follow it at its end (R133). -/
def noteCrossing (time : BitVec 40) (n : BitVec 32) (s : State) : State :=
  s.updRect fun r => { r with
    tracker := { r.tracker with last := some ⟨time, n⟩ },
    counters := { r.counters with crossings := bump r.counters.crossings } }

/-- R126: a period out of range is counted. -/
def rejectPeriod (s : State) : State :=
  s.updRect fun r => { r with counters := { r.counters with rejected := bump r.counters.rejected } }

/-- R128: the steps of a crossing that a LOCKED tracker takes with a good period. The crossing lies `back` P256 units
before now on the own time base (R129). -/
def lockedCrossing (back : Nat) (s : State) : State :=
  let base : Int := (s.time.now : Int) - back * Config.unitsPerP256
  let adopted := s |> dropFirings |> adoptRectAtCrossing
  match adopted.rect.settings with
  | none => clearCycle adopted
  | some t =>
    match adopted.rect.state with
    | .starting | .running => adopted |> regulatorStep t |> placeFirings t base |> clearCycle
    | .stopping => adopted |> placeFirings t base |> clearCycle
    | .blocked =>
      if adopted.rect.wait = .crossing then endWait t base adopted |> clearCycle else clearCycle adopted
    | _ => clearCycle adopted

/-- R126: the tracker takes a crossing. -/
def takeCrossing (time : BitVec 40) (back : Nat) (n : BitVec 32) (s : State) : State :=
  let tr := s.rect.tracker
  let period := match tr.last with
    | none => 0
    | some c => (time - c.time).toNat
  let noted := noteCrossing time n s
  match tr.state with
  | .unlocked =>
    clearCycle (noted.updRect fun r => { r with tracker := { r.tracker with state := .locking, goodCount := 0 } })
  | .locking =>
    if goodPeriod period then
      let counted := noted.updRect fun r => { r with tracker := { r.tracker with
        p256 := period, goodCount := tr.goodCount + 1,
        state := if tr.goodCount + 1 = 4 then .locked else .locking } }
      clearCycle (if tr.goodCount + 1 = 4 then
        report .trackerLocked .rectifier none (some period) counted else counted)
    else
      clearCycle ((rejectPeriod noted).updRect fun r => { r with tracker := { r.tracker with goodCount := 0 } })
  | .locked =>
    if goodPeriod period then
      lockedCrossing back (noted.updRect fun r => { r with tracker := { r.tracker with p256 := period } })
    else rejectPeriod noted |> trackerTo .locking 1 (sat16 period) |> clearCycle

/-- R127: the limit of the crossing timeout; none in UNLOCKED. -/
def timeoutLimit (t : Tracker) : Option Nat :=
  match t.state with
  | .unlocked => none
  | .locking => some 56888
  | .locked => some (t.p256 + t.p256 / 4)

/-- R127: no crossing in time. -/
def timeoutCheck (s : State) : State :=
  let tr := s.rect.tracker
  match timeoutLimit tr, tr.last with
  | some limit, some c =>
    if limit < (BitVec.ofNat 40 (256 * tr.count.toNat) - c.time).toNat then trackerTo .unlocked 2 tr.p256 s else s
  | _, _ => s

/-- R125 to R128: the tracker takes a copy of a U_ab arrival: it raises its instant count, looks for a crossing, and
then makes the timeout check (notes/assumptions/17). -/
def takeTrackerCopy (k : Copy) (s : State) : State :=
  if s.rect.settings.map (fun t => t.uabChan) = some k.chan then
    let n := s.rect.tracker.count + 1 + BitVec.ofNat 32 k.missing
    let counted := s.updRect fun r => { r with tracker := { r.tracker with count := n } }
    if k.after = .valid then
      timeoutCheck (match findCrossing s.rect.tracker n k.own k.hist with
        | none => counted
        | some (time, back) => takeCrossing time back n counted)
    else if s.rect.tracker.state = .unlocked then counted
    else trackerChannelLost counted
  else s

end Sys2Proof.Machine
end

