-- ==== Sys2Proof/Machine/Arrivals.lean ====
section
/-! DEFINITION. How a block takes what the Channel Store has handed it: an evaluator's arrival instant by instant, and
the oldest item of each hand-over queue, one at a time or all of them (notes/assumptions/1 and 5). -/

namespace Sys2Proof.Machine

/-! ## An evaluator's arrival (R27) -/

/-- The settings by which the evaluator still evaluates a copy: it is in QUIET or RISING and the copy is of its
current channel. -/
def evaluates (f : Fin 8) (c : Fin 24) (s : State) : Option FeederSettings :=
  match (s.ev f).settings with
  | none => none
  | some t => if t.chan = c && ((s.ev f).state = .quiet || (s.ev f).state = .rising) then some t else none

/-- R27: the missing instants, oldest first; a feeder that reaches its safe point adopts between two instants
(R149). -/
def missingSteps (f : Fin 8) (c : Fin 24) : Nat → State → State
  | 0, s => s
  | n + 1, s =>
    match evaluates f c s with
    | none => s
    | some t => missingSteps f c n (finish (missingStep f t s))

/-- R25, R27: evaluator f takes a copy of an arrival. -/
def takeEvaluatorCopy (f : Fin 8) (k : Copy) (s : State) : State :=
  if (s.ev f).settings.map (fun t => t.chan) = some k.chan then
    match (s.ev f).state with
    | .quiet | .rising =>
      if k.after = .valid then
        let worked := missingSteps f k.chan k.missing (viewChange f k.after s)
        match evaluates f k.chan worked with
        | none => worked
        | some t => ownStep f t k.own (k.hist.getD 3 missingInstant) worked
      else viewChange f k.after s
    | _ => viewChange f k.after s
  else s

/-! ## Taking the oldest item -/

/-- Evaluator f takes the oldest copy waiting for it. -/
def evaluatorTakes (f : Fin 8) (s : State) : State :=
  match (s.ev f).inbox with
  | [] => s
  | k :: rest => takeEvaluatorCopy f k (s.updEv f fun e => { e with inbox := rest }) |> finish

/-- Sequencer f takes the oldest copy waiting for it. -/
def sequencerTakes (f : Fin 8) (s : State) : State :=
  match (s.seq f).inbox with
  | [] => s
  | k :: rest => takeSequencerCopy f k (s.updSeq f fun q => { q with inbox := rest }) |> finish

/-- The phase tracker takes the oldest U_ab copy waiting for it. -/
def trackerTakes (s : State) : State :=
  match s.rect.uabIn with
  | [] => s
  | k :: rest => takeTrackerCopy k (s.updRect fun r => { r with uabIn := rest }) |> finish

/-- The rectifier takes the oldest current copy waiting for it. -/
def currentTakes (s : State) : State :=
  match s.rect.curIn with
  | [] => s
  | k :: rest => takeCurrentCopy k (s.updRect fun r => { r with curIn := rest }) |> finish

/-- The rectifier takes the oldest bus copy waiting for it. -/
def busTakes (s : State) : State :=
  match s.rect.busIn with
  | [] => s
  | k :: rest => takeBusCopy k (s.updRect fun r => { r with busIn := rest })

/-- The Capture Unit takes the oldest copy waiting for it. -/
def captureTakes (s : State) : State :=
  match s.capture.inbox with
  | [] => s
  | k :: rest => takeCaptureCopy k (s.updCapture fun c => { c with inbox := rest }) |> finish

/-! ## Draining -/

/-- Do something n times. -/
def times : Nat → (State → State) → State → State
  | 0, _, s => s
  | n + 1, k, s => times n k (k s)

/-- A consumer takes everything that waits for it. The rectifier takes the whole of its U_ab queue, then its current
queue, then its bus queue (DESIGN CHOICE, notes/assumptions/5). -/
def drainConsumer (k : Consumer) (s : State) : State :=
  match k with
  | .evaluator f => times (s.ev f).inbox.length (evaluatorTakes f) s
  | .sequencer f => times (s.seq f).inbox.length (sequencerTakes f) s
  | .capture => times s.capture.inbox.length captureTakes s
  | .rectifier =>
    times s.rect.uabIn.length trackerTakes s
    |> (fun s => times s.rect.curIn.length currentTakes s)
    |> fun s => times s.rect.busIn.length busTakes s

/-- Every arrival waiting is filed, and every copy taken. -/
def drainAll (s : State) : State :=
  forEach channelList (fun c s => times (s.chan c).waiting.length (fileOldest c) s) s
  |> forEach allConsumers drainConsumer

/-- R10, R15: a channel's staleness timer expires. What its consumers have been handed before is taken first, so that
each takes its copies and notices in the order they were handed (R22). -/
def stalenessExpired (c : Fin 24) (s : State) : State :=
  if (s.chan c).state = .recovering || (s.chan c).state = .valid then
    let drained := forEach (s.chan c).consumers drainConsumer s
    goStale c drained |> stateNotice ⟨c, (s.chan c).state, .stale, .staleness⟩ |> finish
  else s

end Sys2Proof.Machine
end

