-- ==== Sys2Proof/Machine/PositionFrames.lean ====
section
/-! DEFINITION. A change of a device's position (sections 3.2, 3.3): the POSITION frame, the ageing, and the notice, with
the owner's safe point looked for after each part of it (R149). -/

namespace Sys2Proof.Machine

/-- R46, R149: the position notice is handed to the owner, which adopts at once if it is at its safe point; for FMf to
the evaluator and then to the sequencer, with the safe point looked for between the two (notes/assumptions/6, 7). -/
def ownerNotice (d : Device) (old new : Position) (mark : Bool) (s : State) : State :=
  match d with
  | .fm f => s |> evaluatorNotice f new |> finish |> mainNotice f old new mark |> finish
  | d => s |> giveNotice d old new mark |> finish

/-- A frame has changed a record's position: report, notice, guards (R45, R46; notes/assumptions/7). -/
def changePosition (d : Device) (new : Position) (s : State) : State :=
  let r := s.dev d
  let changed := s.updDev d fun r => { r with pos := new }
  positionReport d r new changed
  |> ownerNotice d r.pos new (uncommanded r new)
  |> guardPosition d changed |> finish

/-- R47: a record's position ages to UNKNOWN. -/
def positionAged (d : Device) (s : State) : State :=
  let r := s.dev d
  let aged := s.updDev d fun r => { r with pos := .unknown, ageAt := none }
  if r.pos = .unknown then aged
  else
    breakerReport .positionUnknown d (positionCode r.pos) aged
    |> ownerNotice d r.pos .unknown false |> guardPosition d aged

/-- R51, R52: the command checks after a POSITION frame. -/
def commandChecks (d : Device) (s : State) : State :=
  let r := s.dev d
  match r.cmd, r.pos with
  | .toOpen, .opened | .toClose, .closed => completeCommand d s
  | .toOpen, .faulty => if r.cmdTimer = none then s else openFailed d s
  | .toClose, .faulty => closeFailed d s
  | _, _ => s

/-- A matched record takes a position. -/
def matchPosition (new : Position) (d : Device) (s : State) : State :=
  let fresh := s.updDev d fun r => { r with ageAt := some (deadline s 50) }
  (if (s.dev d).pos = new then fresh else changePosition d new fresh) |> commandChecks d

/-- R45: the records that a frame's source and element name, in the claim list's order (notes/assumptions/30). -/
def matchingDevices (unit elem : Byte) (s : State) : List Device :=
  deviceList.filter fun d => (s.dev d).addr = some (unit, elem)

/-- R45: the Switchgear Supervisor takes a POSITION frame. -/
def takePosition (fr : Frame) (s : State) : State :=
  let elem := byteAt fr.payload 0
  if fr.payload.length ≠ 2 || 1 < elem.toNat then { s with malformedPos := bump s.malformedPos }
  else
    match framePosition (byteAt fr.payload 1) with
    | none => { s with malformedPos := bump s.malformedPos }
    | some new =>
      match matchingDevices fr.src elem s with
      | [] => { s with unmatchedPos := bump s.unmatchedPos }
      | ds => forEach ds (matchPosition new) s

end Sys2Proof.Machine
end

