-- ==== Sys2Proof/Machine/Answers.lean ====
section
/-! DEFINITION. The data of each answer, byte by byte (R196, section 11.3). Widths the manual's table does not settle
are named in notes/assumptions/15. -/

namespace Sys2Proof.Machine

/-! ## Items (R196) -/

/-- A code, state or flag: one byte. -/
def one (n : Nat) : List Byte := [byteOf n]

/-- A count, counter or quantity: two bytes. -/
def two (n : Nat) : List Byte := bytesOf 2 n

/-- A timer's remaining time, a sum or a flow counter: four bytes. -/
def four (n : Nat) : List Byte := bytesOf 4 n

/-- A flag. -/
def flagByte (b : Bool) : List Byte := one (flagCode b)

/-- An item that can be absent: a presence byte, then its bytes, or as many zeros. -/
def optional {α : Type} (width : Nat) (bytes : α → List Byte) : Option α → List Byte
  | none => List.replicate (width + 1) 0
  | some x => 1 :: bytes x

/-- A station time: presence byte 1, or 3 with TIME-UNSET, then day and microseconds. -/
def stationTime (day micros : Nat) (unset : Bool) : List Byte :=
  one (if unset then 3 else 1) ++ bytesOf 2 day ++ bytesOf 5 micros

/-- A list: a count byte, then the entries. -/
def listOf {α : Type} (bytes : α → List Byte) (l : List α) : List Byte := one l.length ++ l.flatMap bytes

/-- A trip cause with its value (R39, R136). -/
def tripBytes (t : Cause × Int) : List Byte := one (causeCode t.1) ++ signedBytes 4 t.2

/-- An instant of a history: its value and its mark. -/
def instantBytes (i : Instant) : List Byte := bytesOf 2 i.value.toNat ++ one (markCode i.mark)

/-! ## STATUS (R191, R151) -/

/-- The last validation: verdict by the bank state's code, clamp count, field. -/
def validationBytes (v : LastValidation) : List Byte :=
  one (bankStateCode (if v.valid then .valid else .invalid)) ++ two v.clamps ++ optField v.first

/-- The pending mask: bit k marks consumer position k. -/
def maskBytes (m : Vector Bool 13) : List Byte :=
  two (m.toList.zipIdx.foldl (fun n x => n + (if x.1 then 2 ^ x.2 else 0)) 0)

/-- STATUS. -/
def statusData (s : State) : List Byte :=
  stationTime s.time.day s.time.micros s.time.unset ++ one (rectStateCode s.rect.state) ++
    (feeders.flatMap fun f => one (evStateCode (s.ev f).state) ++ one (seqStateCode (s.seq f).state)) ++
    one (bankStateCode s.banks.stateA) ++ one (bankStateCode s.banks.stateB) ++
    one (match s.banks.active with | none => 0 | some k => bankCode k) ++ maskBytes s.banks.mask ++
    optional 7 validationBytes s.banks.lastVal ++ two s.reports.queue.length ++
    (allSlots.flatMap fun i => one (slotStateCode s.capture.slots[i].state)) ++
    one (ringStateCode s.ring.ring) ++ one (lineStateCode s.line.state)

/-! ## READ_FEEDER (R39, R61, R107) -/

/-- R39: the evaluator's items. -/
def evaluatorBytes (e : Evaluator) : List Byte :=
  one (evStateCode e.state) ++ one (positionCode e.posView) ++ two e.instCount ++ two e.dtCount ++
    signedBytes 2 e.iBase ++ two e.elapsed ++ two e.hold ++ signedBytes 4 e.peak ++ optional 5 tripBytes e.lastTrip

/-- R61: a switching-device record. -/
def deviceBytes (s : State) (r : DevRecord) : List Byte :=
  one (positionCode r.pos) ++ one (commandCode r.cmd) ++ optional 1 (fun q => one (requesterCode q)) r.requester ++
    one (failFlagCode r.flag) ++ four (timeLeft s r.cmdTimer) ++ flagByte (r.addr ≠ none)

/-- The last test result (R107). -/
def testBytes (t : TestResult) : List Byte :=
  one (outcomeCode t.outcome) ++ optional 2 two t.r ++ optional 2 two t.uB ++ optional 2 two t.uL ++
    stationTime t.day t.micros t.unset

/-- R107: the sequencer's items. The limit in force is 2 bytes like the attempt count (DESIGN CHOICE,
notes/assumptions/15). -/
def sequencerBytes (s : State) (q : Sequencer) : List Byte :=
  one (seqStateCode q.state) ++ optional 1 (fun c => one (lockoutCode c)) q.lockCause ++ two q.attempts ++
    two q.limit ++ flagByte q.hold ++ four (timeLeft s q.holdAt) ++ four (timeLeft s q.timerAt) ++
    four (timeLeft s q.busWaitAt) ++ optional 1 (fun w => one (waitStepCode w)) q.waitStep ++
    optional 4 (fun c : Nat × Nat => two c.1 ++ two c.2)
      (if q.state = .measuring then some (q.busCount, q.lineCount) else none) ++
    optional 18 testBytes q.lastTest

/-- READ_FEEDER. -/
def feederData (f : Fin 8) (s : State) : List Byte :=
  evaluatorBytes (s.ev f) ++ deviceBytes s (s.dev (.fm f)) ++ deviceBytes s (s.dev (.ft f)) ++
    sequencerBytes s (s.seq f)

/-! ## READ_RECTIFIER, READ_CHANNEL (R136, R16) -/

/-- The six firing counters. -/
def firingBytes (c : FiringCounters) : List Byte :=
  two c.emitted ++ two c.suppressed ++ two c.dropped ++ two c.late ++ two c.crossings ++ two c.rejected

/-- READ_RECTIFIER. -/
def rectData (s : State) : List Byte :=
  let r := s.rect
  one (rectStateCode r.state) ++ one (waitCode r.wait) ++ one r.stopStep ++ one (trackStateCode r.tracker.state) ++
    two r.tracker.goodCount ++ two r.tracker.p256 ++ two r.alpha ++ two r.uAvg ++ signedBytes 2 r.iAvg ++
    flagByte r.holdFlag ++ flagByte r.limitFlag ++ optional 5 tripBytes r.lastTrip ++ firingBytes r.counters ++
    deviceBytes s (s.dev .dcm) ++ deviceBytes s (s.dev .acm)

/-- READ_CHANNEL. -/
def channelData (c : Fin 24) (s : State) : List Byte :=
  let k := s.chan c
  one (chanStateCode k.state) ++ instantBytes k.last ++ two k.goodRun ++ listOf instantBytes k.hist ++
    two k.samples ++ two k.invalid ++ two k.missing ++ two k.staleMoves ++ flagByte (!k.consumers.isEmpty)

/-! ## READ_COUNTERS (R192, R6, R81, R162, R178, R136) -/

/-- The ring group: the ring state and thirteen counters. -/
def ringCounterData (s : State) : List Byte :=
  let c := s.ring.counters
  one (ringStateCode s.ring.ring) ++ two c.good ++ two c.crc ++ two c.framing ++ two c.returned ++ two c.relayed ++
    two c.drops ++ two c.unused ++ two c.commands ++ two c.answers ++ two c.overruns ++ two c.downs ++
    two s.unmatchedPos ++ two s.malformedPos

/-- An entry of the stream table (R6); an unused one answers as R6 gives. Its stream number, which R6 does not give, is 0,
and the last sequence count is 1 byte (DESIGN CHOICE, notes/assumptions/15). -/
def entryData (e : StreamEntry) : List Byte :=
  let e := if e.unit = 0 then StreamEntry.unused else e
  [e.unit, e.stream] ++ optional 1 (fun x : Byte => [x]) e.last ++ two e.run ++ two e.accepted ++ two e.gaps ++
    two e.duplicates ++ two e.outOfOrder ++ two e.short ++ two e.resyncs

/-- The streams group with selector 0. -/
def matcherData (m : Matcher) : List Byte := two m.unmatched ++ two m.malformed

/-- An entry of the transmit queue (R81). Its section code is 1 byte (DESIGN CHOICE, notes/assumptions/15). -/
def txBytes (e : TxEntry) : List Byte := [e.code] ++ one (kindCode e.kind) ++ two e.attempts

/-- The intertrip group. -/
def lineCounterData (l : LineCtl) : List Byte :=
  let c := l.counters
  two c.sent ++ two c.acked ++ two c.unanswered ++ two c.losses ++ two c.received ++ two c.checkErrors ++
    two c.kind11 ++ two c.faults ++ one (lineStateCode l.state) ++ listOf txBytes l.queue

/-- The class mask in force; before the first adoption every class is enabled (R156, notes/assumptions/23). -/
def maskInForce (q : ReportQueue) : Byte := q.mask.getD 0xFF

/-- The reports group. -/
def reportCounterData (q : ReportQueue) : List Byte :=
  q.occurred.toList.flatMap two ++ four q.accepted.toNat ++ four q.read.toNat ++ four q.displaced.toNat ++
    four q.dropped.toNat ++ two q.queue.length ++ [maskInForce q]

/-- The capture group. -/
def captureCounterData (c : CaptureUnit) : List Byte :=
  two c.counters.fills ++ two c.counters.merged ++ two c.counters.beyond ++ two c.counters.overwrites ++
    two c.counters.missed ++ two c.counters.truncated ++
    (allSlots.flatMap fun i => one (slotStateCode c.slots[i].state))

/-! ## READ_REPORTS, CAPTURE_LIST, READ_CAPTURE (section 11.3) -/

/-- A report entry, 15 bytes. -/
def reportBytes (r : Report) : List Byte :=
  one (32 * reportRank r + (if r.value = none then 0 else 16) + (if r.slot = none then 0 else 8) +
      (if r.unset then 4 else 0) + (match r.slot with | none => 0 | some i => i.val)) ++
    one (reportCode r.code) ++ one (sourceCode r.source) ++ one (r.cause.getD 0) ++
    signedBytes 4 (r.value.getD 0) ++ bytesOf 2 r.day ++ bytesOf 5 r.micros

/-- READ_REPORTS. -/
def reportsData (l : List Report) : List Byte := listOf reportBytes l

/-- A trigger-list entry, 12 bytes. -/
def triggerBytes (t : Trigger) : List Byte :=
  one (causeCode t.cause) ++ one (sourceCode t.source) ++ stationTime t.day t.micros t.unset ++ two t.index

/-- Pre and post count of a position; in ARMED the instants it holds are its pre count (R175). -/
def posBytes (st : SlotState) (p : SlotPos) : List Byte :=
  two (if st = .armed then p.insts.length else p.pre) ++ two p.post

/-- A slot in CAPTURE_LIST (R175). Its channel count is the count byte of the channel list (DESIGN CHOICE,
notes/assumptions/15). -/
def slotData (s : State) (t : Slot) : List Byte :=
  one (slotStateCode t.state) ++ listOf (fun p => one p.chan.val) t.positions ++
    t.positions.flatMap (posBytes t.state) ++ listOf triggerBytes t.triggers ++ two t.extra ++
    flagByte t.truncated ++ four (timeLeft s t.fillAt)

/-- CAPTURE_LIST. -/
def captureListData (s : State) : List Byte :=
  listOf (fun i : Fin 4 => one i.val) s.capture.order ++ allSlots.flatMap fun i => slotData s s.capture.slots[i]

/-- The two mark bits of an instant, 0 past the end. -/
def markAt (l : List Instant) (i : Nat) : Nat :=
  match l[i]? with
  | none => 0
  | some x => markCode x.mark

/-- Marks, two bits each, four to a byte, the first in bits 7..6. -/
def packMarks (l : List Instant) : List Byte :=
  (List.range ((l.length + 3) / 4)).map fun j =>
    byteOf (64 * markAt l (4 * j) + 16 * markAt l (4 * j + 1) + 4 * markAt l (4 * j + 2) + markAt l (4 * j + 3))

/-- READ_CAPTURE. -/
def captureData (p : SlotPos) (first count : Nat) : List Byte :=
  let l := (p.insts.drop first).take count
  one p.chan.val ++ two p.pre ++ two p.post ++ one l.length ++ (l.flatMap fun i => bytesOf 2 i.value.toNat) ++
    packMarks l

end Sys2Proof.Machine
end

