-- ==== Sys2Proof/Machine/Resets.lean ====
section
/-! DEFINITION. Cold reset (R182) and the RESTART of every block (R194), with the Ring Port's part of it (R195). -/

namespace Sys2Proof.Machine

/-- R182: the RESET pin resets every block and samples the straps. A wire that another station holds, the commands
waiting and the model's count of free values are not the part's to reset (notes/assumptions/26). -/
def coldReset (addr : BitVec 6) (gw : BitVec 2) (s : State) : State :=
  let wires := s.line.drive false false
  { State.cold addr gw wires.ckLow wires.dtLow with freeCount := s.freeCount, pending := s.pending }

/-- R195: the ring counters are set to 0; the rest of the Ring Port is kept. -/
def restartRing (s : State) : State := s.updRing fun p => { p with counters := RingCounters.zero }

/-- R42: an evaluator's RESTART after the adoption: one in TRIPPING asks for its OPEN and tells its cause again, the
others settle, with FEEDER_DEGRADED whenever they are DEGRADED. -/
def restartEvaluator (f : Fin 8) (s : State) : State :=
  let e := s.ev f
  if e.state = .tripping then
    let asked := askOpen (.fm f) .feederProtection s
    match e.pendingTrip with
    | none => asked
    | some c => tellTrip f c asked
  else
    let settled := s.updEv f fun e => { e.clearElements with state := settledState e }
    if settledState e = .degraded then reportDegraded f settled else settled

/-- R153 step 2: every consumer whose mark is set adopts the target, whatever its state. -/
def completePending (s : State) : State :=
  if switchPending s then
    forEach feeders (fun f => adoptAlways (feederMark f) (fun b => adoptFeeder false b f)) s
    |> adoptAlways 9 adoptRect |> adoptAlways 10 adoptLine |> adoptAlways 12 adoptCapture |> rebuildConsumers
  else s

/-- R181 step 5: a slot is armed when capture settings are adopted. -/
def armAfterRestart (s : State) : State := s.updCapture armIfPossible

/-- R194: RESTART, block by block; the order of the steps that the rule leaves free, and of the evaluators, 1 to 8, is the
model's (DESIGN CHOICE, notes/assumptions/7). -/
def restartAll (s : State) : State :=
  s |> restartReports |> restartMeasurement |> restartSwitchgear |> restartLine
    |> forEach feeders restartSequencer |> restartRect |> restartCapture |> abandonValidation |> restartRing
    |> completePending
    |> forEach feeders restartIdle |> forEach feeders restartEvaluator |> armAfterRestart

end Sys2Proof.Machine
end

