-- ==== Sys2Proof/Machine/Management.lean ====
section
/-! DEFINITION. The Management Responder (section 10.4): the checks of R189, each request's service by its owner's
rules, and the answer. -/

namespace Sys2Proof.Machine

/-- What a request gives: outcome, reason and data of its answer, or none when it is a taken VALIDATE, which answers
later; and the state after it. -/
abbrev Reply := Option (ReplyOutcome × Reason × List Byte) × State

/-- DONE with data. -/
def done (data : List Byte) (s : State) : Reply := (some (.done, .none, data), s)

/-- REFUSED with a reason. -/
def refuse (r : Reason) (s : State) : Reply := (some (.refused, r, []), s)

/-- BUSY. -/
def busy (s : State) : Reply := (some (.busy, .none, []), s)

/-- DONE with no data, or REFUSED STATE with nothing changed. -/
def doneOrState (before : State) (r : Bool × State) : Reply := if r.1 then done [] r.2 else refuse .state before

/-- R189 steps 2 and 3: the source, for a request that only the management source may make, and the length. -/
def checked (fromManager : Bool) (len : Nat) (src : Byte) (params : List Byte) (serve_ : State → Reply)
    (s : State) : Reply :=
  if fromManager && src ≠ s.ring.mgmt then refuse .notPermitted s
  else if params.length ≠ len then refuse .badLength s
  else serve_ s

/-! ## Requests that read -/

/-- STATUS (R191). -/
def requestStatus (src : Byte) (params : List Byte) : State → Reply :=
  checked false 0 src params fun s => done (statusData s) s

/-- READ_FEEDER (R190). -/
def requestReadFeeder (src : Byte) (params : List Byte) : State → Reply :=
  checked false 1 src params fun s =>
    if h : 1 ≤ u8 params 0 ∧ u8 params 0 ≤ 8 then done (feederData ⟨u8 params 0 - 1, by omega⟩ s) s
    else refuse .range s

/-- READ_RECTIFIER (R136). -/
def requestReadRectifier (src : Byte) (params : List Byte) : State → Reply :=
  checked false 0 src params fun s => done (rectData s) s

/-- READ_CHANNEL (R16). -/
def requestReadChannel (src : Byte) (params : List Byte) : State → Reply :=
  checked false 1 src params fun s =>
    if h : u8 params 0 < 24 then done (channelData ⟨u8 params 0, h⟩ s) s else refuse .range s

/-! ## READ_COUNTERS -/

/-- A group is answered and, with the clear option, cleared after it is read. -/
def readGroup (option : Nat) (data : State → List Byte) (clear : State → State) (s : State) : Reply :=
  if option = 0 then done (data s) s
  else if option = 1 then done (data s) (clear s)
  else refuse .range s

/-- R192: the ring group's thirteen counters are set to 0. -/
def clearRingGroup (s : State) : State :=
  { s with ring := { s.ring with counters := RingCounters.zero }, unmatchedPos := 0, malformedPos := 0 }

/-- R6: the counters of one entry are set to 0. -/
def clearEntry (k : Fin 24) (s : State) : State :=
  s.updMatcher fun m => { m with entries := m.entries.set k { m.entries[k] with
    accepted := 0, gaps := 0, duplicates := 0, outOfOrder := 0, short := 0, resyncs := 0 } }

/-- R6: the streams group. -/
def streamsGroup (option selector : Nat) (s : State) : Reply :=
  if selector = 0 then
    readGroup option (fun s => matcherData s.matcher)
      (fun s => s.updMatcher fun m => { m with unmatched := 0, malformed := 0 }) s
  else if h : selector ≤ 24 then
    let k : Fin 24 := ⟨(selector - 1) % 24, by omega⟩
    readGroup option (fun s => entryData s.matcher.entries[k]) (clearEntry k) s
  else refuse .range s

/-- R190: a group by its code. -/
def groupByCode (group option selector : Nat) (s : State) : Reply :=
  match group with
  | 1 => readGroup option ringCounterData clearRingGroup s
  | 2 => if option ≤ 1 then streamsGroup option selector s else refuse .range s
  | 3 => readGroup option (fun s => lineCounterData s.line)
      (fun s => s.updLine fun l => { l with counters := LineCounters.zero }) s
  | 4 => readGroup option (fun s => reportCounterData s.reports)
      (fun s => s.updReports fun q => { q with occurred := Vector.replicate 8 0 }) s
  | 5 => readGroup option (fun s => captureCounterData s.capture)
      (fun s => s.updCapture fun c => { c with counters := CaptureCounters.zero }) s
  | 6 => readGroup option (fun s => firingBytes s.rect.counters)
      (fun s => s.updRect fun r => { r with counters := FiringCounters.zero }) s
  | _ => refuse .range s

/-- READ_COUNTERS. -/
def requestReadCounters (src : Byte) (params : List Byte) : State → Reply :=
  checked false 3 src params fun s => groupByCode (u8 params 0) (u8 params 1) (u8 params 2) s

/-! ## Setting tables (R141, R142, R143, R147) -/

/-- R141, in the order of its lines; its length checks are its own. -/
def serveWrite (params : List Byte) (s : State) : Reply :=
  let table := u8 params 0
  let off := u16 params 1
  let n := u8 params 3
  if params.length < 4 || n = 0 || 48 < n || params.length ≠ 4 + n then refuse .badLength s
  else if tableLength table = 0 then refuse .range s
  else if tableLength table < off + n then refuse .range s
  else if switchPending s then refuse .switchPending s
  else if bankState (standby s) s = .validating then busy s
  else done [] (writeStandby table off (params.drop 4) s)

/-- WRITE_TABLE. -/
def requestWriteTable (src : Byte) (params : List Byte) (s : State) : Reply :=
  if src ≠ s.ring.mgmt then refuse .notPermitted s else serveWrite params s

/-- The bank a code names. -/
def bankOfCode : Nat → Option BankId
  | 1 => some .a
  | 2 => some .b
  | _ => none

/-- READ_TABLE (R142). -/
def requestReadTable (src : Byte) (params : List Byte) : State → Reply :=
  checked false 5 src params fun s =>
    let table := u8 params 1
    let off := u16 params 2
    let n := u8 params 4
    if n = 0 || 48 < n then refuse .badLength s
    else
      match bankOfCode (u8 params 0) with
      | none => refuse .noBank s
      | some k =>
        if tableLength table = 0 || tableLength table < off + n then refuse .range s
        else if bankState k s = .validating then busy s
        else done (((bankBytes k s).drop (tableBase table + off)).take n) s

/-- VALIDATE (R143). -/
def requestValidate (src tag : Byte) (params : List Byte) : State → Reply :=
  checked true 0 src params fun s =>
    if switchPending s then refuse .switchPending s
    else if bankState (standby s) s = .validating then busy s
    else (none, startValidation src tag s)

/-- ACTIVATE (R147): what has been handed over by the old table is taken first (notes/assumptions/5), and the
switch-over starts. -/
def requestActivate (src : Byte) (params : List Byte) : State → Reply :=
  checked true 0 src params fun s =>
    if switchPending s then refuse .switchPending s
    else if bankState (standby s) s ≠ .valid then refuse .state s
    else done [] (startSwitch (drainAll s))

/-! ## OPERATE (R104 to R106, R114 to R120) -/

/-- The feeder a target names. -/
def feederOfTarget (n : Nat) : Option (Fin 8) := if h : 1 ≤ n ∧ n ≤ 8 then some ⟨n - 1, by omega⟩ else none

/-- An action on a feeder. -/
def operateFeeder (f : Fin 8) (action : Nat) (s : State) : Reply :=
  match action with
  | 1 => let r := operatorOpen f s; doneOrState s (r.1, finish r.2)
  | 2 => if operatorCloseTaken f s then done [] (finish (operatorClose f s)) else refuse .state s
  | 3 => if resetLockoutTaken f s then done [] (finish (resetLockout f s)) else refuse .state s
  | _ => refuse .range s

/-- An action on the rectifier. -/
def operateRect (action : Nat) (s : State) : Reply :=
  match action with
  | 4 => doneOrState s (closeAc s)
  | 5 => doneOrState s (deblock s)
  | 6 => doneOrState s (block s)
  | 7 => doneOrState s (stopFull s)
  | 8 => doneOrState s (resetRect s)
  | _ => refuse .range s

/-- OPERATE: target and action are checked by the Responder (R190). -/
def requestOperate (src : Byte) (params : List Byte) : State → Reply :=
  checked true 2 src params fun s =>
    match feederOfTarget (u8 params 0) with
    | some f => operateFeeder f (u8 params 1) s
    | none => if u8 params 0 = 9 then operateRect (u8 params 1) s else refuse .range s

/-! ## Reports, captures, time, RESTART -/

/-- READ_REPORTS (R159). -/
def requestReadReports (src : Byte) (params : List Byte) : State → Reply :=
  checked false 1 src params fun s =>
    let n := u8 params 0
    if n = 0 || 4 < n then refuse .range s else done (reportsData (readEntries n s)) (removeEntries n s)

/-- CAPTURE_LIST (R175). -/
def requestCaptureList (src : Byte) (params : List Byte) : State → Reply :=
  checked false 0 src params fun s => done (captureListData s) s

/-- R176, lines 3 to 7: a slot is read. -/
def serveReadCapture (i : Fin 4) (pos first count : Nat) (s : State) : Reply :=
  let t := s.capture.slots[i]
  match t.state with
  | .free | .armed => refuse .state s
  | .filling => busy s
  | .held | .reading =>
    match t.positions[pos]? with
    | none => refuse .range s
    | some p =>
      if p.pre + p.post ≤ first then refuse .range s else done (captureData p first count) (markReading i s)

/-- READ_CAPTURE (R176). -/
def requestReadCapture (src : Byte) (params : List Byte) : State → Reply :=
  checked false 5 src params fun s =>
    let count := u8 params 4
    if h : u8 params 0 < 4 then
      if count = 0 || 24 < count then refuse .range s
      else serveReadCapture ⟨u8 params 0, h⟩ (u8 params 1) (u16 params 2) count s
    else refuse .range s

/-- R177: a slot that holds a finished capture can be released. -/
def releasable (t : Slot) : Bool := t.state = .held || t.state = .reading

/-- RELEASE_CAPTURE (R177). -/
def requestReleaseCapture (src : Byte) (params : List Byte) : State → Reply :=
  checked true 1 src params fun s =>
    if h : u8 params 0 < 4 then
      let i : Fin 4 := ⟨u8 params 0, h⟩
      if releasable s.capture.slots[i] then done [] (releaseSlot i s) else refuse .state s
    else refuse .range s

/-- TRIGGER_CAPTURE (R169): the slot, or the missed mark as an absent slot (notes/assumptions/15). -/
def requestTriggerCapture (src : Byte) (params : List Byte) : State → Reply :=
  checked true 0 src params fun s =>
    let (slot, after) := trigger .manual .part s
    done (optional 1 (fun i : Fin 4 => one i.val) slot) after

/-- SET_TIME (R193). -/
def requestSetTime (src : Byte) (params : List Byte) : State → Reply :=
  checked true 7 src params fun s =>
    let micros := numberOf (params.drop 2)
    if Config.usPerDay ≤ micros then refuse .range s else done [] (setStationTime (u16 params 0) micros s)

/-- RESTART (R194). -/
def requestRestart (src : Byte) (params : List Byte) : State → Reply :=
  checked true 0 src params fun s =>
    if s.rect.state = .off || s.rect.state = .blocked then done [] (restartAll s) else refuse .state s

/-! ## Any request (R189) -/

/-- R189 step 1: a request by its code; a code that section 11.2 does not define is REFUSED UNKNOWN. -/
def requestByCode (code src tag : Byte) (params : List Byte) (s : State) : Reply :=
  match code.toNat with
  | 0x01 => requestStatus src params s
  | 0x02 => requestReadFeeder src params s
  | 0x03 => requestReadRectifier src params s
  | 0x04 => requestReadChannel src params s
  | 0x05 => requestReadCounters src params s
  | 0x06 => requestWriteTable src params s
  | 0x07 => requestReadTable src params s
  | 0x08 => requestValidate src tag params s
  | 0x09 => requestActivate src params s
  | 0x0A => requestOperate src params s
  | 0x0B => requestReadReports src params s
  | 0x0C => requestCaptureList src params s
  | 0x0D => requestReadCapture src params s
  | 0x0E => requestReleaseCapture src params s
  | 0x0F => requestTriggerCapture src params s
  | 0x10 => requestSetTime src params s
  | 0x11 => requestRestart src params s
  | _ => refuse .unknown s

/-- R188, R189: the answer of a processed request takes its place, or the place is held unready. -/
def placeReply (src tag : Byte) (r : Reply) : State :=
  match r.1 with
  | none => placeUnready src tag r.2
  | some (o, why, data) => placeAnswer src tag (answerNow o why data r.2) r.2

/-- R188: a request is processed, or lost as an overrun. -/
def respond (src tag : Byte) (request : State → Reply) (s : State) : State :=
  if s.ring.answers.length < 4 then placeReply src tag (request s)
  else s.updRing fun p => { p with counters := { p.counters with overruns := bump p.counters.overruns } }

/-- A MANAGE payload that ends before its tag: it cannot be as long as its code requires; with no code at all it is
no defined code. The tag its answer echoes is a free value (notes/assumptions/11). -/
def requestNoTag (src : Byte) (payload : List Byte) (s : State) : Reply :=
  let code := u8 payload 0
  if payload.isEmpty || code = 0 || 0x11 < code then refuse .unknown s
  else if (code = 0x06 || code = 0x08 || code = 0x09 || code = 0x0A || 0x0E ≤ code) && src ≠ s.ring.mgmt then
    refuse .notPermitted s
  else refuse .badLength s

/-- R188: the MANAGE payload of a frame addressed to the part. -/
def takeManage (src : Byte) (payload : List Byte) (s : State) : State :=
  match payload with
  | code :: tag :: params => respond src tag (requestByCode code src tag params) s
  | short =>
    if s.ring.answers.length < 4 then
      respond src (Config.freeByte s.freeCount) (requestNoTag src short) (freeTaken s)
    else respond src 0 (requestNoTag src short) s

end Sys2Proof.Machine
end

