-- ==== Sys2Proof/Machine/Ring.lean ====
section
/-! DEFINITION. The receive side of the Ring Port (section 10.2): a frame at ring-in, its judgement, its users and the
relay; and the arrival of a management request. -/

namespace Sys2Proof.Machine

/-- Change one ring counter set. -/
def updRingCounters (g : RingCounters → RingCounters) (s : State) : State :=
  s.updRing fun p => { p with counters := g p.counters }

/-- R183, R186: a good frame is counted, restarts the ring-down timer and brings a ring that is DOWN up again. -/
def goodFrame (s : State) : State :=
  let counted := s.updRing fun p => { p with
    ring := .up, downAt := some (deadline s 5), counters := { p.counters with good := bump p.counters.good } }
  if s.ring.ring = .down then report .ringRestored .part none none counted else counted

/-- R184: a frame of a type that is used is handed to its user; others are counted unused. -/
def useFrame (fr : Frame) (forPart : Bool) (s : State) : State :=
  match fr.type.toNat with
  | 1 => takeSample fr s
  | 2 => finish (takePosition fr s)
  | 4 =>
    if forPart then takeManage fr.src fr.payload s
    else updRingCounters (fun c => { c with unused := bump c.unused }) s
  | _ => updRingCounters (fun c => { c with unused := bump c.unused }) s

/-- R184, R185: a good frame is sorted; the relay is taken before the use (notes/assumptions/7). -/
def sortFrame (fr : Frame) (s : State) : State :=
  if fr.dst = 0xFF then s.updRing (joinRelay fr) |> useFrame fr false
  else if fr.dst = s.ring.own then useFrame fr true s
  else s.updRing (joinRelay fr)

/-- R183, from the destination on: a frame whose CRC matched and whose length is right. A silent relay's own address
is 0x00 here, so that one line covers both of R183's. -/
def arriveFrame (fr : Frame) (s : State) : State :=
  if fr.dst = 0 then updRingCounters (fun c => { c with framing := bump c.framing }) s
  else if fr.src = s.ring.own then updRingCounters (fun c => { c with returned := bump c.returned }) s
  else sortFrame fr (goodFrame s)

/-- R183: the bytes of a frame at ring-in. -/
def arriveBytes (bytes : List Byte) (s : State) : State :=
  if !crcMatches bytes then updRingCounters (fun c => { c with crc := bump c.crc }) s
  else
    match frameOf bytes with
    | none => updRingCounters (fun c => { c with framing := bump c.framing }) s
    | some fr => arriveFrame fr s

/-- The arrival of a MANAGE frame addressed to the part, carrying a request (R183, R184, R188). A silent relay has no
address (R182): no such frame exists for it (notes/assumptions/10). -/
def onRequest (src tag : Byte) (request : State → Reply) (s : State) : State :=
  if s.ring.own = 0 then s
  else if src = s.ring.own then updRingCounters (fun c => { c with returned := bump c.returned }) s
  else respond src tag request (goodFrame s)

/-- R186: the ring-down timer expires. -/
def ringDown (s : State) : State :=
  let stopped := s.updRing fun p => { p with downAt := none }
  if s.ring.ring = .up then
    (stopped.updRing fun p => { p with
      ring := .down, counters := { p.counters with downs := bump p.counters.downs } })
    |> report .ringDown .part none none
  else stopped

end Sys2Proof.Machine
end

