-- ==== Sys2Proof/Machine/Received.lean ====
section
/-! DEFINITION. A message on the intertrip line, by its falls and samples (R67, R71 to R73, R75): it is judged at its
clock 14, acknowledged in clock 15 when accepted, and applied to the feeders of its section at the fall of CK after. -/

namespace Sys2Proof.Machine

/-- R73: an accepted message is applied to one feeder: the evaluator's request, then the sequencer's notice
(notes/assumptions/7). -/
def applyMessage (code : Byte) (k : Kind) (f : Fin 8) (s : State) : State :=
  match k with
  | .trip => intertripTrip f code s |> holdNotice f
  | .hold => holdNotice f s
  | .release => releaseHold f s

/-- R71, R72: the judgement of fourteen bits. A message with a good check and a kind counts as received, and R72 decides
whether it is accepted. -/
def judgeBits (bits : List Bool) (s : State) : State :=
  match messageOf bits with
  | none => s.updLine fun l => { l with
      accepted := none, counters := { l.counters with checkErrors := bump l.counters.checkErrors } }
  | some (_, none) => s.updLine fun l => { l with
      accepted := none, counters := { l.counters with kind11 := bump l.counters.kind11 } }
  | some (code, some k) => s.updLine fun l => { l with
      accepted := if accepts code s then some (code, k) else none
      counters := { l.counters with received := bump l.counters.received } }

/-- R72, R73: the accepted message is applied to its feeders, by the table of now (DEDUCED, notes/assumptions/22), and
reported. -/
def applyAccepted (s : State) : State :=
  match s.line.accepted with
  | none => s
  | some (code, k) =>
    forEach (sectionFeeders code s) (applyMessage code k) (s.updLine fun l => { l with accepted := none })
    |> report .messageReceived .intertrip (some (kindCause k)) (some code.toNat)

/-! ## Falls of the wires -/

/-- R71, R72: CK falls in the message being received, and a clock begins. A receiver drives DT low in clock 15 of a
message it has accepted; at the next fall it releases DT, and then applies the message, which can bring a feeder to its
safe point. -/
def receiverClock (s : State) : State :=
  let n := s.line.clocks + 1
  let fell := updWires (fun l => { l with clocks := n, ckLow := true }.drive false (l.accepted.isSome && n = 15)) s
  if fell.line.accepted.isSome && n = 16 then finish (applyAccepted fell) else fell

/-- R66 to R68, R74: CK falls. In a message it begins a clock, and a sender drives CK low with it for its own low time, and
DT for its bit; a fall before its own high time has ended cuts that time short. Outside a message it is a low event. -/
def clockFalls (s : State) : State :=
  let n := s.line.clocks + 1
  match s.line.state with
  | .sending => updWires (fun l =>
      { l with clocks := n, phaseAt := some (s.time.now + halfBit) }.drive true (senderDrives l n)) s
  | .receiving => receiverClock s
  | .waiting | .free => updWires (fun l => { l with state := .waiting, ckLow := true }) s
  | .fault => updWires (fun l => { l with ckLow := true }) s

/-- R67, R68, R71: DT falls. With CK high it is a start: of a message, or of one that breaks the message being received.
With CK low it is a bit of the message, or a low event. -/
def dataFalls (s : State) : State :=
  let l := s.line
  match l.state with
  | .waiting | .free =>
    if l.ckLow then updWires (fun l => { l with state := .waiting, dtLow := true }) s else startReceive s
  | .receiving => if l.ckLow then updWires (fun l => { l with dtLow := true }) s else abandonMessage true s
  | .sending | .fault => updWires (fun l => { l with dtLow := true }) s

/-- R67, R68: a wire falls; one that is low already cannot. -/
def lineLow (w : Wire) (s : State) : State :=
  match w with
  | .ck => if s.line.ckLow then s else clockFalls s
  | .dt => if s.line.dtLow then s else dataFalls s

/-! ## A contender's own times -/

/-- R66, R70: a time of this part's own as a contender ends. After its low time it releases CK, which stays low until the
last contender has released it; after its high time, or 50 µs after its start, it drives CK low, the next clock. -/
def phaseEnds (s : State) : State :=
  if s.line.driveCk then updWires (fun l => { l with driveCk := false, phaseAt := none }) s else lineLow .ck s

/-- R66: whether a time of this part's own as a contender has ended. -/
def phaseOver (s : State) : Bool :=
  s.line.state = .sending &&
    match s.line.phaseAt with
    | none => false
    | some d => d ≤ s.time.now

/-- What a step does when no command waits: one CLK cycle passes, and a contender's own time can end with it (R66;
notes/assumptions/2). -/
def idleCycle (s : State) : State := if phaseOver (tick s) then phaseEnds (tick s) else tick s

/-! ## Samples -/

/-- R71: at the sample of clock 14 the message is judged. -/
def judgeRecord (s : State) : State :=
  if s.line.state = .receiving && s.line.heard.length = 14 then judgeBits s.line.heard s else s

/-- R75: arbitration is lost at the sample of a clock; at clock 14 the winner's message is whole. -/
def lostArbitration (clock : Fin 14) (s : State) : State :=
  if s.line.state = .sending then judgeRecord (loseArbitration clock s) else s

/-- R67, R71: the sample of a clock in the message being received. The bits of clocks 1..14 are read; further samples
show the wires alone. -/
def receiveSample (bit : Bool) (s : State) : State :=
  let l := s.line
  let read (l : LineCtl) : LineCtl := { l with ckLow := false, dtLow := !bit || l.driveDt }
  if 15 ≤ l.clocks then updWires read s
  else if l.heard.length < l.clocks then
    judgeRecord (updWires (fun l => { read l with heard := l.heard ++ [bit] }) s)
  else s

/-- R66, R75, R77: the sample of a clock in the message being sent, 25 µs after CK has risen: reading its own bit the part
goes on, its own high time having 25 µs to run, and another bit loses arbitration. What the acknowledge slot holds is
SEND_ATTEMPT_END's to say. -/
def senderSample (bit : Bool) (s : State) : State :=
  let l := s.line
  if l.clocks = 0 then s
  else if h : l.clocks ≤ 14 ∧ bit ≠ sentBit l l.clocks then lostArbitration ⟨(l.clocks - 1) % 14, by omega⟩ s
  else updWires (fun l => { (if l.ckLow then l.risen (s.time.now + halfBit / 2) else l) with
    driveCk := false, ckLow := false, dtLow := !bit || l.driveDt }) s

/-- R67: a clock's bit is read in the middle of its high phase. -/
def sampleLine (bit : Bool) (s : State) : State :=
  match s.line.state with
  | .receiving => receiveSample bit s
  | .sending => senderSample bit s
  | .waiting | .free | .fault => s

/-- R71, R72: a message is received up to its stop, or to the start that follows it, and applied before it ends. One
judged at its clock 14 is not judged again. -/
def receiveWhole (bits : BitVec 14) (restart : Bool) (s : State) : State :=
  if canReceive s.line then
    (if s.line.state = .receiving && 14 ≤ s.line.heard.length then s else judgeBits (receivedBits s.line bits) s)
    |> applyAccepted |> endMessage restart
  else s

/-- R71: a message is received, sample by sample or up to its end; a sample ends nothing. -/
def receiveMessage (r : Reception) (restart : Bool) (s : State) : State :=
  match r with
  | .sample bit => sampleLine bit s
  | .whole bits => receiveWhole bits restart s

end Sys2Proof.Machine
end

