-- ==== Sys2Proof/Machine/ExecFrames.lean ====
section
/-! DEFINITION. The meanings of the commands that come in at the pins and between the blocks: cold reset, frames at
ring-in, the hand-overs, and the end of a frame at ring-out. -/

namespace Sys2Proof.Machine

/-- COLD_RESET (R182). -/
def execColdReset (addr : BitVec 6) (gw : BitVec 2) (s : State) : Host.Outcome State Fault Refusal :=
  .next (coldReset addr gw s)

/-- RING_FRAME (R183). -/
def execRingFrame (bytes : List Byte) (s : State) : Host.Outcome State Fault Refusal := .next (arriveBytes bytes s)

/-- SAMPLE_FRAME (R2): a frame that has passed the CRC and the framing. -/
def execSampleFrame (frame : Frame) (s : State) : Host.Outcome State Fault Refusal := .next (arriveFrame frame s)

/-- CHANNEL_ARRIVAL (R7). -/
def execChannelArrival (c : Fin 24) (s : State) : Host.Outcome State Fault Refusal := .next (fileOldest c s)

/-- EVALUATOR_ARRIVAL (R27). -/
def execEvaluatorArrival (f : Fin 8) (s : State) : Host.Outcome State Fault Refusal := .next (evaluatorTakes f s)

/-- SEQUENCER_ARRIVAL (R92, R95). -/
def execSequencerArrival (f : Fin 8) (s : State) : Host.Outcome State Fault Refusal := .next (sequencerTakes f s)

/-- TRACKER_ARRIVAL (R125). -/
def execTrackerArrival (s : State) : Host.Outcome State Fault Refusal := .next (trackerTakes s)

/-- RECT_CURRENT_ARRIVAL (R122). -/
def execRectCurrentArrival (s : State) : Host.Outcome State Fault Refusal := .next (currentTakes s)

/-- RECT_BUS_ARRIVAL (R133). -/
def execRectBusArrival (s : State) : Host.Outcome State Fault Refusal := .next (busTakes s)

/-- CAPTURE_ARRIVAL (R168). -/
def execCaptureArrival (s : State) : Host.Outcome State Fault Refusal := .next (captureTakes s)

/-- POSITION_FRAME (R45): a frame that has passed the CRC and the framing. -/
def execPositionFrame (frame : Frame) (s : State) : Host.Outcome State Fault Refusal := .next (arriveFrame frame s)

/-- RING_OUT_FRAME_END (R187, R196). -/
def execRingOutFrameEnd (s : State) : Host.Outcome State Fault Refusal := .next (s.updRing frameEnd)

end Sys2Proof.Machine
end

