-- ==== Sys2Proof/Machine/ExecIntertrip.lean ====
section
/-! DEFINITION. The meanings of the commands of the intertrip line. -/

namespace Sys2Proof.Machine

/-- INTERTRIP_MESSAGE_RECEIVED (R71). -/
def execIntertripMessageReceived (r : Reception) (restart : Bool) (s : State) : Host.Outcome State Fault Refusal :=
  .next (finish (receiveMessage r restart s))

/-- MESSAGE_ABANDONED (R71). -/
def execMessageAbandoned (restart : Bool) (s : State) : Host.Outcome State Fault Refusal :=
  .next (abandonMessage restart s)

/-- LINE_LOW_EVENT (R68). -/
def execLineLowEvent (w : Wire) (s : State) : Host.Outcome State Fault Refusal := .next (lineLow w s)

/-- LOW_TIMER_EXPIRY (R69). -/
def execLowTimerExpiry (held : Held) (s : State) : Host.Outcome State Fault Refusal :=
  .next (finish (lowExpired held s))

/-- BUS_FREE_TIMER_EXPIRY (R68). -/
def execBusFreeTimerExpiry (s : State) : Host.Outcome State Fault Refusal := .next (busFreeExpired s)

/-- INTERTRIP_MESSAGE_START (R74). -/
def execIntertripMessageStart (s : State) : Host.Outcome State Fault Refusal := .next (startSending s)

/-- ARBITRATION_LOST (R75). -/
def execArbitrationLost (clock : Fin 14) (s : State) : Host.Outcome State Fault Refusal :=
  .next (finish (lostArbitration clock s))

/-- SEND_ATTEMPT_END (R77). -/
def execSendAttemptEnd (ack : Bool) (s : State) : Host.Outcome State Fault Refusal :=
  .next (finish (endAttempt ack s))

/-- BOTH_WIRES_HIGH (R68). -/
def execBothWiresHigh (s : State) : Host.Outcome State Fault Refusal := .next (bothHigh s)

end Sys2Proof.Machine
end

