-- ==== Sys2Proof/Machine/ExecRequests.lean ====
section
/-! DEFINITION. The meanings of the management requests: each is the arrival of its MANAGE frame at ring-in, addressed
to the part, with its source, its tag and its parameter bytes (notes/assumptions/10). -/

namespace Sys2Proof.Machine

/-- STATUS (R191). -/
def execStatus (src tag : Byte) (params : List Byte) (s : State) : Host.Outcome State Fault Refusal :=
  .next (onRequest src tag (requestStatus src params) s)

/-- READ_FEEDER (R39, R61, R107). -/
def execReadFeeder (src tag : Byte) (params : List Byte) (s : State) : Host.Outcome State Fault Refusal :=
  .next (onRequest src tag (requestReadFeeder src params) s)

/-- READ_RECTIFIER (R136). -/
def execReadRectifier (src tag : Byte) (params : List Byte) (s : State) : Host.Outcome State Fault Refusal :=
  .next (onRequest src tag (requestReadRectifier src params) s)

/-- READ_CHANNEL (R16). -/
def execReadChannel (src tag : Byte) (params : List Byte) (s : State) : Host.Outcome State Fault Refusal :=
  .next (onRequest src tag (requestReadChannel src params) s)

/-- READ_COUNTERS_RING (R192): group 1. -/
def execReadCountersRing (src tag option selector : Byte) (extra : List Byte) (s : State) :
    Host.Outcome State Fault Refusal :=
  .next (onRequest src tag (requestReadCounters src (1 :: option :: selector :: extra)) s)

/-- READ_COUNTERS_STREAMS (R6): group 2. -/
def execReadCountersStreams (src tag option selector : Byte) (extra : List Byte) (s : State) :
    Host.Outcome State Fault Refusal :=
  .next (onRequest src tag (requestReadCounters src (2 :: option :: selector :: extra)) s)

/-- READ_COUNTERS_INTERTRIP (R81): group 3. -/
def execReadCountersIntertrip (src tag option selector : Byte) (extra : List Byte) (s : State) :
    Host.Outcome State Fault Refusal :=
  .next (onRequest src tag (requestReadCounters src (3 :: option :: selector :: extra)) s)

/-- READ_COUNTERS_REPORTS (R162): group 4. -/
def execReadCountersReports (src tag option selector : Byte) (extra : List Byte) (s : State) :
    Host.Outcome State Fault Refusal :=
  .next (onRequest src tag (requestReadCounters src (4 :: option :: selector :: extra)) s)

/-- READ_COUNTERS_CAPTURE (R178): group 5. -/
def execReadCountersCapture (src tag option selector : Byte) (extra : List Byte) (s : State) :
    Host.Outcome State Fault Refusal :=
  .next (onRequest src tag (requestReadCounters src (5 :: option :: selector :: extra)) s)

/-- READ_COUNTERS_FIRING (R136): group 6. -/
def execReadCountersFiring (src tag option selector : Byte) (extra : List Byte) (s : State) :
    Host.Outcome State Fault Refusal :=
  .next (onRequest src tag (requestReadCounters src (6 :: option :: selector :: extra)) s)

/-- WRITE_TABLE (R141). -/
def execWriteTable (src tag : Byte) (params : List Byte) (s : State) : Host.Outcome State Fault Refusal :=
  .next (onRequest src tag (requestWriteTable src params) s)

/-- READ_TABLE (R142). -/
def execReadTable (src tag : Byte) (params : List Byte) (s : State) : Host.Outcome State Fault Refusal :=
  .next (onRequest src tag (requestReadTable src params) s)

/-- VALIDATE (R143). -/
def execValidate (src tag : Byte) (params : List Byte) (s : State) : Host.Outcome State Fault Refusal :=
  .next (onRequest src tag (requestValidate src tag params) s)

/-- ACTIVATE (R147). -/
def execActivate (src tag : Byte) (params : List Byte) (s : State) : Host.Outcome State Fault Refusal :=
  .next (onRequest src tag (requestActivate src params) s)

/-- OPERATE_OPEN (R104): action 1. -/
def execOperateOpen (src tag target : Byte) (extra : List Byte) (s : State) : Host.Outcome State Fault Refusal :=
  .next (onRequest src tag (requestOperate src (target :: 1 :: extra)) s)

/-- OPERATE_CLOSE (R105): action 2. -/
def execOperateClose (src tag target : Byte) (extra : List Byte) (s : State) : Host.Outcome State Fault Refusal :=
  .next (onRequest src tag (requestOperate src (target :: 2 :: extra)) s)

/-- RESET_LOCKOUT (R106): action 3. -/
def execResetLockout (src tag target : Byte) (extra : List Byte) (s : State) : Host.Outcome State Fault Refusal :=
  .next (onRequest src tag (requestOperate src (target :: 3 :: extra)) s)

/-- CLOSE_AC (R114): action 4. -/
def execCloseAc (src tag target : Byte) (extra : List Byte) (s : State) : Host.Outcome State Fault Refusal :=
  .next (onRequest src tag (requestOperate src (target :: 4 :: extra)) s)

/-- DEBLOCK (R115): action 5. -/
def execDeblock (src tag target : Byte) (extra : List Byte) (s : State) : Host.Outcome State Fault Refusal :=
  .next (onRequest src tag (requestOperate src (target :: 5 :: extra)) s)

/-- BLOCK (R117): action 6. -/
def execBlock (src tag target : Byte) (extra : List Byte) (s : State) : Host.Outcome State Fault Refusal :=
  .next (onRequest src tag (requestOperate src (target :: 6 :: extra)) s)

/-- STOP_FULL (R118): action 7. -/
def execStopFull (src tag target : Byte) (extra : List Byte) (s : State) : Host.Outcome State Fault Refusal :=
  .next (onRequest src tag (requestOperate src (target :: 7 :: extra)) s)

/-- RESET_RECT (R120): action 8. -/
def execResetRect (src tag target : Byte) (extra : List Byte) (s : State) : Host.Outcome State Fault Refusal :=
  .next (onRequest src tag (requestOperate src (target :: 8 :: extra)) s)

/-- READ_REPORTS (R159). -/
def execReadReports (src tag : Byte) (params : List Byte) (s : State) : Host.Outcome State Fault Refusal :=
  .next (onRequest src tag (requestReadReports src params) s)

/-- CAPTURE_LIST (R175). -/
def execCaptureList (src tag : Byte) (params : List Byte) (s : State) : Host.Outcome State Fault Refusal :=
  .next (onRequest src tag (requestCaptureList src params) s)

/-- READ_CAPTURE (R176). -/
def execReadCapture (src tag : Byte) (params : List Byte) (s : State) : Host.Outcome State Fault Refusal :=
  .next (onRequest src tag (requestReadCapture src params) s)

/-- RELEASE_CAPTURE (R177). -/
def execReleaseCapture (src tag : Byte) (params : List Byte) (s : State) : Host.Outcome State Fault Refusal :=
  .next (onRequest src tag (requestReleaseCapture src params) s)

/-- TRIGGER_CAPTURE (R169). -/
def execTriggerCapture (src tag : Byte) (params : List Byte) (s : State) : Host.Outcome State Fault Refusal :=
  .next (onRequest src tag (requestTriggerCapture src params) s)

/-- SET_TIME (R193). -/
def execSetTime (src tag : Byte) (params : List Byte) (s : State) : Host.Outcome State Fault Refusal :=
  .next (onRequest src tag (requestSetTime src params) s)

/-- RESTART (R194). -/
def execRestart (src tag : Byte) (params : List Byte) (s : State) : Host.Outcome State Fault Refusal :=
  .next (onRequest src tag (requestRestart src params) s)

/-- UNKNOWN_REQUEST (R189): a request by its code byte. -/
def execUnknownRequest (src tag code : Byte) (params : List Byte) (s : State) : Host.Outcome State Fault Refusal :=
  .next (onRequest src tag (requestByCode code src tag params) s)

end Sys2Proof.Machine
end

