-- ==== Sys2Proof/Machine/ExecTimers.lean ====
section
/-! DEFINITION. The meanings of the timer commands. Each takes effect when its timer is running, and moves the time
base on to the expiry if it has not reached it (notes/assumptions/3). -/

namespace Sys2Proof.Machine

/-- STALENESS_TIMER_EXPIRY (R10). -/
def execStalenessTimerExpiry (c : Fin 24) (s : State) : Host.Outcome State Fault Refusal :=
  .next (whenExpired (s.chan c).staleAt (stalenessExpired c) s)

/-- POSITION_AGE_EXPIRY (R47). -/
def execPositionAgeExpiry (d : Device) (s : State) : Host.Outcome State Fault Refusal :=
  .next (whenExpired (s.dev d).ageAt (fun s => finish (positionAged d s)) s)

/-- REPEAT_TIMER_EXPIRY (R48). -/
def execRepeatTimerExpiry (d : Device) (s : State) : Host.Outcome State Fault Refusal :=
  .next (whenExpired (s.dev d).repeatAt (repeatExpired d) s)

/-- OPEN_TIMER_EXPIRY (R53): the command timer of an outstanding OPEN. -/
def execOpenTimerExpiry (d : Device) (s : State) : Host.Outcome State Fault Refusal :=
  .next (if (s.dev d).cmd = .toOpen then
    whenExpired (s.dev d).cmdTimer (fun s => finish (openTimerExpired d s)) s else s)

/-- CLOSE_TIMER_EXPIRY (R55): the command timer of an outstanding CLOSE. -/
def execCloseTimerExpiry (d : Device) (s : State) : Host.Outcome State Fault Refusal :=
  .next (if (s.dev d).cmd = .toClose then
    whenExpired (s.dev d).cmdTimer (fun s => finish (closeTimerExpired d s)) s else s)

/-- The sequence timer in one of its states. -/
def whenSequenceTimer (f : Fin 8) (st : SeqState) (k : State → State) (s : State) : State :=
  if (s.seq f).state = st then whenExpired (s.seq f).timerAt (fun s => finish (k s)) s else s

/-- DEAD_TIME_EXPIRY (R89). -/
def execDeadTimeExpiry (f : Fin 8) (s : State) : Host.Outcome State Fault Refusal :=
  .next (whenSequenceTimer f .deadTime (testStart f) s)

/-- SETTLE_TIMER_EXPIRY (R94). -/
def execSettleTimerExpiry (f : Fin 8) (s : State) : Host.Outcome State Fault Refusal :=
  .next (whenSequenceTimer f .testing (settleExpired f) s)

/-- RECLAIM_EXPIRY (R102). -/
def execReclaimExpiry (f : Fin 8) (s : State) : Host.Outcome State Fault Refusal :=
  .next (whenSequenceTimer f .reclaim (reclaimExpired f) s)

/-- HOLD_TIMER_EXPIRY (R91). -/
def execHoldTimerExpiry (f : Fin 8) (s : State) : Host.Outcome State Fault Refusal :=
  .next (whenExpired (s.seq f).holdAt (fun s => finish (releaseHold f s)) s)

/-- BUS_WAIT_EXPIRY (R92). -/
def execBusWaitExpiry (f : Fin 8) (s : State) : Host.Outcome State Fault Refusal :=
  .next (if (s.seq f).state = .waitBus then
    whenExpired (s.seq f).busWaitAt (fun s => finish (lockout f .busLow s)) s else s)

/-- STOP_STEP_TIMER_EXPIRY (R118). -/
def execStopStepTimerExpiry (s : State) : Host.Outcome State Fault Refusal :=
  .next (if s.rect.stopStep = 2 then
    whenExpired s.rect.window.timerAt (fun s => finish (stopFailed s)) s else s)

/-- FIRING_DUE (R130). -/
def execFiringDue (s : State) : Host.Outcome State Fault Refusal := .next (finish (firingFallsDue s))

/-- GATE_PULSE_END (R130). -/
def execGatePulseEnd (g : Fin 12) (s : State) : Host.Outcome State Fault Refusal :=
  .next (whenExpired s.rect.gates[g] (gatePulseEnds g) s)

/-- FILL_TIMER_EXPIRY (R174). -/
def execFillTimerExpiry (slot : Fin 4) (s : State) : Host.Outcome State Fault Refusal :=
  .next (whenExpired s.capture.slots[slot].fillAt (fun s => finish (fillExpired slot s)) s)

/-- VALIDATION_COMPLETE (R144, R145). -/
def execValidationComplete (s : State) : Host.Outcome State Fault Refusal := .next (completeValidation s)

/-- RING_DOWN_TIMER_EXPIRY (R186). -/
def execRingDownTimerExpiry (s : State) : Host.Outcome State Fault Refusal :=
  .next (whenExpired s.ring.downAt ringDown s)

/-- DAY_ROLLOVER (R193): the time base moves on to midnight (notes/assumptions/33). -/
def execDayRollover (s : State) : Host.Outcome State Fault Refusal := .next (advanceTo (nextMidnight s) s)

end Sys2Proof.Machine
end

