-- ==== Sys2Proof/Machine/Dispatch.lean ====
section
/-! DEFINITION. One arm per command: each calls its meaning. -/

namespace Sys2Proof.Machine

def exec (i : Instr) (s : State) : Host.Outcome State Fault Refusal :=
  match i with
  | .coldReset addr gw => Sys2Proof.Machine.execColdReset addr gw s
  | .ringFrame bytes => Sys2Proof.Machine.execRingFrame bytes s
  | .sampleFrame frame => Sys2Proof.Machine.execSampleFrame frame s
  | .channelArrival c => Sys2Proof.Machine.execChannelArrival c s
  | .stalenessTimerExpiry c => Sys2Proof.Machine.execStalenessTimerExpiry c s
  | .evaluatorArrival f => Sys2Proof.Machine.execEvaluatorArrival f s
  | .sequencerArrival f => Sys2Proof.Machine.execSequencerArrival f s
  | .trackerArrival => Sys2Proof.Machine.execTrackerArrival s
  | .rectCurrentArrival => Sys2Proof.Machine.execRectCurrentArrival s
  | .rectBusArrival => Sys2Proof.Machine.execRectBusArrival s
  | .captureArrival => Sys2Proof.Machine.execCaptureArrival s
  | .positionFrame frame => Sys2Proof.Machine.execPositionFrame frame s
  | .positionAgeExpiry d => Sys2Proof.Machine.execPositionAgeExpiry d s
  | .repeatTimerExpiry d => Sys2Proof.Machine.execRepeatTimerExpiry d s
  | .openTimerExpiry d => Sys2Proof.Machine.execOpenTimerExpiry d s
  | .closeTimerExpiry d => Sys2Proof.Machine.execCloseTimerExpiry d s
  | .deadTimeExpiry f => Sys2Proof.Machine.execDeadTimeExpiry f s
  | .settleTimerExpiry f => Sys2Proof.Machine.execSettleTimerExpiry f s
  | .reclaimExpiry f => Sys2Proof.Machine.execReclaimExpiry f s
  | .holdTimerExpiry f => Sys2Proof.Machine.execHoldTimerExpiry f s
  | .busWaitExpiry f => Sys2Proof.Machine.execBusWaitExpiry f s
  | .stopStepTimerExpiry => Sys2Proof.Machine.execStopStepTimerExpiry s
  | .firingDue => Sys2Proof.Machine.execFiringDue s
  | .gatePulseEnd g => Sys2Proof.Machine.execGatePulseEnd g s
  | .fillTimerExpiry slot => Sys2Proof.Machine.execFillTimerExpiry slot s
  | .validationComplete => Sys2Proof.Machine.execValidationComplete s
  | .ringDownTimerExpiry => Sys2Proof.Machine.execRingDownTimerExpiry s
  | .ringOutFrameEnd => Sys2Proof.Machine.execRingOutFrameEnd s
  | .dayRollover => Sys2Proof.Machine.execDayRollover s
  | .intertripMessageReceived r restart => Sys2Proof.Machine.execIntertripMessageReceived r restart s
  | .messageAbandoned restart => Sys2Proof.Machine.execMessageAbandoned restart s
  | .lineLowEvent w => Sys2Proof.Machine.execLineLowEvent w s
  | .lowTimerExpiry held => Sys2Proof.Machine.execLowTimerExpiry held s
  | .busFreeTimerExpiry => Sys2Proof.Machine.execBusFreeTimerExpiry s
  | .intertripMessageStart => Sys2Proof.Machine.execIntertripMessageStart s
  | .arbitrationLost clock => Sys2Proof.Machine.execArbitrationLost clock s
  | .sendAttemptEnd ack => Sys2Proof.Machine.execSendAttemptEnd ack s
  | .status src tag params => Sys2Proof.Machine.execStatus src tag params s
  | .readFeeder src tag params => Sys2Proof.Machine.execReadFeeder src tag params s
  | .readRectifier src tag params => Sys2Proof.Machine.execReadRectifier src tag params s
  | .readChannel src tag params => Sys2Proof.Machine.execReadChannel src tag params s
  | .readCountersRing src tag option selector extra => Sys2Proof.Machine.execReadCountersRing src tag option selector extra s
  | .readCountersStreams src tag option selector extra => Sys2Proof.Machine.execReadCountersStreams src tag option selector extra s
  | .readCountersIntertrip src tag option selector extra => Sys2Proof.Machine.execReadCountersIntertrip src tag option selector extra s
  | .readCountersReports src tag option selector extra => Sys2Proof.Machine.execReadCountersReports src tag option selector extra s
  | .readCountersCapture src tag option selector extra => Sys2Proof.Machine.execReadCountersCapture src tag option selector extra s
  | .readCountersFiring src tag option selector extra => Sys2Proof.Machine.execReadCountersFiring src tag option selector extra s
  | .writeTable src tag params => Sys2Proof.Machine.execWriteTable src tag params s
  | .readTable src tag params => Sys2Proof.Machine.execReadTable src tag params s
  | .validate src tag params => Sys2Proof.Machine.execValidate src tag params s
  | .activate src tag params => Sys2Proof.Machine.execActivate src tag params s
  | .operateOpen src tag target extra => Sys2Proof.Machine.execOperateOpen src tag target extra s
  | .operateClose src tag target extra => Sys2Proof.Machine.execOperateClose src tag target extra s
  | .resetLockout src tag target extra => Sys2Proof.Machine.execResetLockout src tag target extra s
  | .closeAc src tag target extra => Sys2Proof.Machine.execCloseAc src tag target extra s
  | .deblock src tag target extra => Sys2Proof.Machine.execDeblock src tag target extra s
  | .block src tag target extra => Sys2Proof.Machine.execBlock src tag target extra s
  | .stopFull src tag target extra => Sys2Proof.Machine.execStopFull src tag target extra s
  | .resetRect src tag target extra => Sys2Proof.Machine.execResetRect src tag target extra s
  | .readReports src tag params => Sys2Proof.Machine.execReadReports src tag params s
  | .captureList src tag params => Sys2Proof.Machine.execCaptureList src tag params s
  | .readCapture src tag params => Sys2Proof.Machine.execReadCapture src tag params s
  | .releaseCapture src tag params => Sys2Proof.Machine.execReleaseCapture src tag params s
  | .triggerCapture src tag params => Sys2Proof.Machine.execTriggerCapture src tag params s
  | .setTime src tag params => Sys2Proof.Machine.execSetTime src tag params s
  | .restart src tag params => Sys2Proof.Machine.execRestart src tag params s
  | .unknownRequest src tag code params => Sys2Proof.Machine.execUnknownRequest src tag code params s
  | .bothWiresHigh => Sys2Proof.Machine.execBothWiresHigh s

end Sys2Proof.Machine
end

