-- ==== Sys2Proof/Safety.lean ====
section
/-! DEFINITION. What a safe state is: for each block, the standing facts that the manual's rules state of it and that
no command may break. Each is a property of one state, so that a claim can say that every step keeps it. -/

namespace Sys2Proof.Machine

/-! ## Switchgear: the interlock of main breaker and test contactor (R43, R56, R57) -/

/-- A device's command is outstanding only on an assigned record (R43, R49, R50). -/
def CommandsAddressed (s : State) : Prop := ∀ d, (s.dev d).cmd ≠ .none → (s.dev d).addr ≠ none

/-- R56: FMf never has CLOSE outstanding while FTf is not reported OPEN or has a command outstanding. -/
def MainGuarded (s : State) : Prop :=
  ∀ f, (s.dev (.fm f)).cmd = .toClose → (s.dev (.ft f)).pos = .opened ∧ (s.dev (.ft f)).cmd = .none

/-- R57: FTf never has CLOSE outstanding while FMf is reported CLOSED or TRAVEL or has CLOSE outstanding. -/
def TestGuarded (s : State) : Prop :=
  ∀ f, (s.dev (.ft f)).cmd = .toClose →
    (s.dev (.fm f)).pos ≠ .closed ∧ (s.dev (.fm f)).pos ≠ .travel ∧ (s.dev (.fm f)).cmd ≠ .toClose

/-- The interlock of section 3.5. -/
def Interlocked (s : State) : Prop := CommandsAddressed s ∧ MainGuarded s ∧ TestGuarded s

/-! ## Rectifier: firing (R112) -/

/-- R112: GATE_EN is high in the firing states and low in every other; outside them no firing is pending and every
gate output is low. -/
def GatesSafe (s : State) : Prop :=
  s.rect.gateEn = firing s.rect.state ∧
    (firing s.rect.state = false → s.rect.schedule = [] ∧ ∀ g : Fin 12, s.rect.gates[g] = none)

/-! ## Sequences: attempts (R85) -/

/-- R85: how the attempt count stands to the limit in force, by the state. -/
def AttemptsInLimit (q : Sequencer) : Prop :=
  match q.state with
  | .idleClosed | .idleOpen => q.attempts = 0
  | .deadTime | .held | .waitBus | .testing | .measuring | .testClear => q.attempts < q.limit
  | .closing => if q.backingOff then q.attempts < q.limit else 1 ≤ q.attempts ∧ q.attempts ≤ q.limit
  | .reclaim | .lockout => q.attempts ≤ q.limit

/-- Every sequence keeps to its limit. -/
def SequencesInLimit (s : State) : Prop := ∀ f, AttemptsInLimit (s.seq f)

/-! ## Reports (R157, R161) -/

/-- R157, R161: the queue holds at most 64 entries, and accepted = read + displaced + queued, modulo 2^32. -/
def ReportsAccounted (s : State) : Prop :=
  s.reports.queue.length ≤ 64 ∧
    s.reports.accepted = s.reports.read + s.reports.displaced + BitVec.ofNat 32 s.reports.queue.length

/-! ## Setting banks (R139, R140, R143, R188) -/

/-- R139, R143: a bank is ACTIVE exactly when the active pointer names it; it is VALIDATING exactly when it is the
standby bank and the validator runs; the target of a pending switch-over is the standby bank and VALID, and some
consumer other than the streams and the report settings is still marked (R148, R149); with no switch-over pending the
mask is clear; each bank holds the 720 bytes of its six tables. -/
def BanksConsistent (s : State) : Prop :=
  (s.banks.bankA.length = 720 ∧ s.banks.bankB.length = 720) ∧
  (∀ k, bankState k s = .active ↔ s.banks.active = some k) ∧
  (∀ k, bankState k s = .validating ↔ k = standby s ∧ s.banks.validator ≠ none) ∧
  (∀ k, s.banks.target = some k → k = standby s ∧ bankState k s = .valid ∧
    s.banks.mask[0] = false ∧ s.banks.mask[11] = false ∧ ∃ m : Fin 13, s.banks.mask[m] = true) ∧
  (s.banks.target = none → ∀ k : Fin 13, s.banks.mask[k] = false)

/-! ## Ring Port (R185, R188) -/

/-- R185, R188: at most four frames wait in the relay buffer and at most four answers in the answer queue; the answer
queue holds one unready place while a validation runs and none otherwise. -/
def RingBounded (s : State) : Prop :=
  s.ring.relay.length ≤ 4 ∧ s.ring.answers.length ≤ 4 ∧
    (s.ring.answers.filter fun p => p.answer = none).length = if s.banks.validator = none then 0 else 1

/-! ## Capture (R166, R167) -/

/-- The slots that stand on the fill order list are those in FILLING, HELD or READING (R166). -/
def onOrderList (st : SlotState) : Bool := st = .filling || st = .held || st = .reading

/-- R166, R167: at most one slot is ARMED and at most one FILLING; the fill order list names each FILLING, HELD or
READING slot once and no other; with settings adopted and no slot ARMED, no slot is FREE. -/
def SlotsConsistent (s : State) : Prop :=
  (∀ i j : Fin 4, s.capture.slots[i].state = .armed → s.capture.slots[j].state = .armed → i = j) ∧
  (∀ i j : Fin 4, s.capture.slots[i].state = .filling → s.capture.slots[j].state = .filling → i = j) ∧
  s.capture.order.Nodup ∧
  (∀ i : Fin 4, i ∈ s.capture.order ↔ onOrderList s.capture.slots[i].state = true) ∧
  (s.capture.settings ≠ none → (∀ i : Fin 4, s.capture.slots[i].state ≠ .armed) →
    ∀ i : Fin 4, s.capture.slots[i].state ≠ .free)

/-! ## Intertrip (R65, R78, R79) -/

/-- R65, R69, R72, R74: the bus-free timer runs exactly while both wires are high outside SENDING and RECEIVING; the low
timer runs only while a wire is low, and outside FAULT whenever one is; a wire that this part drives is low, CK only in
SENDING and DT only in SENDING and RECEIVING. R66: a time of this part's own as a contender runs only in SENDING, and
whenever it drives CK. -/
def WiresWatched (l : LineCtl) : Prop :=
  (l.freeSince ≠ none ↔ l.state ≠ .sending ∧ l.state ≠ .receiving ∧ l.ckLow = false ∧ l.dtLow = false) ∧
  (l.lowAt ≠ none → l.ckLow = true ∨ l.dtLow = true) ∧
  (l.state ≠ .fault → l.ckLow = true ∨ l.dtLow = true → l.lowAt ≠ none) ∧
  (l.phaseAt ≠ none → l.state = .sending) ∧
  (l.driveCk = true → l.ckLow = true ∧ l.state = .sending ∧ l.phaseAt ≠ none) ∧
  (l.driveDt = true → l.dtLow = true ∧ (l.state = .sending ∨ l.state = .receiving))

/-- R65, R78, R79: the wires and their timers agree; the transmit queue holds at most one entry for a section code; the
line is SENDING only with an entry at the head of the queue, and no entry but that head carries a change mark. -/
def TransmitConsistent (s : State) : Prop :=
  WiresWatched s.line ∧
  (s.line.queue.map fun e => e.code).Nodup ∧
  (s.line.state = .sending → s.line.queue ≠ []) ∧
  (∀ e ∈ (if s.line.state = .sending then s.line.queue.drop 1 else s.line.queue), e.changed = false)

/-! ## Channels (R7 to R11) -/

/-- R7 to R11: the history holds 8 instants and the good run is at most 32; ABSENT and STALE go with a stopped staleness
timer and a good run of 0, RECOVERING and VALID with a running one; the run of a RECOVERING channel is below 32. -/
def ChannelConsistent (k : Channel) : Prop :=
  k.hist.length = 8 ∧ k.goodRun ≤ 32 ∧
    match k.state with
    | .absent | .stale => k.staleAt = none ∧ k.goodRun = 0
    | .recovering => k.staleAt ≠ none ∧ k.goodRun < 32
    | .valid => k.staleAt ≠ none

/-- Every channel record is consistent. -/
def ChannelsConsistent (s : State) : Prop := ∀ c, ChannelConsistent (s.chan c)

/-! ## Requests (R188, R189, R190) -/

/-- A request from a source reaches the Responder: the part has an address, the frame is not its own come round, and
the answer queue has a place (R182, R183, R188). -/
def Reaches (src : Byte) (s : State) : Prop := s.ring.own ≠ 0 ∧ src ≠ s.ring.own ∧ s.ring.answers.length < 4

/-- A request from the management source reaches the Responder. -/
def Manages (src : Byte) (s : State) : Prop := Reaches src s ∧ src = s.ring.mgmt

/-- The answer of a processed request takes its place, built from the state the request left (R188, R189). -/
def answered (src tag : Byte) (o : ReplyOutcome) (r : Reason) (data : List Byte) (s : State) : State :=
  placeAnswer src tag ⟨o, r, s.reports.queue.length, data⟩ s

/-- The parameter bytes that a request code requires (section 11.2); WRITE_TABLE checks its own length (R141). -/
def requiredLength : Nat → Nat
  | 0x02 | 0x04 | 0x0B | 0x0E => 1
  | 0x05 => 3
  | 0x07 | 0x0D => 5
  | 0x0A => 2
  | 0x10 => 7
  | _ => 0

/-- The codes of the requests that any source may make (R189 step 2). -/
def anySourceCodes : List Nat := [0x01, 0x02, 0x03, 0x04, 0x05, 0x07, 0x0B, 0x0C, 0x0D]

/-- No switch-over is pending (R139): no consumer waits for its safe point. -/
def Settled (s : State) : Prop := s.banks.target = none

/-- Nothing waits between blocks: every arrival is filed and every copy taken (notes/assumptions/1, 5). -/
def Drained (s : State) : Prop :=
  (∀ c, (s.chan c).waiting = []) ∧ (∀ f, (s.ev f).inbox = [] ∧ (s.seq f).inbox = []) ∧ s.rect.uabIn = [] ∧
    s.rect.curIn = [] ∧ s.rect.busIn = [] ∧ s.capture.inbox = []

/-! ## Trip decisions (R34) -/

/-- What a trip decision of feeder f leaves (R34, R35, R36): TRIPPING with counts and registers 0 and the cause and value
kept, the OPEN of an assigned FMf outstanding, and the cause noted by an idle closed sequence. With the OPEN asked for,
the capture trigger of the cause is taken, and FEEDER_TRIP is reported with the cause, the value and the slot that
answered it; a TRIP is enqueued for every cause but INTERTRIP. -/
def Tripped (f : Fin 8) (cause : Cause) (value : Int) (s t : State) : Prop :=
  (t.ev f).state = .tripping ∧ (t.ev f).lastTrip = some (cause, value) ∧ (t.ev f).pendingTrip = some cause ∧
    (t.ev f).instCount = 0 ∧ (t.ev f).dtCount = 0 ∧ (t.ev f).iBase = 0 ∧ (t.ev f).elapsed = 0 ∧ (t.ev f).hold = 0 ∧
    (t.ev f).peak = 0 ∧ ((s.dev (.fm f)).addr ≠ none → (t.dev (.fm f)).cmd = .toOpen) ∧
    t.reports.occurred[0] = bump s.reports.occurred[0] ∧
    ((s.seq f).state = .idleClosed → (t.seq f).noted = some cause) ∧
    t.line = (if cause = .intertrip then s.line else (enqueue f .trip s).line) ∧
    (let answer := trigger cause (.feeder f) (askOpen (.fm f) .feederProtection s)
     t.capture = answer.2.capture ∧ t.reports =
       (submit .feederTrip (.feeder f) (some (feederTripCause cause)) (some value) answer.1 answer.2).reports) ∧
    (∀ g, g ≠ f → t.ev g = s.ev g ∧ t.seq g = s.seq g) ∧ t.chans = s.chans ∧ t.rect = s.rect ∧ t.banks = s.banks ∧
    t.time = s.time

end Sys2Proof.Machine
end

