-- ==== Sys2Proof/Certificates/Slice0/Obligations.lean ====
section
/-! DEFINITION. The statements about the DP208. Each docstring says which rule it formalises, or that it rests on a
choice of the model's, with the log entry. Where a statement gives the state after a command by an update of the state
before it, everything the update does not name is unchanged. -/

open Sys2Proof Sys2Proof.Machine

/-! ## The machine as a whole -/

/-- One step takes the command at the front of the queue and runs it with the queue's rest (notes/assumptions/1).
With no command waiting, a step is one cycle of CLK: the own time base moves on by 256 units and station time
follows it; nothing else changes, unless a contender's own time ends (choices of the model's: notes/assumptions/2, 21).
R66: at the end of its own low time a contender releases CK, which stays low until the last one has released it; at the end
of its own high time, and 50 µs after its start, it drives CK low, as at any other fall of CK.
The moment at which a timer runs out is the model's choice (notes/assumptions/44). -/
def Obligations.StepTakesFrontCommand : Prop :=
  (∀ (c : Instr) (rest : List Instr) (s : State),
      s.pending = c :: rest → step s = exec c { s with pending := rest }) ∧
  (∀ s : State, s.pending = [] →
      let u : State := { s with time := { s.time with
        now := s.time.now + 256
        day := (s.time.day +
          (s.time.micros + ((s.time.now + 256) / 6400 - s.time.now / 6400)) / 86400000000) % 65536
        micros := (s.time.micros + ((s.time.now + 256) / 6400 - s.time.now / 6400)) % 86400000000 } }
      let ends := s.line.state = .sending ∧ ∃ d, s.line.phaseAt = some d ∧ d ≤ s.time.now + 256
      (¬ ends → step s = .next u) ∧
      (ends → s.line.driveCk = true → s.line.ckLow = true → step s = .next { u with line := { u.line with
        driveCk := false, phaseAt := none, freeSince := none,
        lowAt := some (s.line.lowAt.getD (u.time.now + 2 * Config.unitsPerMs)) } }) ∧
      (ends → s.line.driveCk = false → step s = exec (.lineLowEvent .ck) u))

/-- No command stops the part and none touches the queue of commands waiting: exec answers a next state for every
command in every state (the manual names no stop; the queue is the model's own, notes/assumptions/1). -/
def Obligations.EveryCommandCompletes : Prop :=
  ∀ (c : Instr) (s : State), ∃ t, exec c s = .next t ∧ t.pending = s.pending

/-- R41, R62, R82, R109, R163, R180, R182, R195: a cold reset puts the blocks in their reset condition, whatever the state before it,
with the straps it samples. A wire that another station holds stays low, and the line's timers follow the wires
(notes/assumptions/26; the moments at which they run out: 44). The fields of the line's record that R82 does not give (its clocks, bits, acceptance and contender's
time) are none or empty (notes/assumptions/24).
R20, R137, R152, R193: the measurement channels, the rectifier, the setting banks and the Time Base after a cold
reset. -/
def Obligations.ColdReset : Prop :=
  (∀ (addr : BitVec 6) (gw : BitVec 2) (s : State), ∃ t, exec (.coldReset addr gw) s = .next t ∧
      (t.ring.own = addr.setWidth 8 ∧ t.ring.mgmt = 0xF0 + gw.setWidth 8 ∧ t.ring.relay = [] ∧ t.ring.answers = [] ∧
        (∀ d, t.ring.claims.get d = none) ∧ t.ring.turn = 0 ∧ t.ring.ring = .up ∧
        t.ring.downAt = some (t.time.now + 5 * Config.unitsPerMs) ∧ t.ring.counters = RingCounters.zero) ∧
      (∀ f, (t.ev f).state = .off ∧ (t.ev f).settings = none ∧ (t.ev f).posView = .unknown ∧
        (t.ev f).chanView = .absent ∧ (t.ev f).instCount = 0 ∧ (t.ev f).dtCount = 0 ∧ (t.ev f).iBase = 0 ∧
        (t.ev f).elapsed = 0 ∧ (t.ev f).hold = 0 ∧ (t.ev f).peak = 0 ∧ (t.ev f).lastTrip = none ∧
        (t.ev f).pendingTrip = none) ∧
      (∀ d, t.dev d = { addr := none, pos := .unknown, ageAt := none, cmd := .none, requester := none,
                        cmdTimer := none, cmdStart := none, repeatAt := none, flag := .none }) ∧
      t.unmatchedPos = 0 ∧ t.malformedPos = 0 ∧
      (∀ f, (t.seq f).state = .idleOpen ∧ (t.seq f).plan = none ∧ (t.seq f).attempts = 0 ∧ (t.seq f).limit = 0 ∧
        (t.seq f).noted = none ∧ (t.seq f).hold = false ∧ (t.seq f).holdAt = none ∧ (t.seq f).timerAt = none ∧
        (t.seq f).busWaitAt = none ∧ (t.seq f).busSum = 0 ∧ (t.seq f).busCount = 0 ∧ (t.seq f).lineSum = 0 ∧
        (t.seq f).lineCount = 0 ∧ (t.seq f).lockCause = none ∧ (t.seq f).lastTest = none) ∧
      (t.reports.queue = [] ∧ t.reports.mask = none ∧ t.reports.occurred = Vector.replicate 8 0 ∧
        t.reports.accepted = 0 ∧ t.reports.read = 0 ∧ t.reports.displaced = 0 ∧ t.reports.dropped = 0) ∧
      (t.capture.settings = none ∧ (∀ i : Fin 4, t.capture.slots[i] = Slot.initial) ∧ t.capture.order = [] ∧
        t.capture.counters = CaptureCounters.zero) ∧
      (let ck := s.line.ckLow && !s.line.driveCk
       let dt := s.line.dtLow && !s.line.driveDt
       t.line = { table := none, state := .waiting, freeSince := if ck || dt then none else some t.time.now,
                  lowAt := if ck || dt then some (t.time.now + 2 * Config.unitsPerMs) else none, queue := [],
                  clocks := 0, heard := [], inFlight := [], ckLow := ck, dtLow := dt, driveCk := false,
                  driveDt := false, accepted := none, phaseAt := none, counters := ⟨0, 0, 0, 0, 0, 0, 0, 0⟩ })) ∧
  (∀ (addr : BitVec 6) (gw : BitVec 2) (s : State), ∃ t, exec (.coldReset addr gw) s = .next t ∧
      (∀ c, t.chan c = { state := .absent, last := ⟨0, .missing⟩, hist := List.replicate 8 ⟨0, .missing⟩, goodRun := 0,
                         staleAt := none, samples := 0, invalid := 0, missing := 0, staleMoves := 0, consumers := [],
                         waiting := [] }) ∧
      (∀ k : Fin 24, (t.matcher.entries[k]).unit = 0) ∧ t.matcher.unmatched = 0 ∧ t.matcher.malformed = 0 ∧
      (t.rect.settings = none ∧ t.rect.state = .off ∧ t.rect.wait = .none ∧ t.rect.stopStep = 0 ∧
        t.rect.lastTrip = none ∧ t.rect.tracker = ⟨.unlocked, 0, none, 0, 0⟩ ∧ t.rect.alpha = 7500 ∧
        t.rect.sums = ⟨0, 0, 0, 0⟩ ∧ t.rect.uAvg = 0 ∧ t.rect.iAvg = 0 ∧ t.rect.holdFlag = false ∧
        t.rect.limitFlag = false ∧ t.rect.overCount = 0 ∧ t.rect.schedule = [] ∧
        (∀ g : Fin 12, t.rect.lineRec[g] = none ∧ t.rect.gates[g] = none) ∧ t.rect.counters = ⟨0, 0, 0, 0, 0, 0⟩ ∧
        t.rect.gateEn = false) ∧
      (t.banks.bankA = List.replicate 720 0 ∧ t.banks.bankB = List.replicate 720 0 ∧ t.banks.stateA = .unchecked ∧
        t.banks.stateB = .unchecked ∧ t.banks.active = none ∧ t.banks.mask = Vector.replicate 13 false ∧
        t.banks.target = none ∧ t.banks.validator = none ∧ t.banks.lastVal = none) ∧
      t.time = { now := 0, day := 0, micros := 0, unset := true })

/-- The state after reset meets every invariant below (R56, R57, R112, R85, R161, R139, R188, R166, R78, R8).
The straps and the fields of State.reset to which the manual gives no value are the model's choice
(notes/assumptions/4, 24). -/
def Obligations.ResetMeetsInvariants : Prop :=
  Interlocked State.reset ∧ GatesSafe State.reset ∧ SequencesInLimit State.reset ∧ ReportsAccounted State.reset ∧
    BanksConsistent State.reset ∧ RingBounded State.reset ∧ SlotsConsistent State.reset ∧
    TransmitConsistent State.reset ∧ ChannelsConsistent State.reset

/-! ## Invariants that every step keeps -/

/-- R56, R57: FMf never has CLOSE outstanding unless FTf is reported OPEN with no command outstanding, and FTf never has CLOSE
outstanding while FMf is reported CLOSED or TRAVEL or has CLOSE outstanding. Every step keeps it, in every state that
meets it. -/
def Obligations.InterlockKept : Prop :=
  ∀ s t : State, Interlocked s → step s = .next t → Interlocked t

/-- R112: GATE_EN follows the firing states; outside them no firing is pending and no gate output is high. -/
def Obligations.GatesKept : Prop :=
  ∀ s t : State, GatesSafe s → step s = .next t → GatesSafe t

/-- R85: a sequence's attempt count never exceeds its limit, and stands below it in the states that lead to a test. -/
def Obligations.AttemptsKept : Prop :=
  ∀ s t : State, SequencesInLimit s → step s = .next t → SequencesInLimit t

/-- R161: accepted = read + displaced + queue length modulo 2^32, and the queue never exceeds 64 entries. -/
def Obligations.ReportsKept : Prop :=
  ∀ s t : State, ReportsAccounted s → step s = .next t → ReportsAccounted t

/-- R139, R143, R188: the bank states, the active pointer, the target, the validator and the answer queue agree. -/
def Obligations.BanksKept : Prop :=
  ∀ s t : State, BanksConsistent s ∧ RingBounded s → step s = .next t → BanksConsistent t ∧ RingBounded t

/-- R166, R167: the capture slots and the fill order list agree. -/
def Obligations.SlotsKept : Prop :=
  ∀ s t : State, SlotsConsistent s → step s = .next t → SlotsConsistent t

/-- R65, R68, R69: the line's two timers follow its wires, and this part drives a wire only in SENDING, and DT in
RECEIVING.
R78, R79: at most one entry for a section, and a change mark only on the entry in flight. -/
def Obligations.TransmitKept : Prop :=
  ∀ s t : State, TransmitConsistent s → step s = .next t → TransmitConsistent t

/-- R7 to R11: every channel record stays consistent. -/
def Obligations.ChannelsKept : Prop :=
  ∀ s t : State, ChannelsConsistent s → step s = .next t → ChannelsConsistent t

/-! ## Frames and requests (sections 10.2, 10.4, 11.1) -/

/-- Section 11.1: the bytes of a frame carry a CRC that matches, and spell that frame again. -/
def Obligations.FrameBytesRoundTrip : Prop :=
  ∀ fr : Frame, fr.wellFormed = true → crcMatches (frameBytes fr) = true ∧ frameOf (frameBytes fr) = some fr

/-- Sections 11.1 and 11.2: a command that is a frame's arrival (a SAMPLE frame, a POSITION frame, a management request) does what
the arrival of that frame's bytes at ring-in does. 0xFF is the broadcast address and 0x00 no address. -/
def Obligations.RequestIsItsFrame : Prop :=
  ∀ (c : Instr) (fr : Frame) (s : State), c.wellFormed = true → s.ring.own ≠ 0 → s.ring.own ≠ 0xFF →
    frameOfInstr s.ring.own c = some fr → exec c s = exec (.ringFrame (frameBytes fr)) s

/-- R183: a frame at ring-in is judged by the first line that applies.
R184, R185: a good frame for another unit is only relayed: it joins the buffer when the buffer holds fewer than
4 while ring-out is busy, is sent at once when ring-out is idle with nothing waiting, and is dropped when it holds 4.
R184: a broadcast frame that is neither SAMPLE nor POSITION is relayed and counted unused. A frame for the part itself is
taken off the ring: SAMPLE, POSITION and MANAGE go to their users, every other type is counted unused.
Which bytes the CRC of a frame of a wrong length covers, and that a relayed frame is counted when it begins, are the model's
(notes/assumptions/9, 8). -/
def Obligations.FramesAtRingIn : Prop :=
  (∀ (bytes : List Byte) (s : State),
      (crcMatches bytes = false →
        exec (.ringFrame bytes) s = .next (updRingCounters (fun c => { c with crc := bump c.crc }) s)) ∧
      (crcMatches bytes = true → (64 < u8 bytes 4 ∨ bytes.length ≠ 7 + u8 bytes 4 ∨ byteAt bytes 1 = 0) →
        exec (.ringFrame bytes) s = .next (updRingCounters (fun c => { c with framing := bump c.framing }) s)) ∧
      (crcMatches bytes = true → u8 bytes 4 ≤ 64 → bytes.length = 7 + u8 bytes 4 → byteAt bytes 1 ≠ 0 →
        byteAt bytes 2 = s.ring.own →
        exec (.ringFrame bytes) s = .next (updRingCounters (fun c => { c with returned := bump c.returned }) s)) ∧
      (∀ fr : Frame, crcMatches bytes = true → frameOf bytes = some fr → fr.dst ≠ 0 → fr.src ≠ s.ring.own →
        exec (.ringFrame bytes) s = .next (sortFrame fr (goodFrame s)))) ∧
  (∀ (bytes : List Byte) (fr : Frame) (s : State), crcMatches bytes = true → frameOf bytes = some fr →
      fr.dst ≠ 0 → fr.dst ≠ 0xFF → fr.dst ≠ s.ring.own → fr.src ≠ s.ring.own →
      let g := goodFrame s
      (s.ring.relay.length < 4 → s.ring.out ≠ none →
        exec (.ringFrame bytes) s = .next { g with ring := { g.ring with relay := g.ring.relay ++ [fr] } }) ∧
      (s.ring.relay = [] → s.ring.out = none → (∀ d, s.ring.claims.get d = none) →
        exec (.ringFrame bytes) s = .next { g with ring := { g.ring with
          out := some fr, counters := { g.ring.counters with relayed := bump g.ring.counters.relayed } } }) ∧
      (4 ≤ s.ring.relay.length →
        exec (.ringFrame bytes) s = .next { g with ring := { g.ring with
          counters := { g.ring.counters with drops := bump g.ring.counters.drops } } })) ∧
  (∀ (bytes : List Byte) (fr : Frame) (s : State), crcMatches bytes = true → frameOf bytes = some fr →
      fr.dst ≠ 0 → fr.src ≠ s.ring.own → s.ring.own ≠ 0xFF →
      let g := goodFrame s
      let go := exec (.ringFrame bytes) s
      let unused (u : State) : State := { u with ring := { u.ring with
        counters := { u.ring.counters with unused := bump u.ring.counters.unused } } }
      (fr.dst = 0xFF → fr.type ≠ 1 → fr.type ≠ 2 → go = .next (unused (g.updRing (joinRelay fr)))) ∧
      (fr.dst = s.ring.own → fr.type ≠ 1 → fr.type ≠ 2 → fr.type ≠ 4 → go = .next (unused g)) ∧
      (fr.dst = s.ring.own → fr.type = 1 → go = .next (takeSample fr g)) ∧
      (fr.dst = s.ring.own → fr.type = 2 → Settled s → go = .next (takePosition fr g)) ∧
      (fr.dst = s.ring.own → fr.type = 4 → go = .next (takeManage fr.src fr.payload g)))

/-- R186 and the good frames of R183: the ring-down timer and the ring state.
That the timer's expiry moves the time base on, and the moment at which it runs out, are the model's choices
(notes/assumptions/3, 44). -/
def Obligations.RingStateMoves : Prop :=
  ∀ s : State,
    (s.ring.ring = .up → goodFrame s = { s with ring := { s.ring with
      downAt := some (s.time.now + 5 * Config.unitsPerMs),
      counters := { s.ring.counters with good := bump s.ring.counters.good } } }) ∧
    (s.ring.ring = .down → goodFrame s = report .ringRestored .part none none { s with ring := { s.ring with
      ring := .up, downAt := some (s.time.now + 5 * Config.unitsPerMs),
      counters := { s.ring.counters with good := bump s.ring.counters.good } } }) ∧
    (∀ d, s.ring.downAt = some d → s.ring.ring = .up →
      exec .ringDownTimerExpiry s = .next (report .ringDown .part none none
        { advanceTo d s with ring := { s.ring with
          ring := .down, downAt := none, counters := { s.ring.counters with downs := bump s.ring.counters.downs } } }))

/-- R187, R188, R196: at the end of a frame an answer whose last frame has been sent leaves its place, and the highest
claimant holding a frame is served: the claim slots, in turn, before the relay buffer, and that before the oldest ready
answer. With nothing to send ring-out is idle.
When an answer's place is freed, and that a frame is counted when it begins, are the model's reading (notes/assumptions/8). -/
def Obligations.ArbiterServes : Prop :=
  ∀ (s : State) (sent : Frame), s.ring.out = some sent → s.ring.turn < 18 →
    let kept := s.ring.answers.filter fun a => !a.allBegun
    (∀ (i : Nat) (d : Device) (fr : Frame), i < 18 → deviceList[i]? = some d → s.ring.claims.get d = some fr →
      (∀ j e, j < 18 → (j + 18 - s.ring.turn) % 18 < (i + 18 - s.ring.turn) % 18 → deviceList[j]? = some e →
        s.ring.claims.get e = none) →
      exec .ringOutFrameEnd s = .next { s with ring := { s.ring with
        answers := kept, claims := s.ring.claims.set d none, turn := (i + 1) % 18, out := some fr,
        counters := { s.ring.counters with commands := bump s.ring.counters.commands } } }) ∧
    (∀ (fr : Frame) (rest : List Frame), (∀ d, s.ring.claims.get d = none) → s.ring.relay = fr :: rest →
      exec .ringOutFrameEnd s = .next { s with ring := { s.ring with
        answers := kept, relay := rest, out := some fr,
        counters := { s.ring.counters with relayed := bump s.ring.counters.relayed } } }) ∧
    (∀ (p : AnswerPlace) (a : Answer) (pre rest : List AnswerPlace), (∀ d, s.ring.claims.get d = none) →
      s.ring.relay = [] → kept = pre ++ p :: rest → (∀ q ∈ pre, q.answer = none) → p.answer = some a →
      exec .ringOutFrameEnd s = .next { s with ring := { s.ring with
        answers := pre ++ { p with begun := p.begun + 1 } :: rest,
        out := some (answerFrame s.ring.own p.dst p.tag a p.begun),
        counters := { s.ring.counters with answers := bump s.ring.counters.answers } } }) ∧
    ((∀ d, s.ring.claims.get d = none) → s.ring.relay = [] → (∀ q ∈ kept, q.answer = none) →
      exec .ringOutFrameEnd s = .next { s with ring := { s.ring with answers := kept, out := none } })

/-- R196: the frames of an answer: the tag, the outcome, the reason and the queued-report count, and then up to 60 bytes
of the data each, in order, with the segment number modulo 8 and the last-segment mark; together they carry the whole
data. -/
def Obligations.AnswerSegments : Prop :=
  ∀ (own dst tag : Byte) (a : Answer),
    (∀ k, (answerFrame own dst tag a k).dst = dst ∧ (answerFrame own dst tag a k).src = own ∧
      (answerFrame own dst tag a k).type = 5 ∧
      ((answerFrame own dst tag a k).flags.extractLsb' 0 3).toNat = k % 8 ∧
      ((answerFrame own dst tag a k).flags.getLsbD 3 = true ↔ k + 1 = segments a) ∧
      (answerFrame own dst tag a k).payload.take 4 =
        [tag, byteOf (replyCode a.outcome), byteOf (reasonCode a.reason), byteOf a.queued] ∧
      (answerFrame own dst tag a k).payload.length ≤ 64) ∧
    ((List.range (segments a)).flatMap fun k => (answerFrame own dst tag a k).payload.drop 4) = a.data

/-- R188: an answer takes a place; while ring-out is busy it waits there, and when ring-out is idle with nothing
waiting its first frame is sent at once. Nothing outside the Ring Port changes.
R188: a request that finds four places in the answer queue is not processed and gets no answer; the overrun is
counted, and nothing but the counts of its frame changes.
That an ANSWER frame is counted when it begins, its place staying taken, is the model's reading (notes/assumptions/8). -/
def Obligations.AnswerPlaces : Prop :=
  (∀ (src tag : Byte) (o : ReplyOutcome) (r : Reason) (data : List Byte) (s : State),
      let a : Answer := ⟨o, r, s.reports.queue.length, data⟩
      (s.ring.out ≠ none → answered src tag o r data s =
        { s with ring := { s.ring with answers := s.ring.answers ++ [⟨src, tag, some a, 0⟩] } }) ∧
      (s.ring.out = none → (∀ d, s.ring.claims.get d = none) → s.ring.relay = [] → s.ring.answers = [] →
        answered src tag o r data s = { s with ring := { s.ring with
          answers := [⟨src, tag, some a, 1⟩], out := some (answerFrame s.ring.own src tag a 0),
          counters := { s.ring.counters with answers := bump s.ring.counters.answers } } })) ∧
  (∀ (c : Instr) (fr : Frame) (s : State), frameOfInstr s.ring.own c = some fr → fr.type = 4 → s.ring.own ≠ 0 →
      s.ring.own ≠ 0xFF → fr.src ≠ s.ring.own → s.ring.answers.length = 4 → (∀ x, c ≠ .sampleFrame x) →
      (∀ x, c ≠ .positionFrame x) →
      exec c s = .next (updRingCounters (fun k => { k with overruns := bump k.overruns }) (goodFrame s)))

/-! ## Management requests (section 10.4) -/

/-- R189: the first check that fails refuses a processed request with no further effect: an undefined code, a source that
may not make it, a wrong length.
R190: the Responder's range checks: the feeder of READ_FEEDER, group and option of READ_COUNTERS, and target and action of
OPERATE. R16: the channel of READ_CHANNEL. A group or an action that no command of the table names comes as its
frame's bytes. -/
def Obligations.RequestChecks : Prop :=
  (∀ (c : Instr) (fr : Frame) (code tag : Byte) (params : List Byte) (s : State),
      frameOfInstr s.ring.own c = some fr → (∀ x, c ≠ .sampleFrame x) → (∀ x, c ≠ .positionFrame x) →
      fr.payload = code :: tag :: params → Reaches fr.src s →
      (definedCode code = false →
        exec c s = .next (answered fr.src tag .refused .unknown [] (goodFrame s))) ∧
      (definedCode code = true → code.toNat ∉ anySourceCodes → fr.src ≠ s.ring.mgmt →
        exec c s = .next (answered fr.src tag .refused .notPermitted [] (goodFrame s))) ∧
      (definedCode code = true → (code.toNat ∈ anySourceCodes ∨ fr.src = s.ring.mgmt) → code ≠ 0x06 →
        params.length ≠ requiredLength code.toNat →
        exec c s = .next (answered fr.src tag .refused .badLength [] (goodFrame s)))) ∧
  (∀ (src tag n option sel : Byte) (s : State), Reaches src s →
      let no : Host.Outcome State Fault Refusal := .next (answered src tag .refused .range [] (goodFrame s))
      ((n = 0 ∨ 8 < n.toNat) → exec (.readFeeder src tag [n]) s = no) ∧
      (24 ≤ n.toNat → exec (.readChannel src tag [n]) s = no) ∧
      (1 < option.toNat → exec (.readCountersRing src tag option sel []) s = no ∧
        exec (.readCountersStreams src tag option sel []) s = no ∧
        exec (.readCountersIntertrip src tag option sel []) s = no ∧
        exec (.readCountersReports src tag option sel []) s = no ∧
        exec (.readCountersCapture src tag option sel []) s = no ∧
        exec (.readCountersFiring src tag option sel []) s = no) ∧
      ((n = 0 ∨ 6 < n.toNat) → s.ring.own ≠ 0xFF →
        exec (.ringFrame (frameBytes ⟨s.ring.own, src, 4, 0, [0x05, tag, n, option, sel]⟩)) s = no)) ∧
  (∀ (src tag target action : Byte) (s : State), Manages src s →
      let no : Host.Outcome State Fault Refusal := .next (answered src tag .refused .range [] (goodFrame s))
      ((target = 0 ∨ 8 < target.toNat) → exec (.operateOpen src tag target []) s = no ∧
        exec (.operateClose src tag target []) s = no ∧ exec (.resetLockout src tag target []) s = no) ∧
      (target ≠ 9 → exec (.closeAc src tag target []) s = no ∧ exec (.deblock src tag target []) s = no ∧
        exec (.block src tag target []) s = no ∧ exec (.stopFull src tag target []) s = no ∧
        exec (.resetRect src tag target []) s = no) ∧
      ((action = 0 ∨ 8 < action.toNat) → s.ring.own ≠ 0xFF →
        exec (.ringFrame (frameBytes ⟨s.ring.own, src, 4, 0, [0x0A, tag, target, action]⟩)) s = no))

/-- The requests that read a block's records are answered DONE with the record's data and change nothing else (R191, R39, R61,
R107, R136, R16, R175; the order and widths of the data are R196's and notes/assumptions/15's).
READ_COUNTERS answers each group with its counters, and with the clear option sets that group's counters to 0
afterwards and nothing else (R192, R6, R81, R162, R178, R136).
R6: READ_COUNTERS for the streams group: selector 0, the selectors of the entries, and those above 24.
The clause on an answer's layout is the model's choice where R196 leaves it open (notes/assumptions/15, 16, 23). -/
def Obligations.ReadsAnswered : Prop :=
  (∀ (src tag : Byte) (s : State), Reaches src s →
      let g := goodFrame s
      exec (.status src tag []) s = .next (answered src tag .done .none (statusData g) g) ∧
      (∀ f : Fin 8, exec (.readFeeder src tag [byteOf (f.val + 1)]) s =
        .next (answered src tag .done .none (feederData f g) g)) ∧
      exec (.readRectifier src tag []) s = .next (answered src tag .done .none (rectData g) g) ∧
      (∀ c : Fin 24, exec (.readChannel src tag [byteOf c.val]) s =
        .next (answered src tag .done .none (channelData c g) g)) ∧
      exec (.captureList src tag []) s = .next (answered src tag .done .none (captureListData g) g)) ∧
  (∀ (src tag sel : Byte) (s : State), Reaches src s →
      let g := goodFrame s
      let ok (data : List Byte) (t : State) : Host.Outcome State Fault Refusal :=
        .next (answered src tag .done .none data t)
      exec (.readCountersRing src tag 0 sel []) s = ok (ringCounterData g) g ∧
      exec (.readCountersRing src tag 1 sel []) s = ok (ringCounterData g)
        { g with ring := { g.ring with counters := RingCounters.zero }, unmatchedPos := 0, malformedPos := 0 } ∧
      exec (.readCountersIntertrip src tag 0 sel []) s = ok (lineCounterData g.line) g ∧
      exec (.readCountersIntertrip src tag 1 sel []) s = ok (lineCounterData g.line)
        { g with line := { g.line with counters := LineCounters.zero } } ∧
      exec (.readCountersReports src tag 0 sel []) s = ok (reportCounterData g.reports) g ∧
      exec (.readCountersReports src tag 1 sel []) s = ok (reportCounterData g.reports)
        { g with reports := { g.reports with occurred := Vector.replicate 8 0 } } ∧
      exec (.readCountersCapture src tag 0 sel []) s = ok (captureCounterData g.capture) g ∧
      exec (.readCountersCapture src tag 1 sel []) s = ok (captureCounterData g.capture)
        { g with capture := { g.capture with counters := CaptureCounters.zero } } ∧
      exec (.readCountersFiring src tag 0 sel []) s = ok (firingBytes g.rect.counters) g ∧
      exec (.readCountersFiring src tag 1 sel []) s = ok (firingBytes g.rect.counters)
        { g with rect := { g.rect with counters := FiringCounters.zero } }) ∧
  (∀ (src tag option sel : Byte) (s : State), Reaches src s → option.toNat ≤ 1 →
      let g := goodFrame s
      (sel = 0 → exec (.readCountersStreams src tag option sel []) s =
        .next (answered src tag .done .none (bytesOf 2 g.matcher.unmatched ++ bytesOf 2 g.matcher.malformed)
          (if option = 0 then g else { g with matcher := { g.matcher with unmatched := 0, malformed := 0 } }))) ∧
      (∀ k : Fin 24, sel.toNat = k.val + 1 →
        let e := g.matcher.entries[k]
        exec (.readCountersStreams src tag option sel []) s =
        .next (answered src tag .done .none
          (if e.unit = 0 then List.replicate 18 0 else
            [e.unit, e.stream] ++ (match e.last with | none => [0, 0] | some x => [1, x]) ++ bytesOf 2 e.run ++
              bytesOf 2 e.accepted ++ bytesOf 2 e.gaps ++ bytesOf 2 e.duplicates ++ bytesOf 2 e.outOfOrder ++
              bytesOf 2 e.short ++ bytesOf 2 e.resyncs)
          (if option = 0 then g else { g with matcher := { g.matcher with entries := g.matcher.entries.set k { e with
            accepted := 0, gaps := 0, duplicates := 0, outOfOrder := 0, short := 0, resyncs := 0 } } }))) ∧
      (24 < sel.toNat → exec (.readCountersStreams src tag option sel []) s =
        .next (answered src tag .refused .range [] g)))

/-- R141: WRITE_TABLE takes the first line that applies; the last writes the bytes and makes the standby bank
UNCHECKED, and changes nothing else.
R142: READ_TABLE takes the first line that applies; a read changes nothing. -/
def Obligations.TableRequests : Prop :=
  (∀ (src tag table o1 o2 n : Byte) (data : List Byte) (s : State), Manages src s →
      let g := goodFrame s
      let off := o1.toNat * 256 + o2.toNat
      let bk := standby s
      let go := exec (.writeTable src tag (table :: o1 :: o2 :: n :: data)) s
      let badData := n = 0 ∨ 48 < n.toNat ∨ data.length ≠ n.toNat
      let badPlace := table = 0 ∨ 6 < table.toNat ∨ tableLength table.toNat < off + n.toNat
      (badData → go = .next (answered src tag .refused .badLength [] g)) ∧
      (¬ badData → badPlace → go = .next (answered src tag .refused .range [] g)) ∧
      (¬ badData → ¬ badPlace → s.banks.target ≠ none →
        go = .next (answered src tag .refused .switchPending [] g)) ∧
      (¬ badData → ¬ badPlace → s.banks.target = none → bankState bk s = .validating →
        go = .next (answered src tag .busy .none [] g)) ∧
      (¬ badData → ¬ badPlace → s.banks.target = none → bankState bk s ≠ .validating →
        go = .next (answered src tag .done .none []
          (setBankState bk .unchecked
            (setBankBytes bk (splice (bankBytes bk s) (tableBase table.toNat + off) data) g))))) ∧
  (∀ (src tag bank table o1 o2 n : Byte) (s : State), Reaches src s →
      let g := goodFrame s
      let off := o1.toNat * 256 + o2.toNat
      let go := exec (.readTable src tag [bank, table, o1, o2, n]) s
      let badCount := n = 0 ∨ 48 < n.toNat
      let badPlace := table = 0 ∨ 6 < table.toNat ∨ tableLength table.toNat < off + n.toNat
      (badCount → go = .next (answered src tag .refused .badLength [] g)) ∧
      (¬ badCount → bank ≠ 1 → bank ≠ 2 → go = .next (answered src tag .refused .noBank [] g)) ∧
      (∀ bk, ¬ badCount → bankOfCode bank.toNat = some bk → badPlace →
        go = .next (answered src tag .refused .range [] g)) ∧
      (∀ bk, ¬ badCount → bankOfCode bank.toNat = some bk → ¬ badPlace → bankState bk s = .validating →
        go = .next (answered src tag .busy .none [] g)) ∧
      (∀ bk, ¬ badCount → bankOfCode bank.toNat = some bk → ¬ badPlace → bankState bk s ≠ .validating →
        go = .next (answered src tag .done .none
          (((bankBytes bk s).drop (tableBase table.toNat + off)).take n.toNat) g)))

/-- R143: VALIDATE takes the first line that applies; taken, it answers nothing now, puts the standby bank in VALIDATING,
records its source and tag, and holds its place unready. -/
def Obligations.ValidateTaken : Prop :=
  ∀ (src tag : Byte) (s : State), Manages src s →
    let g := goodFrame s
    (s.banks.target ≠ none →
      exec (.validate src tag []) s = .next (answered src tag .refused .switchPending [] g)) ∧
    (s.banks.target = none → bankState (standby s) s = .validating →
      exec (.validate src tag []) s = .next (answered src tag .busy .none [] g)) ∧
    (s.banks.target = none → bankState (standby s) s ≠ .validating →
      ∃ t, exec (.validate src tag []) s = .next t ∧
        bankState (standby s) t = .validating ∧ t.banks.validator = some ⟨src, tag⟩ ∧
        bankState (otherBank (standby s)) t = bankState (otherBank (standby s)) s ∧
        t.banks.bankA = s.banks.bankA ∧ t.banks.bankB = s.banks.bankB ∧ t.banks.active = s.banks.active ∧
        t.banks.target = none ∧ t.banks.mask = s.banks.mask ∧ t.banks.lastVal = s.banks.lastVal ∧
        t.ring = { g.ring with answers := g.ring.answers ++ [⟨src, tag, none, 0⟩] } ∧
        t = { g with ring := t.ring, banks := t.banks })

/-- R144, R145: a validation that completes on a bank with a structural fault leaves the bank's bytes, makes it INVALID and answers
REFUSED RANGE with the field; on a sound bank it leaves the clamped bytes, makes it VALID and answers DONE, and a clamp
count above 0 is reported as CLAMPED; the bank so left has no structural fault and every numeric field within its range.
R144: what a structural fault is, line by line of the table, with the field it is reported at; the fault found is the first in
the order of tables, entries and fields. R145: the range of every numeric field of a sound bank, to the nearer bound of which
it is clamped, and nothing else; the clamp count is the number of fields changed.
Each fills the place the VALIDATE holds: while ring-out is busy it waits there, and when ring-out is idle with nothing else
waiting its first frame is sent at once.
That the queued count of the answer includes the CLAMPED report, that an ANSWER frame is counted when it begins, the code
that names a field, and the layout of the answer are the model's (notes/assumptions/7, 8, 14, 15). -/
def Obligations.ValidationCompletes : Prop :=
  (∀ (job : ValidatorJob) (s : State), s.banks.validator = some job → s.ring.out ≠ none →
    let bk := standby s
    let fill (a : Answer) (t : State) : State := { t with ring := { t.ring with
      answers := t.ring.answers.map fun p => if p.answer = none then { p with answer := some a } else p } }
    (∀ r, firstFault (bankBytes bk s) = some r →
      ∃ t, exec .validationComplete s = .next t ∧ bankState bk t = .invalid ∧ bankBytes bk t = bankBytes bk s ∧
        t.banks.validator = none ∧ t.banks.lastVal = some ⟨false, 0, some r⟩ ∧
        t = fill ⟨.refused, .range, s.reports.queue.length, fieldBytes r⟩ { s with banks := t.banks }) ∧
    (firstFault (bankBytes bk s) = none →
      let c := clampBank noLimit (bankBytes bk s)
      ∃ t, exec .validationComplete s = .next t ∧ bankState bk t = .valid ∧ bankBytes bk t = c.bank ∧
        t.banks.validator = none ∧ t.banks.lastVal = some ⟨true, c.clamps, c.first⟩ ∧
        ((bankBytes bk s).length = 720 →
          let left := bankBytes bk t
          firstFault left = none ∧ ∀ r ∈ fieldRanges left,
            let v := if r.width = 1 then field8 left r.table r.entry r.off else field16 left r.table r.entry r.off
            boundIn left r.table r.entry r.lo ≤ v ∧ v ≤ boundIn left r.table r.entry r.hi) ∧
        (let u := if c.clamps = 0 then { s with banks := t.banks }
          else report .clamped .bank (some (bankCode bk)) (some c.clamps) { s with banks := t.banks }
        t = fill ⟨.done, .none, u.reports.queue.length, bytesOf 2 c.clamps ++ optField c.first⟩ u))) ∧
  (∀ (job : ValidatorJob) (dst tag : Byte) (s : State), s.banks.validator = some job → s.ring.out = none →
    (∀ d, s.ring.claims.get d = none) → s.ring.relay = [] → s.ring.answers = [⟨dst, tag, none, 0⟩] →
    let bk := standby s
    let c := clampBank noLimit (bankBytes bk s)
    let a : Answer := match firstFault (bankBytes bk s) with
      | some r => ⟨.refused, .range, s.reports.queue.length, fieldBytes r⟩
      | none => ⟨.done, .none, (if c.clamps = 0 then s
          else report .clamped .bank (some (bankCode bk)) (some c.clamps) s).reports.queue.length,
          bytesOf 2 c.clamps ++ optField c.first⟩
    ∃ t, exec .validationComplete s = .next t ∧ t.banks.validator = none ∧ t.ring = { s.ring with
      answers := [⟨dst, tag, some a, 1⟩], out := some (answerFrame s.ring.own dst tag a 0),
      counters := { s.ring.counters with answers := bump s.ring.counters.answers } }) ∧
  (∀ bank : List Byte,
    let used (k : Nat) : Prop := field8 bank 1 k 0 ≠ 0
    let device (n : Nat) : Nat × Nat := if n < 16
      then (field8 bank 2 (n / 2 + 1) (5 + n % 2 * 2), field8 bank 2 (n / 2 + 1) (6 + n % 2 * 2))
      else (field8 bank 4 1 (3 + (n - 16) * 2), field8 bank 4 1 (4 + (n - 16) * 2))
    let shared (n : Nat) : Prop := ∃ m, m < n ∧ device m = device n
    let badUnit (x : Nat) : Prop := x = 0 ∨ 0xEF < x
    let fault (t e o : Nat) : Prop :=
      let x := field8 bank t e o
      (t = 1 ∧ 1 ≤ e ∧ e ≤ 24 ∧ used e ∧
        ((o = 0 ∧ 0xEF < x) ∨
        (o = 1 ∧ (15 < x ∨ ∃ k, k < e ∧ 1 ≤ k ∧ used k ∧ field8 bank 1 k 0 = field8 bank 1 e 0 ∧ field8 bank 1 k 1 = x)) ∨
        (2 ≤ o ∧ o ≤ 5 ∧ ((24 ≤ x ∧ x ≠ 0xFF) ∨ (x < 24 ∧ ∃ k, k < e + 1 ∧ 1 ≤ k ∧ used k ∧
          ∃ p, p < 6 ∧ 2 ≤ p ∧ (k < e ∨ p < o) ∧ field8 bank 1 k p = x))))) ∨
      (t = 2 ∧ 1 ≤ e ∧ e ≤ 8 ∧
        (((o = 0 ∨ o = 3 ∨ o = 4) ∧ 1 < x) ∨
        ((o = 1 ∨ o = 2) ∧ (23 < x ∨ (field8 bank 2 e 0 = 1 ∧
          ¬ ∃ k, k < 25 ∧ 1 ≤ k ∧ used k ∧ ∃ p, p < 6 ∧ 2 ≤ p ∧ field8 bank 1 k p = x))) ∨
        ((o = 5 ∨ o = 7) ∧ badUnit x) ∨
        (o = 6 ∧ (1 < x ∨ shared (2 * e - 2))) ∨ (o = 8 ∧ (1 < x ∨ shared (2 * e - 1))))) ∨
      (t = 3 ∧ 1 ≤ e ∧ e ≤ 8 ∧ o = 1 ∧ (4 < x ∨ x ≠ field8 bank 3 e 0)) ∨
      (t = 4 ∧ e = 1 ∧
        ((o ≤ 2 ∧ 23 < x) ∨ ((o = 3 ∨ o = 5) ∧ badUnit x) ∨
        (o = 4 ∧ (1 < x ∨ shared 16)) ∨ (o = 6 ∧ (1 < x ∨ shared 17)) ∨
        (o = 14 ∧ field16 bank 4 1 14 < field16 bank 4 1 12))) ∨
      (t = 5 ∧ e = 1 ∧ ((o = 0 ∧ 1 < x) ∨ (o = 1 ∧ 3 < x))) ∨
      (t = 6 ∧ e = 1 ∧
        ((o = 1 ∧ (x = 0 ∨ 8 < x)) ∨ (2 ≤ o ∧ o < 10 ∧ o < 2 + field8 bank 6 1 1 ∧ 23 < x) ∨ (o = 10 ∧ 1 < x)))
    let before (r : FieldRef) (t e o : Nat) : Prop := r.table < t ∨ (r.table = t ∧ r.entry < e) ∨
      (r.table = t ∧ r.entry = e ∧ r.field ≤ o)
    (firstFault bank = none → ∀ t e o, ¬ fault t e o) ∧
    (∀ r, firstFault bank = some r → fault r.table r.entry r.field ∧ ∀ t e o, fault t e o → before r t e o)) ∧
  (∀ bank : List Byte, bank.length = 720 → firstFault bank = none →
    let c := clampBank noLimit bank
    let clamp (lo hi x : Nat) : Nat := if x < lo then lo else if hi < x then hi else x
    let within (t e o lo hi : Nat) : Prop := field16 c.bank t e o = clamp lo hi (field16 bank t e o)
    let same (t e o : Nat) : Prop := field8 c.bank t e o = field8 bank t e o
    (∀ e, 1 ≤ e → e ≤ 8 →
      within 2 e 10 500 30000 ∧ within 2 e 12 50 5000 ∧ within 2 e 14 10 (field16 c.bank 2 e 12) ∧
      within 2 e 16 200 20000 ∧ within 2 e 18 0 400 ∧ within 2 e 20 (field16 c.bank 2 e 18 + 1) 2000 ∧
      within 2 e 22 2 64 ∧ within 2 e 24 200 20000 ∧ within 2 e 26 10 5000 ∧ within 2 e 28 20 500 ∧
      within 2 e 30 50 2000 ∧ ∀ o, o < 10 → same 2 e o) ∧
    (∀ e, 1 ≤ e → e ≤ 8 →
      (∀ k, k < field8 bank 3 e 1 → within 3 e (2 + 2 * k) 100 60000) ∧
      within 3 e 10 1 600 ∧ within 3 e 12 100 20000 ∧ within 3 e 14 10 5000 ∧ within 3 e 16 1000 9000 ∧
      within 3 e 18 500 9000 ∧ within 3 e 20 10 500 ∧ within 3 e 22 1 120 ∧ within 3 e 24 1 300 ∧
      ∀ o, o < 2 ∨ (2 + 2 * field8 bank 3 e 1 ≤ o ∧ o < 10) ∨ (26 ≤ o ∧ o < 32) → same 3 e o) ∧
    (within 4 1 8 5000 9000 ∧ within 4 1 10 0 500 ∧ within 4 1 12 300 7500 ∧ within 4 1 14 300 7500 ∧
      within 4 1 16 0 1500 ∧ within 4 1 18 500 12000 ∧ within 4 1 20 (field16 c.bank 4 1 18) 20000 ∧
      within 4 1 22 20 500 ∧ ∀ o, o < 8 ∨ (24 ≤ o ∧ o < 32) → same 4 1 o) ∧
    (field8 c.bank 5 1 2 = clamp 0 3 (field8 bank 5 1 2) ∧ ∀ o, o < 2 ∨ (3 ≤ o ∧ o < 16) → same 5 1 o) ∧
    (∀ e, 1 ≤ e → e ≤ 24 → ∀ o, o < 6 → same 1 e o) ∧ (∀ o, o < 16 → same 6 1 o) ∧
    (let value (l : List Byte) (r : FieldRange) : Nat :=
      if r.width = 1 then field8 l r.table r.entry r.off else field16 l r.table r.entry r.off
    let changed := (fieldRanges bank).filter fun r => value c.bank r != value bank r
    c.clamps = changed.length ∧ c.first = changed.head?.map fun r => ⟨r.table, r.entry, r.off⟩))

/-- R147 to R150: ACTIVATE takes the first line that applies. With no bank active, every consumer adopts bank A at once, the
mask is empty and A is ACTIVE. With a bank active, the streams and the report settings adopt at once, and each other consumer
has adopted and lost its mark, or is away from its safe point with its mark and its old settings; the switch-over is
complete exactly when no mark is left, and a consumer left adopts when its safe point comes (here the Intertrip
Controller, at the end of the last attempt, R80).
R17, R18: an entry of the new stream table takes over the state of the old entry with its pair, and a channel keeps its
record exactly when its assignment is the same in both tables.
R13, R19: each channel's list holds the consumers whose adopted settings name it.
That nothing waits between blocks, and the moments at which consumers adopt, are the model's choices
(notes/assumptions/5, 6). -/
def Obligations.FirstActivation : Prop :=
  (∀ (src tag : Byte) (s : State), Manages src s →
      let g := goodFrame s
      (s.banks.target ≠ none →
        exec (.activate src tag []) s = .next (answered src tag .refused .switchPending [] g)) ∧
      (s.banks.target = none → bankState (standby s) s ≠ .valid →
        exec (.activate src tag []) s = .next (answered src tag .refused .state [] g)) ∧
      (s.banks.active = none → s.banks.target = none → s.banks.stateA = .valid →
        ∃ t, exec (.activate src tag []) s = .next t ∧
          t.banks.active = some .a ∧ t.banks.stateA = .active ∧ t.banks.stateB = s.banks.stateB ∧
          t.banks.target = none ∧ t.banks.mask = Vector.replicate 13 false ∧
          t.banks.bankA = s.banks.bankA ∧ t.banks.bankB = s.banks.bankB ∧
          (∀ f, (t.ev f).settings = some (feederOf s.banks.bankA f) ∧ (t.seq f).plan = some (planOf s.banks.bankA f) ∧
            (t.dev (.fm f)).addr = some ((feederOf s.banks.bankA f).mainUnit, (feederOf s.banks.bankA f).mainElem) ∧
            (t.dev (.ft f)).addr = some ((feederOf s.banks.bankA f).testUnit, (feederOf s.banks.bankA f).testElem)) ∧
          t.rect.settings = some (rectOf s.banks.bankA) ∧
          (t.dev .dcm).addr = some ((rectOf s.banks.bankA).dcmUnit, (rectOf s.banks.bankA).dcmElem) ∧
          (t.dev .acm).addr = some ((rectOf s.banks.bankA).acmUnit, (rectOf s.banks.bankA).acmElem) ∧
          t.line.table = some (lineTableOf s.banks.bankA) ∧ t.reports.mask = some (classMaskOf s.banks.bankA) ∧
          t.capture.settings = some (captureSettingsOf s.banks.bankA))) ∧
  (∀ (src tag : Byte) (s : State), Manages src s → s.banks.target = none → bankState (standby s) s = .valid →
      Drained s →
      let bk := standby s
      let bank := bankBytes bk s
      ∃ t, exec (.activate src tag []) s = .next t ∧
        -- the streams (R17)
        t.matcher.unmatched = s.matcher.unmatched ∧ t.matcher.malformed = s.matcher.malformed ∧
        (∀ k : Fin 24,
          let e := streamEntryOf bank k
          let n := t.matcher.entries[k]
          let has (j : Fin 24) : Prop := s.matcher.entries[j].unit ≠ 0 ∧ s.matcher.entries[j].unit = e.unit ∧
            s.matcher.entries[j].stream = e.stream
          n.unit = e.unit ∧ n.stream = e.stream ∧ n.assign = e.assign ∧
          (∀ j, e.unit ≠ 0 → has j → (∀ i, i < j → ¬ has i) → n = { s.matcher.entries[j] with assign := e.assign }) ∧
          ((e.unit = 0 ∨ ∀ j, ¬ has j) → n.last = none ∧ n.resynced = false ∧ n.run = 0 ∧ n.accepted = 0 ∧ n.gaps = 0 ∧
            n.duplicates = 0 ∧ n.outOfOrder = 0 ∧ n.short = 0 ∧ n.resyncs = 0)) ∧
        -- the channels (R18) and their lists (R13, R19)
        (∀ c, (feedOf s.matcher.entries c = feedOf t.matcher.entries c →
            t.chan c = { s.chan c with consumers := (t.chan c).consumers }) ∧
          (feedOf s.matcher.entries c ≠ feedOf t.matcher.entries c →
            t.chan c = { Channel.initial with consumers := (t.chan c).consumers })) ∧
        (∀ c f, (.evaluator f ∈ (t.chan c).consumers ↔ (t.ev f).settings.map (fun x => x.chan) = some c) ∧
          (.sequencer f ∈ (t.chan c).consumers ↔ (t.ev f).settings.map (fun x => x.lineChan) = some c ∨
            t.rect.settings.map (fun x => x.busChan) = some c)) ∧
        (∀ c, (.rectifier ∈ (t.chan c).consumers ↔ ∃ r, t.rect.settings = some r ∧
            (r.busChan = c ∨ r.curChan = c ∨ r.uabChan = c)) ∧
          (.capture ∈ (t.chan c).consumers ↔ ∃ x, t.capture.settings = some x ∧ c ∈ x.chans)) ∧
        -- the other consumers (R148, R149)
        t.reports.mask = some (classMaskOf bank) ∧ t.banks.mask[0] = false ∧ t.banks.mask[11] = false ∧
        (∀ f : Fin 8, (t.banks.mask[f.val + 1] = false →
            (t.ev f).settings = some (feederOf bank f) ∧ (t.seq f).plan = some (planOf bank f) ∧
            (t.dev (.fm f)).addr = some ((feederOf bank f).mainUnit, (feederOf bank f).mainElem) ∧
            (t.dev (.ft f)).addr = some ((feederOf bank f).testUnit, (feederOf bank f).testElem)) ∧
          (t.banks.mask[f.val + 1] = true →
            ¬ (((t.ev f).state = .off ∨ (t.ev f).state = .quiet ∨ (t.ev f).state = .degraded) ∧
              ((t.seq f).state = .idleClosed ∨ (t.seq f).state = .idleOpen ∨ (t.seq f).state = .lockout)) ∧
            (t.ev f).settings = (s.ev f).settings ∧ (t.seq f).plan = (s.seq f).plan ∧
            (t.dev (.fm f)).addr = (s.dev (.fm f)).addr ∧ (t.dev (.ft f)).addr = (s.dev (.ft f)).addr)) ∧
        (t.banks.mask[9] = false → t.rect.settings = some (rectOf bank) ∧
          (t.dev .dcm).addr = some ((rectOf bank).dcmUnit, (rectOf bank).dcmElem) ∧
          (t.dev .acm).addr = some ((rectOf bank).acmUnit, (rectOf bank).acmElem)) ∧
        (t.banks.mask[9] = true → firing t.rect.state = true ∧ t.rect.settings = s.rect.settings ∧
          (t.dev .dcm).addr = (s.dev .dcm).addr ∧ (t.dev .acm).addr = (s.dev .acm).addr) ∧
        (t.banks.mask[10] = false → t.line.table = some (lineTableOf bank)) ∧
        (t.banks.mask[10] = true → (t.line.queue ≠ [] ∨ t.line.state = .sending) ∧ t.line.table = s.line.table) ∧
        (t.banks.mask[12] = false → t.capture.settings = some (captureSettingsOf bank)) ∧
        (t.banks.mask[12] = true → (∃ i : Fin 4, t.capture.slots[i].state = .filling) ∧
          t.capture.settings = s.capture.settings) ∧
        -- the switch-over (R148, R150)
        t.banks.bankA = s.banks.bankA ∧ t.banks.bankB = s.banks.bankB ∧
        ((∀ k : Fin 13, t.banks.mask[k] = false) → t.banks.target = none ∧ t.banks.active = some bk ∧
          bankState bk t = .active ∧ ∀ old, s.banks.active = some old → bankState old t = .valid) ∧
        (¬ (∀ k : Fin 13, t.banks.mask[k] = false) → t.banks.target = some bk ∧ t.banks.active = s.banks.active ∧
          t.banks.stateA = s.banks.stateA ∧ t.banks.stateB = s.banks.stateB)) ∧
  (∀ (bk : BankId) (e : TxEntry) (s : State), s.banks.target = some bk →
      s.banks.mask = (Vector.replicate 13 false).set 10 true → s.line.state = .sending → s.line.queue = [e] →
      e.changed = false →
      ∃ t, exec (.sendAttemptEnd true) s = .next t ∧ t.line.table = some (lineTableOf (bankBytes bk s)) ∧
        t.line.queue = [] ∧ t.line.state = .waiting ∧ t.banks.target = none ∧ t.banks.active = some bk ∧
        t.banks.mask = Vector.replicate 13 false ∧ bankState bk t = .active ∧
        t.reports = (report .active .bank (some (bankCode bk)) none s).reports)

/-- R193: SET_TIME, and microseconds of day at the end of the day.
That the rollover moves the time base on to midnight is the model's choice (notes/assumptions/33). -/
def Obligations.StationTime : Prop :=
  (∀ (src tag d1 d2 : Byte) (m : List Byte) (s : State), Manages src s → m.length = 5 →
    let g := goodFrame s
    (86400000000 ≤ numberOf m → exec (.setTime src tag (d1 :: d2 :: m)) s =
      .next (answered src tag .refused .range [] g)) ∧
    (numberOf m < 86400000000 → exec (.setTime src tag (d1 :: d2 :: m)) s =
      .next (answered src tag .done .none [] { g with time :=
        { now := s.time.now, day := d1.toNat * 256 + d2.toNat, micros := numberOf m, unset := false } }))) ∧
  (∀ s : State, s.time.micros < 86400000000 → s.time.day < 65536 →
    ∃ t, exec .dayRollover s = .next t ∧ t.time.micros = 0 ∧
      t.time.day = (if s.time.day = 65535 then 0 else s.time.day + 1) ∧ t.time.unset = s.time.unset ∧
      s.time.now < t.time.now ∧ t = { s with time := t.time })

/-- R194, R165, R64, R110, R83, R181, R195: RESTART is refused outside OFF and BLOCKED; taken, from a state whose banks are
consistent, it leaves the RESTART report at the head of a fresh queue, every command and failure flag cleared, every
sequence idle, an empty transmit queue, no capture FILLING, HELD or READING, and no switch-over pending.
R42: an evaluator in TRIPPING stays there with its cause, and asks again for FMf's OPEN and tells its sequencer the cause
again; every other one settles.
The order of the blocks' steps, and the moment at which a command timer runs out, are the model's choices where the manual
leaves them open (notes/assumptions/7, 44). -/
def Obligations.Restart : Prop :=
  ∀ (src tag : Byte) (s : State), Manages src s →
    let g := goodFrame s
    (s.rect.state ≠ .off → s.rect.state ≠ .blocked →
      exec (.restart src tag []) s = .next (answered src tag .refused .state [] g)) ∧
    ((s.rect.state = .off ∨ s.rect.state = .blocked) → BanksConsistent s →
      ∃ t, exec (.restart src tag []) s = .next t ∧
        t.reports.queue.head? = some ⟨.restart, .part, none, none, none, s.time.day, s.time.micros, s.time.unset⟩ ∧
        t.reports.displaced = 0 ∧ t.reports.read = 0 ∧ (∀ d, (t.dev d).flag = .none) ∧
        (∀ d, (∀ f, d = .fm f → (s.ev f).state ≠ .tripping) →
          (t.dev d).cmd = .none ∧ (t.dev d).cmdTimer = none ∧ (t.dev d).repeatAt = none) ∧
        (∀ f, seqIdle (t.seq f).state = true ∧ (t.seq f).attempts = 0 ∧ (t.seq f).hold = false ∧
          (t.seq f).lockCause = none) ∧
        (∀ f, (s.ev f).state = .tripping → (t.ev f).state = .tripping ∧ (t.ev f).pendingTrip = (s.ev f).pendingTrip ∧
          (t.ev f).lastTrip = (s.ev f).lastTrip ∧ (t.seq f).noted = (s.ev f).pendingTrip ∧
          ((t.dev (.fm f)).addr ≠ none → (t.dev (.fm f)).cmd = .toOpen ∧
            (t.dev (.fm f)).requester = some .feederProtection ∧
            (t.dev (.fm f)).cmdTimer = some (s.time.now + openTime (.fm f) t * Config.unitsPerMs))) ∧
        (∀ f, (s.ev f).state ≠ .tripping → (t.seq f).noted = none ∧ (t.ev f).lastTrip = (s.ev f).lastTrip ∧
          (t.ev f).elapsed = 0 ∧ (t.ev f).instCount = 0 ∧ (t.ev f).dtCount = 0 ∧ (t.ev f).state =
            (if inService (t.ev f) = false then .off else if (t.ev f).chanView ≠ .valid then .degraded
              else if (t.ev f).posView = .opened then .off else .quiet)) ∧
        t.line.queue = [] ∧ t.line.counters = LineCounters.zero ∧
        (∀ i : Fin 4, t.capture.slots[i].state = .free ∨ t.capture.slots[i].state = .armed) ∧ t.capture.order = [] ∧
        t.banks.target = none ∧ t.banks.validator = none ∧ t.time = s.time)

/-! ## Streams and channels (Chapter 1) -/

/-- R2 to R4: the Stream Matcher and a broadcast SAMPLE frame: a malformed one and one that no used entry has are
counted; a matched one goes through the sequence check, whose discards change the entry alone.
R3 to R5: an accepted frame: the entry takes the sequence count, with the gap counted, and each assigned channel is handed the
missing instants and the frame's own instant; a position without its value hands a MISSING one and counts the frame
short once.
That a channel is handed its arrivals in a queue, and that the relay comes before the use, are the model's choices
(notes/assumptions/1, 7). -/
def Obligations.SampleFrames : Prop :=
  (∀ (fr : Frame) (s : State), fr.dst = 0xFF → fr.type = 1 → fr.src ≠ s.ring.own →
      let g := (goodFrame s).updRing (joinRelay fr)
      let seq := byteAt fr.payload 1
      let has (k : Fin 24) : Prop := s.matcher.entries[k].unit ≠ 0 ∧ s.matcher.entries[k].unit = fr.src ∧
        s.matcher.entries[k].stream = byteAt fr.payload 0
      (sampleWellFormed fr.payload = false → exec (.sampleFrame fr) s =
        .next { g with matcher := { g.matcher with malformed := bump g.matcher.malformed } }) ∧
      (sampleWellFormed fr.payload = true → (∀ k, ¬ has k) → exec (.sampleFrame fr) s =
        .next { g with matcher := { g.matcher with unmatched := bump g.matcher.unmatched } }) ∧
      (∀ (k : Fin 24), sampleWellFormed fr.payload = true → has k → (∀ j, j < k → ¬ has j) →
        let e := s.matcher.entries[k]
        let put (x : StreamEntry) : State :=
          { g with matcher := { g.matcher with entries := g.matcher.entries.set k x } }
        ∀ last, e.last = some last →
          ((seq - last).toNat = 0 → exec (.sampleFrame fr) s =
            .next (put { e with duplicates := bump e.duplicates })) ∧
          (129 ≤ (seq - last).toNat → e.run + 1 ≠ 4 → exec (.sampleFrame fr) s =
            .next (put { e with outOfOrder := bump e.outOfOrder, run := e.run + 1 })) ∧
          (129 ≤ (seq - last).toNat → e.run + 1 = 4 → exec (.sampleFrame fr) s =
            .next (put { e with last := none, resynced := true, run := 0, outOfOrder := bump e.outOfOrder,
                                resyncs := bump e.resyncs })))) ∧
  (∀ (fr : Frame) (k : Fin 24) (s : State), fr.dst = 0xFF → fr.type = 1 → fr.src ≠ s.ring.own →
      sampleWellFormed fr.payload = true → s.matcher.entries[k].unit ≠ 0 → s.matcher.entries[k].unit = fr.src →
      s.matcher.entries[k].stream = byteAt fr.payload 0 →
      (∀ j, j < k → ¬ (s.matcher.entries[j].unit = fr.src ∧ s.matcher.entries[j].stream = byteAt fr.payload 0)) →
      let g := (goodFrame s).updRing (joinRelay fr)
      let e := s.matcher.entries[k]
      let seq := byteAt fr.payload 1
      let value (p : Nat) : Instant := (sampleValue fr.payload p).getD ⟨0, .missing⟩
      let short := e.assign.zipIdx.any fun (a, p) => a ≠ none && u8 fr.payload 2 ≤ p
      ∀ m : Nat,
        ((e.last = none ∧ m = if e.resynced then 8 else 0) ∨
          (∃ last, e.last = some last ∧ 1 ≤ (seq - last).toNat ∧ (seq - last).toNat ≤ 128 ∧ m = (seq - last).toNat - 1)) →
        ∃ t, exec (.sampleFrame fr) s = .next t ∧
          t.matcher = { g.matcher with entries := g.matcher.entries.set k { e with
            last := some seq, resynced := false, run := 0, accepted := bump e.accepted,
            gaps := if e.last ≠ none ∧ m ≠ 0 then bump e.gaps else e.gaps,
            short := if short then bump e.short else e.short } } ∧
          (∀ c, t.chan c = { s.chan c with waiting := (s.chan c).waiting ++
            (e.assign.zipIdx.filterMap fun (a, p) => if a = some c then some ⟨m, value p⟩ else none) }) ∧
          t = { g with matcher := t.matcher, chans := t.chans })

/-- R7, R8, R9, R11: what one instant does to a channel record, with the time at which a staleness timer started now would run
out (2 ms from now: notes/assumptions/44). -/
def Obligations.InstantFiled : Prop :=
  ∀ (d : Nat) (k : Channel) (i : Instant), ChannelConsistent k →
    let k' := fileInstant d k i
    k'.hist = k.hist.drop 1 ++ [i] ∧ k'.hist.length = 8 ∧ k'.staleMoves = k.staleMoves ∧
    k'.consumers = k.consumers ∧ k'.waiting = k.waiting ∧
    (usable i = true → k'.last = i ∧ k'.samples = bump k.samples ∧ k'.invalid = k.invalid ∧
      k'.missing = k.missing ∧ k'.staleAt = some d ∧
      k'.goodRun = (if k.state = .absent ∨ k.state = .stale then 1 else min (k.goodRun + 1) 32) ∧
      k'.state = (if k.state = .valid ∨ (k.state = .recovering ∧ k.goodRun = 31) then .valid else .recovering)) ∧
    (usable i = false → k'.last = k.last ∧ k'.goodRun = 0 ∧ k'.staleAt = k.staleAt ∧ k'.state = k.state) ∧
    (i.mark = .invalid → k'.samples = bump k.samples ∧ k'.invalid = bump k.invalid ∧ k'.missing = k.missing) ∧
    (i.mark = .missing → k'.samples = k.samples ∧ k'.invalid = k.invalid ∧ k'.missing = bump k.missing)

/-- R7, R12, R14: CHANNEL_ARRIVAL files the oldest arrival handed over, the missing instants first and then the frame's own, and
hands each consumer on the list a copy with the state before and after and the history after filing; the rectifier takes
its copy in each role its settings give the channel.
The hand-over in queues, and the moment at which the staleness timer runs out, are the model's choices (notes/assumptions/1, 44). -/
def Obligations.ArrivalFiled : Prop :=
  ∀ (c : Fin 24) (a : Arrival) (rest : List Arrival) (s : State),
    (s.chan c).waiting = a :: rest → (s.chan c).consumers.Nodup →
    let k := s.chan c
    let k' := (List.replicate a.missing missingInstant ++ [a.own]).foldl (fileInstant (s.time.now + 2 * Config.unitsPerMs)) k
    let copy : Copy := ⟨c, a.missing, a.own, k.state, k'.state, k'.hist⟩
    ∃ t, exec (.channelArrival c) s = .next t ∧
      t.chans = s.chans.set c { k' with waiting := rest } ∧
      (∀ f, t.ev f = { s.ev f with inbox := if .evaluator f ∈ k.consumers then (s.ev f).inbox ++ [copy] else (s.ev f).inbox }) ∧
      (∀ f, t.seq f = { s.seq f with inbox := if .sequencer f ∈ k.consumers then (s.seq f).inbox ++ [copy] else (s.seq f).inbox }) ∧
      t.capture = { s.capture with inbox := if .capture ∈ k.consumers then s.capture.inbox ++ [copy] else s.capture.inbox } ∧
      t.reports = (if k.state ≠ .valid ∧ k'.state = .valid ∧ k.consumers ≠ [] then
        (report .channelValid (.channel c) none none s).reports else s.reports) ∧
      t = { s with chans := t.chans, evs := t.evs, seqs := t.seqs, capture := t.capture, rect := t.rect,
                   reports := t.reports } ∧
      let takes (role : RectSettings → Fin 24) : Prop := .rectifier ∈ k.consumers ∧ s.rect.settings.map role = some c
      t.rect = { s.rect with
        uabIn := if takes (fun r => r.uabChan) then s.rect.uabIn ++ [copy] else s.rect.uabIn
        curIn := if takes (fun r => r.curChan) then s.rect.curIn ++ [copy] else s.rect.curIn
        busIn := if takes (fun r => r.busChan) then s.rect.busIn ++ [copy] else s.rect.busIn }

/-- R10, R12, R15: the staleness timer of a RECOVERING or VALID channel runs out: STALE, timer stopped, good run 0, stale transitions
one up, the last usable value and history kept. A channel that no consumer uses makes no report, and then nothing else
changes. One with consumers, none of which has a copy waiting, makes the CHANNEL_STALE report with the last usable value
(taken as signed: notes/assumptions/36), and then each consumer on its list is handed the state notice with cause
STALENESS.
R15, R23, R25, R26, R95, R123, R127: what a state notice out of a state does to each consumer.
That the expiry moves the time base on, the order of the consumers, that the U_ab role of a channel acts before its current
role, and that the good-period count is then 0 are the model's choices (notes/assumptions/3, 34, 7, 41). -/
def Obligations.ChannelGoesStale : Prop :=
  (∀ (c : Fin 24) (d : Nat) (s : State), (s.chan c).staleAt = some d →
      ((s.chan c).state = .recovering ∨ (s.chan c).state = .valid) →
      let gone := (advanceTo d s).updChan c fun k => { k with
        state := .stale, staleAt := none, goodRun := 0, staleMoves := bump k.staleMoves }
      (∃ t, exec (.stalenessTimerExpiry c) s = .next t ∧ (t.chan c).state = .stale ∧ (t.chan c).staleAt = none ∧
        (t.chan c).goodRun = 0 ∧ (t.chan c).staleMoves = bump (s.chan c).staleMoves ∧
        (t.chan c).last = (s.chan c).last ∧ (t.chan c).hist = (s.chan c).hist) ∧
      ((s.chan c).consumers = [] → Settled s → exec (.stalenessTimerExpiry c) s = .next gone) ∧
      ((s.chan c).consumers ≠ [] → Settled s → Drained s →
        let last := (s.chan c).last
        exec (.stalenessTimerExpiry c) s = .next ((s.chan c).consumers.foldl
          (fun u k => noticeTo ⟨c, (s.chan c).state, .stale, .staleness⟩ k u)
          (report .channelStale (.channel c) none (some (if last.mark = .missing then 0 else signed last)) gone)))) ∧
  (∀ (n : StateNotice) (f : Fin 8) (t : FeederSettings) (s : State), (s.ev f).settings = some t → n.new ≠ .valid →
      let e := s.ev f
      let viewed : Evaluator := { e with chanView := n.new }
      let degraded := report .feederDegraded (.feeder f) none (some t.chan.val) (s.updEv f fun _ => { viewed with
        state := .degraded, instCount := 0, dtCount := 0, iBase := 0, elapsed := 0, hold := 0, peak := 0 })
      ((e.state = .tripping ∨ e.state = .degraded ∨ (e.state = .off ∧ (t.inService = false ∨ e.chanView ≠ .valid))) →
        noticeTo n (.evaluator f) s = s.updEv f fun _ => viewed) ∧
      (e.state = .off → t.inService = true → e.chanView = .valid → noticeTo n (.evaluator f) s = degraded) ∧
      ((e.state = .quiet ∨ e.state = .rising) → t.lossAction = .hold → noticeTo n (.evaluator f) s = degraded) ∧
      ((e.state = .quiet ∨ e.state = .rising) → t.lossAction = .trip →
        let last := (s.chan t.chan).last
        Tripped f .channelLoss (if last.mark = .missing then 0 else signed last) s (noticeTo n (.evaluator f) s))) ∧
  (∀ (n : StateNotice) (f : Fin 8) (s : State),
      let uses := busChannel s = some n.chan ∨ lineChannel f s = some n.chan
      let u := noticeTo n (.sequencer f) s
      (((s.seq f).state ≠ .measuring ∨ ¬ uses ∨ n.old ≠ .valid ∨ n.new = .valid) → u = s) ∧
      ((s.seq f).state = .measuring → uses → n.old = .valid → n.new ≠ .valid → (u.seq f).state = .testClear ∧
        (u.seq f).purpose = some (.outcome .measurementLost) ∧
        ((s.dev (.ft f)).addr ≠ none → (u.dev (.ft f)).cmd = .toOpen) ∧ u.evs = s.evs ∧ u.rect = s.rect)) ∧
  (∀ (n : StateNotice) (r : RectSettings) (s : State), s.rect.settings = some r →
      let u := noticeTo n .rectifier s
      let left := n.old = .valid ∧ n.new ≠ .valid
      (¬ left → u = s) ∧
      (left → r.uabChan ≠ n.chan → r.curChan ≠ n.chan → u = s) ∧
      (left → r.uabChan = n.chan → u.rect.tracker =
        { s.rect.tracker with state := .unlocked, goodCount := 0 }) ∧
      (left → r.uabChan = n.chan → r.curChan ≠ n.chan → s.rect.tracker.state = .locked → firing s.rect.state = false →
        s.rect.wait = .none → u.reports = (report .trackerUnlocked .rectifier (some 3) (some s.rect.tracker.p256) s).reports) ∧
      (left → r.uabChan = n.chan → s.rect.tracker.state = .locked → firing s.rect.state = true →
        u.rect.state = .tripped ∧ u.rect.gateEn = false ∧ u.rect.lastTrip = some (Cause.phaseLost, (s.rect.tracker.p256 : Int))) ∧
      (left → r.uabChan ≠ n.chan → r.curChan = n.chan → firing s.rect.state = true →
        u.rect.state = .tripped ∧ u.rect.gateEn = false ∧ u.rect.lastTrip = some (Cause.currentChannel, (n.chan.val : Int)))) ∧
  (∀ (n : StateNotice) (s : State), noticeTo n .capture s = s)

/-! ## Feeder evaluators (Chapter 2) -/

/-- R25, R27, R37: an arrival on its current channel that finds the evaluator in OFF, TRIPPING or DEGRADED updates the channel view
and runs no element; a view that becomes VALID in DEGRADED, or leaves VALID in OFF, settles it.
R26, R35: an arrival that takes the channel out of VALID in QUIET or RISING: DEGRADED with its report, or a trip with cause
CHANNEL_LOSS and the channel's last usable value, by the channel-loss action.
R24: what a position notice for FMf does in each state; a frame that reports FMf OPEN ends TRIPPING.
That the copy taken is the oldest of a queue is the model's choice (notes/assumptions/1). -/
def Obligations.EvaluatorOutsideProtection : Prop :=
  (∀ (f : Fin 8) (k : Copy) (rest : List Copy) (t : FeederSettings) (s : State), Settled s →
      (s.ev f).inbox = k :: rest → (s.ev f).settings = some t → t.chan = k.chan →
      let e := s.ev f
      let viewed : Evaluator := { e with inbox := rest, chanView := k.after }
      let fresh : Evaluator := { viewed with instCount := 0, dtCount := 0, iBase := 0, elapsed := 0, hold := 0, peak := 0 }
      (e.state = .tripping → exec (.evaluatorArrival f) s = .next (s.updEv f fun _ => viewed)) ∧
      (e.state = .degraded → k.after ≠ .valid → exec (.evaluatorArrival f) s = .next (s.updEv f fun _ => viewed)) ∧
      (e.state = .degraded → k.after = .valid → exec (.evaluatorArrival f) s = .next (s.updEv f fun _ =>
        { fresh with state := if !t.inService || e.posView = .opened then .off else .quiet })) ∧
      (e.state = .off → (!t.inService || e.chanView ≠ .valid || k.after = .valid) = true →
        exec (.evaluatorArrival f) s = .next (s.updEv f fun _ => viewed)) ∧
      (e.state = .off → t.inService = true → e.chanView = .valid → k.after ≠ .valid →
        exec (.evaluatorArrival f) s = .next (report .feederDegraded (.feeder f) none (some t.chan.val)
          (s.updEv f fun _ => { fresh with state := .degraded }))) ∧
      ((e.state = .quiet ∨ e.state = .rising) → k.after ≠ .valid → t.lossAction = .hold →
        exec (.evaluatorArrival f) s = .next (report .feederDegraded (.feeder f) none (some t.chan.val)
          (s.updEv f fun _ => { fresh with state := .degraded }))) ∧
      ((e.state = .quiet ∨ e.state = .rising) → k.after ≠ .valid → t.lossAction = .trip →
        let last := (s.chan t.chan).last
        ∃ u, exec (.evaluatorArrival f) s = .next u ∧
          Tripped f .channelLoss (if last.mark = .missing then 0 else signed last) s u)) ∧
  (∀ (f : Fin 8) (new : Position) (t : FeederSettings) (s : State), (s.ev f).settings = some t →
      let e := s.ev f
      let u := evaluatorNotice f new s
      let viewed : Evaluator := { e with posView := new }
      let fresh : Evaluator := { viewed with instCount := 0, dtCount := 0, iBase := 0, elapsed := 0, hold := 0, peak := 0 }
      let ready := t.inService = true ∧ e.chanView = .valid
      (new ≠ .opened → e.state = .off → ready → u = s.updEv f fun _ => { fresh with state := .quiet }) ∧
      (new = .opened → (e.state = .quiet ∨ e.state = .rising) → u = s.updEv f fun _ => { fresh with state := .off }) ∧
      (new = .opened → e.state = .tripping → (t.inService = false ∨ e.chanView = .valid) →
        u = s.updEv f fun _ => { fresh with state := .off, pendingTrip := none }) ∧
      (new = .opened → e.state = .tripping → t.inService = true → e.chanView ≠ .valid →
        u = report .feederDegraded (.feeder f) none (some t.chan.val)
          (s.updEv f fun _ => { fresh with state := .degraded, pendingTrip := none })) ∧
      ((e.state = .degraded ∨ (new = .opened ∧ e.state = .off) ∨ (new ≠ .opened ∧ e.state = .off ∧ ¬ ready) ∨
          (new ≠ .opened ∧ (e.state = .quiet ∨ e.state = .rising ∨ e.state = .tripping))) →
        u = s.updEv f fun _ => viewed)) ∧
  (∀ (fr : Frame) (f : Fin 8) (el : Byte) (t : FeederSettings) (s : State), fr.dst = 0xFF → fr.type = 2 →
      fr.src ≠ s.ring.own → Settled s → fr.payload = [el, 1] → el.toNat ≤ 1 →
      (s.dev (.fm f)).addr = some (fr.src, el) → (∀ e, e ≠ .fm f → (s.dev e).addr ≠ some (fr.src, el)) →
      (s.dev (.fm f)).pos ≠ .opened → (s.ev f).state = .tripping → (s.ev f).settings = some t →
      ∃ u, exec (.positionFrame fr) s = .next u ∧ (u.ev f).pendingTrip = none ∧ (u.ev f).posView = .opened ∧
        (u.ev f).lastTrip = (s.ev f).lastTrip ∧
        (u.ev f).state = (if t.inService = true ∧ (s.ev f).chanView ≠ .valid then .degraded else .off) ∧
        (∀ g, g ≠ f → u.ev g = s.ev g))

/-- R29 to R32, R34: an own instant in QUIET on a VALID channel with no missing instants, by the checks in order: instantaneous,
definite time, event start, with its trigger when Capture on RISING is set.
R28: missing instants in QUIET set the counts to 0, and then the own instant is worked as if it had come alone.
That the copy taken is the oldest of a queue is the model's choice (notes/assumptions/1). -/
def Obligations.EvaluatorInQuiet : Prop :=
  (∀ (f : Fin 8) (k : Copy) (rest : List Copy) (t : FeederSettings) (s : State), Settled s →
      (s.ev f).inbox = k :: rest → (s.ev f).settings = some t → t.chan = k.chan → (s.ev f).state = .quiet →
      k.after = .valid → k.missing = 0 →
      let e : Evaluator := { s.ev f with inbox := rest, chanView := .valid }
      let own := k.own
      let old := k.hist.getD 3 ⟨0, .missing⟩
      let counts (th : Nat) : Prop := (usable own = true ∧ (th : Int) ≤ signed own) ∨ (own.mark = .saturated ∧ 0 < signed own)
      let slope : Int := if usable own && usable old then 2 * (signed own - signed old) else 0
      let inst := (s.ev f).instCount
      let dt := (s.ev f).dtCount
      (counts t.iMax → 1 ≤ inst → ∃ u, exec (.evaluatorArrival f) s = .next u ∧ Tripped f .instant (signed own) s u) ∧
      (¬ (counts t.iMax ∧ 1 ≤ inst) → counts t.iDt → 8 * t.tDt ≤ dt + 1 →
        ∃ u, exec (.evaluatorArrival f) s = .next u ∧ Tripped f .definite (signed own) s u) ∧
      (∀ i' dt' : Nat, ¬ (counts t.iMax ∧ 1 ≤ inst) → ¬ (counts t.iDt ∧ 8 * t.tDt ≤ dt + 1) →
        (counts t.iMax → i' = inst + 1) → (¬ counts t.iMax → i' = 0) → (counts t.iDt → dt' = dt + 1) → (¬ counts t.iDt → dt' = 0) →
        (slope < t.dStart → exec (.evaluatorArrival f) s =
          .next (s.updEv f fun _ => { e with instCount := i', dtCount := dt' })) ∧
        ((t.dStart : Int) ≤ slope → t.captureOnRising = false → exec (.evaluatorArrival f) s =
          .next (s.updEv f fun _ => { e with
            instCount := i', dtCount := dt', state := .rising, iBase := signed old, elapsed := 0, hold := 0,
            peak := signed own - signed old })) ∧
        ((t.dStart : Int) ≤ slope → t.captureOnRising = true → exec (.evaluatorArrival f) s =
          .next (trigger .rising (.feeder f) (s.updEv f fun _ => { e with
            instCount := i', dtCount := dt', state := .rising, iBase := signed old, elapsed := 0, hold := 0,
            peak := signed own - signed old })).2))) ∧
  (∀ (f : Fin 8) (k : Copy) (rest : List Copy) (t : FeederSettings) (s : State), Settled s →
      (s.ev f).inbox = k :: rest → (s.ev f).settings = some t → t.chan = k.chan → (s.ev f).state = .quiet →
      k.after = .valid → 0 < k.missing →
      exec (.evaluatorArrival f) s = exec (.evaluatorArrival f) (s.updEv f fun e => { e with
        instCount := 0, dtCount := 0, inbox := { k with missing := 0 } :: rest }))

/-- R30 to R33: an own instant in RISING, GOOD, SATURATED or INVALID, by the checks in order: instantaneous, ΔI (made only on
a usable instant), definite time, the end by the stop test or by the lapse test, or the event going on. One that is not
usable has the slope 0 and leaves the peak.
R28, R32: a missing instant in RISING sets the counts to 0, raises elapsed and, D being 0, the hold count, and makes the
stop test and the lapse test; what is left of the arrival is worked after it.
That the copy taken is the oldest of a queue is the model's choice (notes/assumptions/1). -/
def Obligations.EvaluatorInRising : Prop :=
  (∀ (f : Fin 8) (k : Copy) (rest : List Copy) (t : FeederSettings) (s : State), Settled s →
      (s.ev f).inbox = k :: rest → (s.ev f).settings = some t → t.chan = k.chan → (s.ev f).state = .rising →
      k.after = .valid → k.missing = 0 →
      let e := s.ev f
      let own := k.own
      let old := k.hist.getD 3 ⟨0, .missing⟩
      let counts (th : Nat) : Bool :=
        (usable own && decide ((th : Int) ≤ signed own)) || (decide (own.mark = .saturated) && decide (0 < signed own))
      let slope : Int := if usable own && usable old then 2 * (signed own - signed old) else 0
      let delta := signed own - e.iBase
      let peak := if usable own then max e.peak delta else e.peak
      let hold := if (t.dStop : Int) ≤ slope then 0 else e.hold + 1
      let counted : Evaluator := { e with
        inbox := rest, chanView := .valid, instCount := if counts t.iMax then e.instCount + 1 else 0,
        dtCount := if counts t.iDt then e.dtCount + 1 else 0 }
      let quiet : Evaluator := { counted with state := .quiet, iBase := 0, elapsed := 0, hold := 0, peak := 0 }
      let inst := counts t.iMax = true ∧ 1 ≤ e.instCount
      let rate := usable own = true ∧ (t.deltaISet : Int) ≤ delta ∧ t.tDelay ≤ e.elapsed + 1
      let definite := counts t.iDt = true ∧ 8 * t.tDt ≤ e.dtCount + 1
      (inst → ∃ u, exec (.evaluatorArrival f) s = .next u ∧ Tripped f .instant (signed own) s u) ∧
      (¬ inst → rate → ∃ u, exec (.evaluatorArrival f) s = .next u ∧ Tripped f .deltaI delta s u) ∧
      (¬ inst → ¬ rate → definite →
        ∃ u, exec (.evaluatorArrival f) s = .next u ∧ Tripped f .definite (signed own) s u) ∧
      (¬ inst → ¬ rate → ¬ definite → t.stopHold ≤ hold → exec (.evaluatorArrival f) s =
        .next (report .eventEnd (.feeder f) (some 1) (some peak) (s.updEv f fun _ => quiet))) ∧
      (¬ inst → ¬ rate → ¬ definite → hold < t.stopHold → t.tMax ≤ e.elapsed + 1 → exec (.evaluatorArrival f) s =
        .next (report .eventEnd (.feeder f) (some 2) (some peak) (s.updEv f fun _ => quiet))) ∧
      (¬ inst → ¬ rate → ¬ definite → hold < t.stopHold → e.elapsed + 1 < t.tMax → exec (.evaluatorArrival f) s =
        .next (s.updEv f fun _ => { counted with elapsed := e.elapsed + 1, hold := hold, peak := peak }))) ∧
  (∀ (f : Fin 8) (k : Copy) (rest : List Copy) (t : FeederSettings) (m : Nat) (s : State), Settled s →
      (s.ev f).inbox = k :: rest → (s.ev f).settings = some t → t.chan = k.chan → (s.ev f).state = .rising →
      k.after = .valid → k.missing = m + 1 → 1 ≤ t.dStop →
      let e := s.ev f
      let left : Evaluator := { e with inbox := { k with missing := m } :: rest, instCount := 0, dtCount := 0 }
      let quiet : Evaluator := { left with state := .quiet, iBase := 0, elapsed := 0, hold := 0, peak := 0 }
      let ended (cause : Nat) : State := report .eventEnd (.feeder f) (some cause) (some e.peak) (s.updEv f fun _ => quiet)
      (t.stopHold ≤ e.hold + 1 → exec (.evaluatorArrival f) s = exec (.evaluatorArrival f) (ended 1)) ∧
      (e.hold + 1 < t.stopHold → t.tMax ≤ e.elapsed + 1 →
        exec (.evaluatorArrival f) s = exec (.evaluatorArrival f) (ended 2)) ∧
      (e.hold + 1 < t.stopHold → e.elapsed + 1 < t.tMax →
        exec (.evaluatorArrival f) s = exec (.evaluatorArrival f) (s.updEv f fun _ =>
          { left with elapsed := e.elapsed + 1, hold := e.hold + 1 })))

/-! ## Switchgear (Chapter 3) -/

/-- R45: a POSITION frame whose payload is not 2 bytes, or whose element or position code is not defined, is counted
malformed; a well-formed one that matches no record is counted unmatched. Neither changes a record.
R45, R46: a POSITION frame that repeats the present position, with no command outstanding, restarts the age timer
and changes nothing else in the records. One that changes a position with no command outstanding makes the report of the
case that applies, with the uncommanded mark, gives the owner its notice, and then the interlock is looked at (R56, R57);
with a command outstanding that it neither completes nor fails it makes no report.
R56, R99, R103: a change of FTf: in the watched stages of a test it drops the test out, and one out of OPEN withdraws an FMf
CLOSE.
R52: a FAULTY position with a command outstanding fails it at once, but for an OPEN that has already failed; that an OPEN
has failed is told by its stopped command timer, which is the model's reading (DEDUCED, notes/assumptions/27).
An FTf that moves under a command it neither completes nor fails makes no report, and drops a watched test out and withdraws
an FMf CLOSE all the same. R116: a DCM that leaves CLOSED so in the wait for the crossing cancels the wait, and a CLOSE of
it is then withdrawn.
The relay before the use, and the report before the notice before the interlock, are the model's choices
(notes/assumptions/7); so is that the times run to the millisecond from now (notes/assumptions/44). -/
def Obligations.PositionFrames : Prop :=
  (∀ (fr : Frame) (s : State), fr.dst = 0xFF → fr.type = 2 → fr.src ≠ s.ring.own → Settled s →
      let g := (goodFrame s).updRing (joinRelay fr)
      ((fr.payload.length ≠ 2 ∨ 1 < u8 fr.payload 0 ∨ u8 fr.payload 1 = 0 ∨ 4 < u8 fr.payload 1) →
        exec (.positionFrame fr) s = .next { g with malformedPos := bump g.malformedPos }) ∧
      (∀ el po : Byte, fr.payload = [el, po] → el.toNat ≤ 1 → 1 ≤ po.toNat → po.toNat ≤ 4 →
        (∀ d, (s.dev d).addr ≠ some (fr.src, el)) →
        exec (.positionFrame fr) s = .next { g with unmatchedPos := bump g.unmatchedPos })) ∧
  (∀ (fr : Frame) (d : Device) (el po : Byte) (s : State), fr.dst = 0xFF → fr.type = 2 → fr.src ≠ s.ring.own →
      Settled s → fr.payload = [el, po] → el.toNat ≤ 1 → framePosition po = some (s.dev d).pos →
      (s.dev d).addr = some (fr.src, el) → (∀ e, e ≠ d → (s.dev e).addr ≠ some (fr.src, el)) → (s.dev d).cmd = .none →
      exec (.positionFrame fr) s = .next (((goodFrame s).updRing (joinRelay fr)).updDev d fun r =>
        { r with ageAt := some (s.time.now + 50 * Config.unitsPerMs) })) ∧
  (∀ (fr : Frame) (d : Device) (el po : Byte) (new : Position) (s : State), fr.dst = 0xFF → fr.type = 2 →
      fr.src ≠ s.ring.own → Settled s → fr.payload = [el, po] → el.toNat ≤ 1 → framePosition po = some new →
      (s.dev d).pos ≠ new → (s.dev d).addr = some (fr.src, el) → (∀ e, e ≠ d → (s.dev e).addr ≠ some (fr.src, el)) →
      (s.dev d).cmd = .none → (∀ f, d ≠ .ft f) →
      let old := (s.dev d).pos
      let moved := ((goodFrame s).updRing (joinRelay fr)).updDev d fun r =>
        { r with pos := new, ageAt := some (s.time.now + 50 * Config.unitsPerMs) }
      let reported (code : ReportCode) (value : Nat) : State :=
        report code (deviceSource d) (some (deviceCause d)) (some value) moved
      (new = .faulty → exec (.positionFrame fr) s =
        .next (guardPosition d moved (giveNotice d old new true (reported .positionFaulty 0)))) ∧
      (new ≠ .faulty → old = .unknown → exec (.positionFrame fr) s =
        .next (guardPosition d moved (giveNotice d old new false moved))) ∧
      (new ≠ .faulty → old ≠ .unknown → exec (.positionFrame fr) s =
        .next (guardPosition d moved (giveNotice d old new true (reported .uncommanded (positionCode new)))))) ∧
  (∀ (fr : Frame) (d : Device) (el po : Byte) (new : Position) (s : State), fr.dst = 0xFF → fr.type = 2 →
      fr.src ≠ s.ring.own → Settled s → fr.payload = [el, po] → el.toNat ≤ 1 → framePosition po = some new →
      (s.dev d).pos ≠ new → (s.dev d).addr = some (fr.src, el) → (∀ e, e ≠ d → (s.dev e).addr ≠ some (fr.src, el)) →
      ((s.dev d).cmd = .toOpen ∧ new ≠ .opened ∨ (s.dev d).cmd = .toClose ∧ new ≠ .closed) → new ≠ .faulty →
      (∀ f, d ≠ .ft f) → (d = .dcm → s.rect.wait ≠ .crossing) →
      let moved := ((goodFrame s).updRing (joinRelay fr)).updDev d fun r =>
        { r with pos := new, ageAt := some (s.time.now + 50 * Config.unitsPerMs) }
      exec (.positionFrame fr) s = .next (guardPosition d moved (giveNotice d (s.dev d).pos new false moved))) ∧
  (∀ (fr : Frame) (f : Fin 8) (el po : Byte) (new : Position) (s : State), fr.dst = 0xFF → fr.type = 2 →
      fr.src ≠ s.ring.own → Settled s → fr.payload = [el, po] → el.toNat ≤ 1 → framePosition po = some new →
      (s.dev (.ft f)).pos ≠ new → (s.dev (.ft f)).addr = some (fr.src, el) →
      (∀ e, e ≠ .ft f → (s.dev e).addr ≠ some (fr.src, el)) → (s.dev (.ft f)).cmd = .none →
      let old := (s.dev (.ft f)).pos
      let moved := ((goodFrame s).updRing (joinRelay fr)).updDev (.ft f) fun r =>
        { r with pos := new, ageAt := some (s.time.now + 50 * Config.unitsPerMs) }
      let reported := if new = .faulty then report .positionFaulty (.feeder f) (some 2) (some 0) moved
        else if old = .unknown then moved
        else report .uncommanded (.feeder f) (some 2) (some (positionCode new)) moved
      let watched := (s.seq f).state = .measuring ∨ ((s.seq f).state = .testing ∧ (s.seq f).timerAt ≠ none)
      (¬ watched → ((s.dev (.fm f)).cmd ≠ .toClose ∨ new = .opened) →
        exec (.positionFrame fr) s = .next reported) ∧
      (¬ watched → (s.dev (.fm f)).cmd = .toClose → (s.dev (.fm f)).addr ≠ none → new ≠ .opened →
        ∃ t, exec (.positionFrame fr) s = .next t ∧ (t.dev (.fm f)).cmd = .toOpen ∧
          (t.dev (.fm f)).requester = some .sequencer ∧
          (t.dev (.fm f)).cmdTimer = some (s.time.now + openTime (.fm f) s * Config.unitsPerMs) ∧
          (t.dev (.fm f)).pos = (s.dev (.fm f)).pos ∧ (t.dev (.ft f)).pos = new ∧
          (t.seq f).state = .lockout ∧ (t.seq f).lockCause = some .testContactor ∧
          (∀ g, g ≠ f → t.seq g = s.seq g) ∧ t.evs = s.evs ∧
          t.reports.occurred[classRank .breaker] = (if new ≠ .faulty ∧ old = .unknown
            then bump s.reports.occurred[classRank .breaker]
            else bump (bump s.reports.occurred[classRank .breaker]))) ∧
      (watched → old = .closed → ∃ t, exec (.positionFrame fr) s = .next t ∧ (t.seq f).state = .lockout ∧
        (t.seq f).lockCause = some .testContactor ∧ (t.seq f).attempts = (s.seq f).attempts ∧
        (t.dev (.ft f)).pos = new ∧ (t.dev (.ft f)).cmd = (if new = .opened then .none else .toOpen) ∧
        (∀ g, g ≠ f → t.seq g = s.seq g) ∧ t.evs = s.evs)) ∧
  (∀ (fr : Frame) (d : Device) (el : Byte) (s : State), fr.dst = 0xFF → fr.type = 2 →
      fr.src ≠ s.ring.own → Settled s → fr.payload = [el, 4] → el.toNat ≤ 1 → (s.dev d).pos ≠ .faulty →
      (s.dev d).addr = some (fr.src, el) → (∀ e, e ≠ d → (s.dev e).addr ≠ some (fr.src, el)) →
      let r := s.dev d
      let faulty : DevRecord := { r with pos := .faulty, ageAt := some (s.time.now + 50 * Config.unitsPerMs) }
      (r.cmd = .toOpen → r.cmdTimer ≠ none → ∃ t, exec (.positionFrame fr) s = .next t ∧
        t.dev d = { faulty with flag := .openFail, cmdTimer := none } ∧
        (∀ f, d = .fm f → ((s.dev .dcm).addr ≠ none → (t.dev .dcm).cmd = .toOpen) ∧
          t.rect.state = (if s.rect.state = .off then .off else .tripped) ∧
          (t.seq f).state = .lockout ∧ (t.seq f).lockCause = some .breakerFail) ∧
        (∀ f, d = .ft f → (t.seq f).state = .lockout ∧ (t.seq f).lockCause = some .testContactor) ∧
        (d = .dcm → (s.dev .acm).addr ≠ none → (t.dev .acm).cmd = .toOpen)) ∧
      (r.cmd = .toOpen → r.cmdTimer = none → (∀ f, d ≠ .ft f) →
        let moved := ((goodFrame s).updRing (joinRelay fr)).updDev d fun _ => faulty
        exec (.positionFrame fr) s = .next (guardPosition d moved (giveNotice d r.pos .faulty false
          (report .positionFaulty (deviceSource d) (some (deviceCause d)) (some 1) moved)))) ∧
      (r.cmd = .toClose → (d = .dcm → s.rect.wait ≠ .crossing) →
        (∀ f, d = .ft f → (s.seq f).timerAt = none ∧ (s.seq f).state ≠ .measuring ∧ (s.dev (.fm f)).cmd ≠ .toClose) →
        ∃ t, exec (.positionFrame fr) s = .next t ∧
        t.dev d = { faulty with
          flag := .closeFail, cmd := .toOpen, cmdTimer := some (s.time.now + openTime d s * Config.unitsPerMs),
          cmdStart := some (s.time.now / Config.unitsPerMs), repeatAt := some (s.time.now + Config.unitsPerMs) } ∧
        (∀ f, (d = .fm f ∨ d = .ft f) → (t.seq f).state = .lockout ∧ (t.seq f).lockCause = some .closeFail))) ∧
  (∀ (fr : Frame) (f : Fin 8) (el po : Byte) (new : Position) (s : State), fr.dst = 0xFF → fr.type = 2 →
      fr.src ≠ s.ring.own → Settled s → fr.payload = [el, po] → el.toNat ≤ 1 → framePosition po = some new →
      (s.dev (.ft f)).pos ≠ new → (s.dev (.ft f)).addr = some (fr.src, el) →
      (∀ e, e ≠ .ft f → (s.dev e).addr ≠ some (fr.src, el)) → new ≠ .faulty →
      ((s.dev (.ft f)).cmd = .toOpen ∧ new ≠ .opened ∨ (s.dev (.ft f)).cmd = .toClose ∧ new ≠ .closed) →
      let moved := ((goodFrame s).updRing (joinRelay fr)).updDev (.ft f) fun r =>
        { r with pos := new, ageAt := some (s.time.now + 50 * Config.unitsPerMs) }
      let dropsOut := (s.dev (.ft f)).pos = .closed ∧
        ((s.seq f).state = .measuring ∨ ((s.seq f).state = .testing ∧ (s.seq f).timerAt ≠ none))
      (¬ dropsOut → (s.dev (.fm f)).cmd ≠ .toClose → exec (.positionFrame fr) s = .next moved) ∧
      (¬ dropsOut → (s.dev (.fm f)).cmd = .toClose → (s.dev (.fm f)).addr ≠ none →
        ∃ t, exec (.positionFrame fr) s = .next t ∧ (t.dev (.fm f)).cmd = .toOpen ∧
          (t.dev (.fm f)).requester = some .sequencer ∧
          (t.dev (.fm f)).cmdTimer = some (s.time.now + openTime (.fm f) s * Config.unitsPerMs) ∧
          t.dev (.ft f) = moved.dev (.ft f) ∧ (t.seq f).state = .lockout ∧
          (t.seq f).lockCause = some .testContactor ∧ (∀ g, g ≠ f → t.seq g = s.seq g) ∧ t.evs = s.evs ∧
          t.reports.occurred[classRank .breaker] = bump s.reports.occurred[classRank .breaker]) ∧
      (dropsOut → ∃ t, exec (.positionFrame fr) s = .next t ∧ (t.seq f).state = .lockout ∧
        (t.seq f).lockCause = some .testContactor ∧ (t.seq f).attempts = (s.seq f).attempts ∧
        (t.dev (.ft f)).pos = new ∧ (t.dev (.ft f)).cmd = (if new = .opened then .none else .toOpen) ∧
        (∀ g, g ≠ f → t.seq g = s.seq g) ∧ t.evs = s.evs)) ∧
  (∀ (fr : Frame) (el po : Byte) (new : Position) (s : State), fr.dst = 0xFF → fr.type = 2 →
      fr.src ≠ s.ring.own → Settled s → fr.payload = [el, po] → el.toNat ≤ 1 → framePosition po = some new →
      (s.dev .dcm).pos ≠ new → (s.dev .dcm).addr = some (fr.src, el) →
      (∀ e, e ≠ .dcm → (s.dev e).addr ≠ some (fr.src, el)) → new ≠ .faulty → s.rect.wait = .crossing →
      firing s.rect.state = false →
      ((s.dev .dcm).cmd = .toOpen ∧ new ≠ .opened ∨ (s.dev .dcm).cmd = .toClose ∧ new ≠ .closed) →
      let r := s.dev .dcm
      let moved := ((goodFrame s).updRing (joinRelay fr)).updDev .dcm fun r =>
        { r with pos := new, ageAt := some (s.time.now + 50 * Config.unitsPerMs) }
      let cancelled := report .deblockCancelled .rectifier (some 1) none
        { moved with rect := { moved.rect with wait := .none } }
      (r.pos ≠ .closed → exec (.positionFrame fr) s = .next moved) ∧
      (r.pos = .closed → r.cmd = .toOpen → exec (.positionFrame fr) s = .next cancelled) ∧
      (r.pos = .closed → r.cmd = .toClose → r.flag = .none → s.rect.stopStep = 0 →
        ∃ t, exec (.positionFrame fr) s = .next t ∧ t.rect = { s.rect with wait := .none } ∧
          t.reports = (report .commandWithdrawn .rectifier (some 3)
            (some ((r.requester.map requesterCode).getD 0 : Nat)) cancelled).reports ∧
          (new = .travel → t.dev .dcm = { moved.dev .dcm with
            cmd := .toOpen, requester := some .rectifier,
            cmdTimer := some (s.time.now + openTime .dcm s * Config.unitsPerMs),
            cmdStart := some (s.time.now / Config.unitsPerMs), repeatAt := some (s.time.now + Config.unitsPerMs) }) ∧
          (new = .opened → t.dev .dcm = { moved.dev .dcm with
            cmd := .none, requester := none, cmdTimer := none, cmdStart := none, repeatAt := none }) ∧
          (∀ e, e ≠ .dcm → t.dev e = s.dev e)))

/-- R51, R101, R102: the frame that reports FMf CLOSED completes a sequencer's CLOSE: no command, its timers stopped,
a CLOSE_FAIL flag cleared, and the sequence is in RECLAIM with its timer; the evaluator sees the new position.
R94: the frame that reports FTf CLOSED completes its CLOSE in TESTING, and the settle timer starts.
R97, R89, R92: the frame that reports FTf OPEN completes its OPEN in TEST_CLEAR, and the sequence goes on by the clear purpose;
R100: what the CLOSING entry checks do.
R116, R119: the frames that complete DCM's CLOSE in a deblock wait, DCM's OPEN in stop step 3 and ACM's OPEN in stop step 4.
R51, R54: the frame that reports FMf OPEN completes its OPEN, after the notice of a change; R101: in CLOSING, backing off,
the sequence then goes to HELD or to the test start. A completed OPEN with OPEN_FAIL set is reported OPENED_LATE with the
time from the command's start, and the flag is kept; that the flag alone decides it is the model's reading
(notes/assumptions/28).
The relay before the use, and the moments at which the timers end, are the model's choices (notes/assumptions/7, 44). -/
def Obligations.CloseCompletes : Prop :=
  (∀ (fr : Frame) (f : Fin 8) (el : Byte) (s : State), fr.dst = 0xFF → fr.type = 2 → fr.src ≠ s.ring.own →
      Settled s → fr.payload = [el, 2] → el.toNat ≤ 1 → (s.dev (.fm f)).addr = some (fr.src, el) →
      (∀ e, e ≠ .fm f → (s.dev e).addr ≠ some (fr.src, el)) → (s.dev (.fm f)).cmd = .toClose →
      (s.dev (.ft f)).pos = .opened → (s.dev (.ft f)).cmd = .none → (s.seq f).state = .closing →
      ∃ t, exec (.positionFrame fr) s = .next t ∧
        t.dev (.fm f) = { s.dev (.fm f) with
          pos := .closed, ageAt := some (s.time.now + 50 * Config.unitsPerMs), cmd := .none, requester := none,
          cmdTimer := none, cmdStart := none, repeatAt := none,
          flag := if (s.dev (.fm f)).flag = .closeFail then .none else (s.dev (.fm f)).flag } ∧
        (∀ e, e ≠ .fm f → t.dev e = s.dev e) ∧
        t.seq f = { s.seq f with
          state := .reclaim, busWaitAt := none, waitStep := none, purpose := none, backingOff := false,
          timerAt := some (s.time.now + 1000 * (planFor f s).reclaim * Config.unitsPerMs) } ∧
        ((s.dev (.fm f)).pos ≠ .closed → (t.ev f).posView = .closed) ∧
        (∀ e, e ≠ f → t.seq e = s.seq e ∧ t.ev e = s.ev e) ∧ t.line = s.line ∧ t.rect = s.rect ∧ t.banks = s.banks) ∧
  (∀ (fr : Frame) (f : Fin 8) (el : Byte) (s : State), fr.dst = 0xFF → fr.type = 2 → fr.src ≠ s.ring.own →
      Settled s → fr.payload = [el, 2] → el.toNat ≤ 1 → (s.dev (.ft f)).addr = some (fr.src, el) →
      (∀ e, e ≠ .ft f → (s.dev e).addr ≠ some (fr.src, el)) → (s.dev (.ft f)).cmd = .toClose →
      (s.dev (.fm f)).cmd ≠ .toClose → (s.seq f).state = .testing →
      ∃ t, exec (.positionFrame fr) s = .next t ∧ (t.dev (.ft f)).pos = .closed ∧ (t.dev (.ft f)).cmd = .none ∧
        t.seq f = { s.seq f with timerAt := some (s.time.now + (planFor f s).settle * Config.unitsPerMs) } ∧
        (∀ e, e ≠ .ft f → t.dev e = s.dev e) ∧ (∀ g, g ≠ f → t.seq g = s.seq g) ∧ t.evs = s.evs) ∧
  (∀ (fr : Frame) (f : Fin 8) (el : Byte) (s : State), fr.dst = 0xFF → fr.type = 2 → fr.src ≠ s.ring.own →
      Settled s → fr.payload = [el, 1] → el.toNat ≤ 1 → (s.dev (.ft f)).addr = some (fr.src, el) →
      (∀ e, e ≠ .ft f → (s.dev e).addr ≠ some (fr.src, el)) → (s.dev (.ft f)).cmd = .toOpen →
      (s.dev (.fm f)).cmd ≠ .toClose → (s.seq f).state = .testClear → ∀ start, (s.dev (.ft f)).cmdStart = some start →
      let flag := (s.dev (.ft f)).flag
      let ended := (((goodFrame s).updRing (joinRelay fr)).updDev (.ft f) fun r => { r with
        pos := .opened, ageAt := some (s.time.now + 50 * Config.unitsPerMs), cmd := .none, requester := none,
        cmdTimer := none, cmdStart := none, repeatAt := none,
        flag := if flag = .closeFail then .none else flag }).updRing fun p => { p with
          claims := p.claims.set (.ft f) none }
      let v := if flag = .openFail then report .openedLate (.feeder f) (some 2)
        (some (min (s.time.now / Config.unitsPerMs - start) 65535 : Nat)) ended else ended
      let a := (s.seq f).attempts
      let go := exec (.positionFrame fr) s
      let held := enterSeq f .held v
      (((s.seq f).purpose = some (.outcome .healthy) ∨ (s.seq f).purpose = some (.outcome .live)) →
        go = .next (closingEntry f v)) ∧
      ((s.seq f).purpose = some (.outcome .faulted) → a + 1 < (s.seq f).limit → ∃ t, go = .next t ∧
        (t.seq f).attempts = a + 1 ∧ (t.seq f).state = (if (s.seq f).hold then .held else .deadTime) ∧
        ((s.seq f).hold = false → (t.seq f).timerAt =
          some (s.time.now + deadTime (planFor f s) (a + 1) * Config.unitsPerMs))) ∧
      ((s.seq f).purpose = some (.outcome .faulted) → (s.seq f).limit ≤ a + 1 → ∃ t, go = .next t ∧
        (t.seq f).attempts = a + 1 ∧ (t.seq f).state = .lockout ∧ (t.seq f).lockCause = some .testFault) ∧
      ((s.seq f).purpose = some (.outcome .busLow) → (s.seq f).hold = false → go = .next ((enterSeq f .waitBus v).updSeq f
        fun q => { q with waitStep := some .test
                          busWaitAt := some (s.time.now + 1000 * (planFor f s).busWait * Config.unitsPerMs) })) ∧
      (((s.seq f).purpose = some (.outcome .busLow) ∨ (s.seq f).purpose = some .hold) → (s.seq f).hold = true →
        go = .next held) ∧
      ((s.seq f).purpose = some .hold → (s.seq f).hold = false → go = .next (testStart f v)) ∧
      ((s.seq f).purpose = some (.outcome .measurementLost) → go = .next (lockout f .measurementLost v))) ∧
  (∀ (f : Fin 8) (bus : Fin 24) (s : State), busChannel s = some bus →
      let u := closingEntry f s
      let good := (s.chan bus).state = .valid ∧ (planFor f s).uTestMin ≤ (s.chan bus).last.value.toNat
      ((s.ev f).state = .degraded → u = lockout f .noProtection s) ∧
      ((s.ev f).state ≠ .degraded → (s.seq f).hold = true → u = enterSeq f .held s) ∧
      ((s.ev f).state ≠ .degraded → (s.seq f).hold = false → ¬ good → u = (enterSeq f .waitBus s).updSeq f fun q =>
        { q with waitStep := some .close
                 busWaitAt := some (s.time.now + 1000 * (planFor f s).busWait * Config.unitsPerMs) }) ∧
      ((s.ev f).state ≠ .degraded → (s.seq f).hold = false → good → closeRefused (.fm f) s = true →
        u = lockout f .closeRefused s) ∧
      ((s.ev f).state ≠ .degraded → (s.seq f).hold = false → good → closeRefused (.fm f) s = false →
        (u.seq f).state = .closing ∧ (u.seq f).attempts = (s.seq f).attempts + 1 ∧ (u.seq f).backingOff = false ∧
        (u.dev (.fm f)).cmd = .toClose ∧ (∀ e, e ≠ .fm f → u.dev e = s.dev e) ∧ u.evs = s.evs)) ∧
  (∀ (fr : Frame) (d : Device) (el po : Byte) (s : State), fr.dst = 0xFF → fr.type = 2 → fr.src ≠ s.ring.own →
      Settled s → fr.payload = [el, po] → el.toNat ≤ 1 → (s.dev d).addr = some (fr.src, el) →
      (∀ e, e ≠ d → (s.dev e).addr ≠ some (fr.src, el)) → s.rect.state = .blocked →
      let flag := (s.dev d).flag
      let kept := if flag = .closeFail then .none else flag
      (d = .dcm → po = 2 → (s.dev d).cmd = .toClose → s.rect.wait = .dcm →
        ∃ t, exec (.positionFrame fr) s = .next t ∧ t.rect = { s.rect with wait := .crossing } ∧
          (t.dev d).cmd = .none ∧ (t.dev d).flag = kept ∧ (∀ e, e ≠ d → t.dev e = s.dev e)) ∧
      (d = .dcm → po = 1 → (s.dev d).cmd = .toOpen → s.rect.stopStep = 3 → s.rect.wait = .none →
        (s.dev .acm).addr ≠ none → ∃ t, exec (.positionFrame fr) s = .next t ∧ t.rect.stopStep = 4 ∧
          t.rect.state = .blocked ∧ (t.dev d).cmd = .none ∧ (t.dev d).flag = kept ∧ (t.dev .acm).cmd = .toOpen) ∧
      (d = .acm → po = 1 → (s.dev d).cmd = .toOpen → s.rect.stopStep = 4 → s.rect.wait = .none → (s.dev d).pos ≠ .opened →
        ∀ start, (s.dev d).cmdStart = some start →
        ∃ t, exec (.positionFrame fr) s = .next t ∧ t.rect.state = .off ∧ t.rect.stopStep = 0 ∧ (t.dev d).cmd = .none ∧
          (t.dev d).flag = kept ∧ t.reports = (report .stopDone .rectifier none none (if flag = .openFail then
            report .openedLate .rectifier (some 4) (some (min (s.time.now / Config.unitsPerMs - start) 65535 : Nat))
              (goodFrame s) else goodFrame s)).reports)) ∧
  (∀ (fr : Frame) (f : Fin 8) (el : Byte) (start : Nat) (s : State), fr.dst = 0xFF → fr.type = 2 → fr.src ≠ s.ring.own →
      Settled s → fr.payload = [el, 1] → el.toNat ≤ 1 → (s.dev (.fm f)).addr = some (fr.src, el) →
      (∀ e, e ≠ .fm f → (s.dev e).addr ≠ some (fr.src, el)) → (s.dev (.fm f)).cmd = .toOpen →
      (s.dev (.fm f)).cmdStart = some start →
      let r := s.dev (.fm f)
      let fresh := ((goodFrame s).updRing (joinRelay fr)).updDev (.fm f) fun r => { r with
        pos := .opened, ageAt := some (s.time.now + 50 * Config.unitsPerMs) }
      let noticed := if r.pos = .opened then fresh else giveNotice (.fm f) r.pos .opened false fresh
      let ended := (noticed.updDev (.fm f) fun x => { x with
        cmd := .none, requester := none, cmdTimer := none, cmdStart := none, repeatAt := none,
        flag := if r.flag = .closeFail then .none else r.flag }).updRing fun p => { p with
          claims := p.claims.set (.fm f) none }
      let v := if r.flag = .openFail then report .openedLate (.feeder f) (some 1)
        (some (min (s.time.now / Config.unitsPerMs - start) 65535 : Nat)) ended else ended
      let backs := (noticed.seq f).state = .closing ∧ (noticed.seq f).backingOff = true
      (¬ backs → exec (.positionFrame fr) s = .next v) ∧
      (backs → (s.seq f).hold = true → exec (.positionFrame fr) s = .next (v.updSeq f fun q => { q with
        state := .held, timerAt := none, busWaitAt := none, waitStep := none, purpose := none, backingOff := false })) ∧
      (backs → (s.seq f).hold = false → exec (.positionFrame fr) s = .next (testStart f v)))

/-- R47, R46: a position that ages becomes UNKNOWN with the age timer stopped: POSITION_UNKNOWN is reported with the position
it had, the owner is given the notice, without the uncommanded mark, and the interlock is looked at; one that is UNKNOWN
already only stops its timer. For an FMf or ACM nothing else of its record changes: an outstanding command is not affected.
R48: the repeat timer of an outstanding command places another COMMAND frame, with the element and the commanded position, in
the claim slot and restarts; while ring-out is busy the frame waits there.
That an expiry moves the time base on, the report before the notice before the interlock, and the moments at which timers run
out, are the model's choices (notes/assumptions/3, 7, 44). -/
def Obligations.DeviceTimers : Prop :=
  (∀ (d : Device) (at_ : Nat) (s : State), Settled s → (s.dev d).ageAt = some at_ →
      ∃ t, exec (.positionAgeExpiry d) s = .next t ∧ (t.dev d).pos = .unknown ∧ (t.dev d).ageAt = none ∧
        (t.dev d).addr = (s.dev d).addr ∧ t.chans = s.chans ∧ t.time = (advanceTo at_ s).time ∧
        ((d = .acm ∨ ∃ f, d = .fm f) → t.dev d = { s.dev d with pos := .unknown, ageAt := none }) ∧
        (∀ f, d = .fm f → (t.ev f).posView = if (s.dev d).pos = .unknown then (s.ev f).posView else .unknown) ∧
        (let aged := (advanceTo at_ s).updDev d fun r => { r with pos := .unknown, ageAt := none }
         t = if (s.dev d).pos = .unknown then aged else guardPosition d aged (giveNotice d (s.dev d).pos .unknown false
           (report .positionUnknown (deviceSource d) (some (deviceCause d)) (some (positionCode (s.dev d).pos)) aged)))) ∧
  (∀ (d : Device) (at_ : Nat) (unit el : Byte) (s : State), (s.dev d).repeatAt = some at_ →
      (s.dev d).cmd ≠ .none → (s.dev d).addr = some (unit, el) → s.ring.out ≠ none →
      let u := advanceTo at_ s
      exec (.repeatTimerExpiry d) s = .next ((u.updDev d fun r => { r with
          repeatAt := some (u.time.now + Config.unitsPerMs) }).updRing fun p => { p with
        claims := p.claims.set d (some ⟨unit, s.ring.own, 3, 0, [el, if (s.dev d).cmd = .toOpen then 1 else 2]⟩) }))

/-- R49: an OPEN request is taken by every assigned record; it leaves an OPEN as it was, and from NONE or CLOSE makes
OPEN the command, with the new requester and a fresh command timer, a withdrawn CLOSE being reported.
R50: a CLOSE request is refused with the record unchanged by OPEN outstanding, a failure flag, a position of UNKNOWN or FAULTY,
or the interlock; otherwise it is taken, leaving a CLOSE as it was.
The moment at which a timer runs out is the model's choice (notes/assumptions/44). -/
def Obligations.DeviceRequests : Prop :=
  (∀ (d : Device) (by_ : Requester) (s : State),
      let r := s.dev d
      let taken : DevRecord := { r with
        cmd := .toOpen, requester := some by_, cmdTimer := some (s.time.now + openTime d s * Config.unitsPerMs),
        cmdStart := some (s.time.now / Config.unitsPerMs), repeatAt := some (s.time.now + Config.unitsPerMs) }
      (r.addr = none → requestOpen d by_ s = (false, s)) ∧
      (r.addr ≠ none → (requestOpen d by_ s).1 = true) ∧
      (r.addr ≠ none → r.cmd = .toOpen → (requestOpen d by_ s).2 = s) ∧
      (r.addr ≠ none → r.cmd ≠ .toOpen → (requestOpen d by_ s).2.dev d = taken) ∧
      (r.addr ≠ none → r.cmd = .none → (∀ f, d ≠ .ft f) → (requestOpen d by_ s).2.reports = s.reports) ∧
      (r.addr ≠ none → r.cmd = .toClose → (∀ f, d ≠ .ft f) → (requestOpen d by_ s).2.reports =
        (report .commandWithdrawn (deviceSource d) (some (deviceCause d))
          (some ((r.requester.map requesterCode).getD 0 : Nat)) s).reports)) ∧
  (∀ (d : Device) (by_ : Requester) (s : State),
      let r := s.dev d
      let partner : Option Device := match d with
        | .fm f => some (.ft f)
        | .ft f => some (.fm f)
        | _ => none
      let refused := r.addr = none ∨ r.cmd = .toOpen ∨ r.flag ≠ .none ∨ r.pos = .unknown ∨ r.pos = .faulty ∨
        ∃ p, partner = some p ∧ ((s.dev p).pos ≠ .opened ∨ (s.dev p).cmd ≠ .none)
      (refused → requestClose d by_ s = (false, s)) ∧
      (¬ refused → (requestClose d by_ s).1 = true) ∧
      (¬ refused → r.cmd = .toClose → (requestClose d by_ s).2 = s) ∧
      (¬ refused → r.cmd = .none → (requestClose d by_ s).2.dev d = { r with
        cmd := .toClose, requester := some by_, cmdTimer := some (s.time.now + closeTime d s * Config.unitsPerMs),
        cmdStart := some (s.time.now / Config.unitsPerMs), repeatAt := some (s.time.now + Config.unitsPerMs) } ∧
        (∀ e, e ≠ d → (requestClose d by_ s).2.dev e = s.dev e)))

/-- R53, R58, R59: the command timer of an OPEN runs out: OPEN_FAIL, with the OPEN kept; FMf trips the rectifier, opens
DCM and locks the sequence out, FTf locks it out, DCM opens ACM and fails an ordered stop.
R55, R116: the command timer of a CLOSE runs out: CLOSE_FAIL, with OPEN in the CLOSE's place, its requester kept
and a fresh OPEN time; FMf and FTf lock the sequence out, DCM trips a rectifier that waits for it. The record of FMf is at rest as the
interlock demands of an FTf CLOSE.
R58: with the rectifier tripped and DCM asked, FMf's failure enqueues a TRIP and takes the capture trigger BREAKER_FAIL, whose
slot its OPEN_FAIL report carries. R53, R55, R58, R59: each failure is reported with its device and its time in ms, before
what follows from the failure; a lockout enqueues a HOLD (R103).
That an expiry moves the time base on, which stop steps a failure ends, that the time reported is the setting in force, and
the moments at which timers end, are the model's (notes/assumptions/3, 32, 38, 44). -/
def Obligations.CommandFailures : Prop :=
  (∀ (d : Device) (at_ : Nat) (s : State), Settled s → (s.dev d).cmd = .toOpen → (s.dev d).cmdTimer = some at_ →
      let u := advanceTo at_ s
      let failed (v : State) : State :=
        report .openFail (deviceSource d) (some (deviceCause d)) (some (openTime d s)) v
      ∃ t, exec (.openTimerExpiry d) s = .next t ∧
        (∀ f, d = .fm f → openTime d s = ((s.ev f).settings.map fun x => x.bfTime).getD 0 ∧
          t.line = (enqueue f .hold (enqueue f .trip s)).line ∧
          (let answer := trigger .breakerFail (.feeder f) (rectTrip .feederBf (f.val + 1) (askOpen .dcm .escalation u))
           t.capture = answer.2.capture ∧ t.reports = (report .lockout (.feeder f) (some (lockoutCode .breakerFail))
            (some (s.seq f).attempts) (submit .openFail (.feeder f) (some 1) (some (openTime d s)) answer.1
              answer.2)).reports)) ∧
        (∀ f, d = .ft f → openTime d s = 100 ∧ t.line = (enqueue f .hold s).line ∧ t.capture = s.capture ∧
          t.reports = (report .lockout (.feeder f) (some (lockoutCode .testContactor)) (some (s.seq f).attempts)
            (failed u)).reports) ∧
        (d = .dcm → openTime d s = (s.rect.settings.map fun x => x.dcFail).getD 0 ∧ t.line = s.line ∧
          (s.rect.stopStep = 0 ∨ s.rect.state = .off →
            t.capture = s.capture ∧ t.reports = (failed (askOpen .acm .escalation u)).reports) ∧
          (s.rect.stopStep ≠ 0 → s.rect.state ≠ .off → t.reports = (rectTrip .stopIncomplete s.rect.stopStep
            (failed (askOpen .acm .escalation u))).reports)) ∧
        (d = .acm → openTime d s = 200 ∧ t.line = s.line ∧
          (s.rect.stopStep ≠ 4 ∨ s.rect.state = .off → t.capture = s.capture ∧ t.reports = (failed u).reports) ∧
          (s.rect.stopStep = 4 → s.rect.state ≠ .off →
            t.reports = (rectTrip .stopIncomplete 4 (failed u)).reports)) ∧
        t.dev d = { s.dev d with flag := .openFail, cmdTimer := none } ∧ t.time = (advanceTo at_ s).time ∧
        (∀ f, d = .fm f →
          ((s.dev .dcm).addr ≠ none → (t.dev .dcm).cmd = .toOpen) ∧
          ((s.dev .dcm).addr ≠ none → (s.dev .dcm).cmd ≠ .toOpen → (t.dev .dcm).requester = some .escalation) ∧
          t.rect.state = (if s.rect.state = .off then .off else .tripped) ∧ (firing s.rect.state → t.rect.gateEn = false) ∧
          (t.seq f).state = .lockout ∧ (t.seq f).lockCause = some .breakerFail ∧
          (t.seq f).attempts = (s.seq f).attempts) ∧
        (∀ f, d = .ft f → (t.seq f).state = .lockout ∧ (t.seq f).lockCause = some .testContactor ∧ t.rect = s.rect) ∧
        (d = .dcm → ((s.dev .acm).addr ≠ none → (t.dev .acm).cmd = .toOpen) ∧
          (s.rect.stopStep ≠ 0 → s.rect.state ≠ .off → t.rect.state = .tripped) ∧
          (s.rect.stopStep = 0 → t.rect = s.rect)) ∧
        (d = .acm → s.rect.stopStep ≠ 4 → t.rect = s.rect)) ∧
  (∀ (d : Device) (at_ : Nat) (s : State), Settled s → (s.dev d).cmd = .toClose → (s.dev d).cmdTimer = some at_ →
      (s.dev d).addr ≠ none → (∀ f, d = .ft f → (s.dev (.fm f)).cmd ≠ .toClose) →
      let now := (advanceTo at_ s).time.now
      let failed := report .closeFail (deviceSource d) (some (deviceCause d)) (some (closeTime d s)) (advanceTo at_ s)
      ∃ t, exec (.closeTimerExpiry d) s = .next t ∧
        (∀ f, (d = .fm f → closeTime d s = ((s.ev f).settings.map fun x => x.closeTime).getD 0) ∧
          (d = .ft f → closeTime d s = 100) ∧
          (d = .fm f ∨ d = .ft f → t.line = (enqueue f .hold s).line ∧ t.capture = s.capture ∧
            t.reports = (report .lockout (.feeder f) (some (lockoutCode .closeFail)) (some (s.seq f).attempts)
              failed).reports)) ∧
        (d = .dcm → closeTime d s = 500 ∧ t.line = s.line ∧ t.reports =
          (if s.rect.wait = .dcm then rectTrip .dcbCloseFail 500 failed else failed).reports) ∧
        (d = .acm → closeTime d s = 1000 ∧ t.line = s.line ∧ t.capture = s.capture ∧ t.reports = failed.reports) ∧
        t.dev d = { s.dev d with
          flag := .closeFail, cmd := .toOpen, cmdTimer := some (now + openTime d s * Config.unitsPerMs),
          cmdStart := some (now / Config.unitsPerMs), repeatAt := some (now + Config.unitsPerMs) } ∧
        (∀ e, e ≠ d → t.dev e = s.dev e) ∧
        (∀ f, (d = .fm f ∨ d = .ft f) → (t.seq f).state = .lockout ∧ (t.seq f).lockCause = some .closeFail) ∧
        (d = .dcm → s.rect.wait = .dcm → s.rect.state = .blocked →
          t.rect.state = .tripped ∧ t.rect.lastTrip = some (.dcbCloseFail, 500) ∧ t.rect.wait = .none) ∧
        (d = .acm → t.rect = s.rect))

/-! ## The intertrip line (Chapter 4) -/

/-- R71, R72: a message received outside SENDING and FAULT: a wrong check and a kind of 11 are counted and have no
effect on a feeder; a message of a section that no feeder in service has is only counted as received. After the stop
the line is WAITING with the bus-free timer afresh.
R71: a message read sample by sample is judged so at the sample of its clock 14, and stays in RECEIVING.
That a message may be one command, up to its stop, and the moment at which the low timer runs out, are the model's
choices (notes/assumptions/21, 44). -/
def Obligations.MessageNotAccepted : Prop :=
  (∀ (bits : BitVec 14) (s : State), Settled s → (s.line.state = .waiting ∨ s.line.state = .free) →
      let sec := bits.toNat / 64
      let kind := bits.toNat / 16 % 4
      let check := bits.toNat % 16
      let go := exec (.intertripMessageReceived (.whole bits) false) s
      let after (c : LineCounters) : State := { s with line := { s.line with
        state := .waiting, freeSince := some s.time.now, lowAt := none, clocks := 0, heard := [], inFlight := [],
        ckLow := false, dtLow := false, driveCk := false, driveDt := false, accepted := none, phaseAt := none,
        counters := c } }
      (check ≠ (sec / 16 + sec % 16 + kind) % 16 → go =
        .next (after { s.line.counters with checkErrors := bump s.line.counters.checkErrors })) ∧
      (check = (sec / 16 + sec % 16 + kind) % 16 → kind = 3 → go =
        .next (after { s.line.counters with kind11 := bump s.line.counters.kind11 })) ∧
      (check = (sec / 16 + sec % 16 + kind) % 16 → kind ≠ 3 →
        (sec = 0 ∨ ∀ t, s.line.table = some t → t.enable = true →
          ∀ f : Fin 8, inService (s.ev f) = true → t.sections[f].toNat ≠ sec) → go =
        .next (after { s.line.counters with received := bump s.line.counters.received }))) ∧
  (∀ (bit ends : Bool) (s : State), Settled s → s.line.state = .receiving → s.line.clocks = 14 → s.line.heard.length = 13 →
      let bits := s.line.heard ++ [bit]
      let sec := numberOfBits (bits.take 8)
      let kind := numberOfBits ((bits.drop 8).take 2)
      let check := numberOfBits (bits.drop 10)
      let go := exec (.intertripMessageReceived (.sample bit) ends) s
      let low := !bit || s.line.driveDt
      let after (c : LineCounters) : State := { s with line := { s.line with
        heard := bits, freeSince := none, ckLow := false, dtLow := low, accepted := none, counters := c
        lowAt := if low then some (s.line.lowAt.getD (s.time.now + 2 * Config.unitsPerMs)) else none } }
      (check ≠ (sec / 16 + sec % 16 + kind) % 16 → go =
        .next (after { s.line.counters with checkErrors := bump s.line.counters.checkErrors })) ∧
      (check = (sec / 16 + sec % 16 + kind) % 16 → kind = 3 → go =
        .next (after { s.line.counters with kind11 := bump s.line.counters.kind11 })) ∧
      (check = (sec / 16 + sec % 16 + kind) % 16 → kind ≠ 3 →
        (sec = 0 ∨ ∀ t, s.line.table = some t → t.enable = true →
          ∀ f : Fin 8, inService (s.ev f) = true → t.sections[f].toNat ≠ sec) → go =
        .next (after { s.line.counters with received := bump s.line.counters.received })))

/-- R72: a message that is accepted at the sample of its clock 14 changes nothing but the receive record and the received
counter; DT is driven low from the fall of CK that begins clock 15, and released at the next fall of CK, at which the
message is applied and reported as MESSAGE_RECEIVED. A message that is not accepted drives nothing and applies nothing.
R72, R73, R91: an accepted HOLD sets the hold flag and starts the hold timer of every feeder of its section in
service, and a RELEASE clears and stops them; here with the sequences of the section idle, so that only flags and timers
change.
R38, R73: an accepted TRIP trips every feeder of its section in service that is in QUIET with FMf not reported OPEN, with cause
INTERTRIP and the section code as value, sets its hold, and puts nothing on the transmit queue; one INTERTRIP report is
made.
R73: whatever the states of its feeders, an accepted message is applied to each of them in turn: a TRIP as the intertrip trip
request and the hold notice, a HOLD as the hold notice, a RELEASE as the release notice. R38: what the request does in each
state of an evaluator.
R91, R98, R101: what the hold notice and the release notice do in each state of a sequence: a hold sends a dead time and a
bus wait to HELD, interrupts a test, and withdraws a close while FMf is reported OPEN; a release out of HELD makes the test
start.
That the feeders take it in the order 1 to 8, and the moments at which the hold timers end, are the model's choices
(notes/assumptions/7, 44).
That a message may be one command, the field that keeps its acceptance, and that it is applied by the table of that moment
are the model's choices (notes/assumptions/21, 22). -/
def Obligations.MessagesAccepted : Prop :=
  (∀ (code : Byte) (k : Kind) (tb : LineTable) (s : State), Settled s → s.line.table = some tb → (k = .hold ∨ k = .release) →
      (∀ f : Fin 8, tb.sections[f] = code → seqIdle (s.seq f).state = true) →
      let bits := BitVec.ofNat 14 (code.toNat * 64 + kindCode k * 16 + messageCheck code.toNat (kindCode k))
      let given (t : State) : Prop :=
        (∀ f : Fin 8, t.seq f = if tb.sections[f] = code ∧ inService (s.ev f) = true then
            { s.seq f with
              hold := k = .hold
              holdAt := if k = .hold then some (s.time.now + 1000 * (planFor f s).hold * Config.unitsPerMs) else none }
          else s.seq f) ∧
        t = { report .messageReceived .intertrip (some (kindCause k)) (some code.toNat) s with
          seqs := t.seqs, line := t.line }
      ((s.line.state = .waiting ∨ s.line.state = .free) → tb.enable = true → code ≠ 0 →
        (∃ f : Fin 8, tb.sections[f] = code ∧ inService (s.ev f) = true) →
        ∃ t, exec (.intertripMessageReceived (.whole bits) false) s = .next t ∧ given t ∧
          t.line.state = .waiting ∧ t.line.queue = s.line.queue ∧ t.line.accepted = none ∧
          t.line.counters = { s.line.counters with received := bump s.line.counters.received }) ∧
      (s.line.state = .receiving → s.line.clocks = 15 → s.line.accepted = some (code, k) →
        s.line.ckLow = false → s.line.driveCk = false →
        ∃ t, exec (.lineLowEvent .ck) s = .next t ∧ given t ∧ t.line = { s.line with
          clocks := 16, accepted := none, ckLow := true, driveCk := false, driveDt := false,
          dtLow := s.line.dtLow && !s.line.driveDt, freeSince := none,
          lowAt := some (s.line.lowAt.getD (s.time.now + 2 * Config.unitsPerMs)) })) ∧
  (∀ (code : Byte) (tb : LineTable) (s : State), Settled s → s.line.table = some tb →
      (∀ f : Fin 8, tb.sections[f] = code → inService (s.ev f) = true →
        (s.ev f).state = .quiet ∧ (s.ev f).posView ≠ .opened ∧ (s.seq f).state = .idleClosed) →
      let bits := BitVec.ofNat 14 (code.toNat * 64 + messageCheck code.toNat 0)
      let given (t : State) : Prop :=
        (∀ f : Fin 8, tb.sections[f] = code → inService (s.ev f) = true →
          (t.ev f).state = .tripping ∧ (t.ev f).lastTrip = some (Cause.intertrip, (code.toNat : Int)) ∧
          ((s.dev (.fm f)).addr ≠ none → (t.dev (.fm f)).cmd = .toOpen) ∧
          (t.seq f).noted = some .intertrip ∧ (t.seq f).hold = true) ∧
        (∀ f : Fin 8, ¬ (tb.sections[f] = code ∧ inService (s.ev f) = true) →
          t.ev f = s.ev f ∧ t.seq f = s.seq f) ∧
        t.reports.occurred[classRank .intertrip] = bump s.reports.occurred[classRank .intertrip]
      ((s.line.state = .waiting ∨ s.line.state = .free) → tb.enable = true → code ≠ 0 →
        (∃ f : Fin 8, tb.sections[f] = code ∧ inService (s.ev f) = true) →
        ∃ t, exec (.intertripMessageReceived (.whole bits) false) s = .next t ∧ given t ∧
          t.line.queue = s.line.queue ∧ t.line.accepted = none) ∧
      (s.line.state = .receiving → s.line.clocks = 15 → s.line.accepted = some (code, .trip) →
        s.line.ckLow = false → s.line.driveCk = false →
        ∃ t, exec (.lineLowEvent .ck) s = .next t ∧ given t ∧ t.line = { s.line with
          clocks := 16, accepted := none, ckLow := true, driveCk := false, driveDt := false,
          dtLow := s.line.dtLow && !s.line.driveDt, freeSince := none,
          lowAt := some (s.line.lowAt.getD (s.time.now + 2 * Config.unitsPerMs)) })) ∧
  (∀ (code : Byte) (k : Kind) (tb : LineTable) (bit ends : Bool) (s : State), Settled s → s.line.state = .receiving →
      s.line.clocks = 14 → s.line.heard.length = 13 → s.line.heard ++ [bit] = messageBits code k →
      s.line.table = some tb → tb.enable = true → code ≠ 0 →
      (∃ f : Fin 8, tb.sections[f] = code ∧ inService (s.ev f) = true) →
      let low := !bit || s.line.driveDt
      exec (.intertripMessageReceived (.sample bit) ends) s = .next { s with line := { s.line with
        heard := messageBits code k, accepted := some (code, k), freeSince := none, ckLow := false, dtLow := low
        lowAt := if low then some (s.line.lowAt.getD (s.time.now + 2 * Config.unitsPerMs)) else none
        counters := { s.line.counters with received := bump s.line.counters.received } } }) ∧
  (∀ s : State, s.line.state = .receiving → s.line.ckLow = false → s.line.driveCk = false →
      let low := some (s.line.lowAt.getD (s.time.now + 2 * Config.unitsPerMs))
      let drives := s.line.accepted.isSome
      (s.line.clocks = 14 → s.line.driveDt = false → exec (.lineLowEvent .ck) s = .next { s with line := { s.line with
        clocks := 15, ckLow := true, driveCk := false, driveDt := drives,
        dtLow := drives || s.line.dtLow, lowAt := low, freeSince := none } }) ∧
      (s.line.clocks = 15 → s.line.accepted = none → exec (.lineLowEvent .ck) s = .next { s with line := { s.line with
        clocks := 16, ckLow := true, driveCk := false, driveDt := false,
        dtLow := s.line.dtLow && !s.line.driveDt, lowAt := low, freeSince := none } })) ∧
  (∀ (code : Byte) (k : Kind) (tb : LineTable) (s : State), Settled s → s.line.table = some tb → tb.enable = true →
      code ≠ 0 → (∃ f : Fin 8, tb.sections[f] = code ∧ inService (s.ev f) = true) →
      let bits := BitVec.ofNat 14 (code.toNat * 64 + kindCode k * 16 + messageCheck code.toNat (kindCode k))
      let concerned := (List.finRange 8).filter fun f => tb.sections[f] = code && inService (s.ev f)
      let applied := concerned.foldl (fun u f => match k with
        | .trip => holdNotice f (intertripTrip f code u)
        | .hold => holdNotice f u
        | .release => releaseHold f u) s
      let given (t : State) : Prop := t.line.queue = applied.line.queue ∧ t.line.accepted = none ∧
        t = { report .messageReceived .intertrip (some (kindCause k)) (some code.toNat) applied with line := t.line }
      ((s.line.state = .waiting ∨ s.line.state = .free) →
        ∃ t, exec (.intertripMessageReceived (.whole bits) false) s = .next t ∧ given t) ∧
      (s.line.state = .receiving → s.line.clocks = 15 → s.line.accepted = some (code, k) →
        s.line.ckLow = false → s.line.driveCk = false → ∃ t, exec (.lineLowEvent .ck) s = .next t ∧ given t)) ∧
  (∀ (f : Fin 8) (code : Byte) (s : State),
      let e := s.ev f
      let u := intertripTrip f code s
      ((e.state = .quiet ∨ e.state = .rising ∨ e.state = .degraded) → e.posView ≠ .opened →
        Tripped f .intertrip (code.toNat : Int) s u) ∧
      ((e.state = .off ∨ e.state = .tripping ∨ (e.state = .degraded ∧ e.posView = .opened)) → u = s)) ∧
  (∀ (f : Fin 8) (s : State),
      let q := s.seq f
      let u := holdNotice f s
      let held : Sequencer := { q with
        hold := true, holdAt := some (s.time.now + 1000 * (planFor f s).hold * Config.unitsPerMs) }
      let left : Sequencer := { held with
        timerAt := none, busWaitAt := none, waitStep := none, purpose := none, backingOff := false }
      let withdrawn (d : Device) : State := if (s.dev d).cmd = .toClose then report .commandWithdrawn (.feeder f)
        (some (deviceCause d)) (some (((s.dev d).requester.map requesterCode).getD 0 : Nat)) s else s
      let asked (d : Device) : Prop := (∀ x, x ≠ d → u.dev x = s.dev x) ∧ ((s.dev d).cmd = .toOpen → u.dev d = s.dev d) ∧
        ((s.dev d).cmd ≠ .toOpen → u.dev d = { s.dev d with
          cmd := .toOpen, requester := some .sequencer,
          cmdTimer := some (s.time.now + openTime d s * Config.unitsPerMs),
          cmdStart := some (s.time.now / Config.unitsPerMs), repeatAt := some (s.time.now + Config.unitsPerMs) }) ∧
        u.reports = (withdrawn d).reports ∧ u.evs = s.evs ∧ u.line = s.line ∧ u.rect = s.rect ∧
        ∀ g, g ≠ f → u.seq g = s.seq g
      ((q.state = .deadTime ∨ q.state = .waitBus) → u = s.updSeq f fun _ => { left with state := .held }) ∧
      ((q.state = .testing ∨ q.state = .measuring) → (s.dev (.fm f)).cmd ≠ .toClose → (s.dev (.ft f)).addr ≠ none →
        asked (.ft f) ∧ u.seq f = { left with
          state := .testClear, purpose := some .hold, busSum := 0, busCount := 0, lineSum := 0, lineCount := 0 }) ∧
      (q.state = .closing → (s.dev (.fm f)).pos = .opened → q.backingOff = false → (s.dev (.fm f)).addr ≠ none →
        asked (.fm f) ∧ u.seq f = { held with attempts := q.attempts - 1, backingOff := true }) ∧
      ((q.state = .closing ∧ ((s.dev (.fm f)).pos ≠ .opened ∨ q.backingOff = true) ∨ seqSafe q.state = true ∨
        q.state = .held ∨ q.state = .testClear ∨ q.state = .reclaim) → u = s.updSeq f fun _ => held)) ∧
  (∀ (f : Fin 8) (s : State),
      let freed := s.updSeq f fun q => { q with hold := false, holdAt := none }
      ((s.seq f).state = .held → releaseHold f s = testStart f freed) ∧
      ((s.seq f).state ≠ .held → releaseHold f s = freed))

/-- R67, R68: outside a message, DT falling with CK high is a start, and the line is RECEIVING with a cleared record; any other fall
of a wire is a low event, and the line is WAITING, with the low timer running and the bus-free timer stopped until both wires are
high; a wire that is low already cannot fall.
R68, R69: the low timer running out declares a line fault in every state but FAULT, and the bus-free timer running out makes
the line FREE, with LINE_RESTORED after a fault.
R71: in a message being received, each fall of CK begins a clock and each sample gives a bit; a start or a stop before
clock 15 abandons it as a check error, and after clock 15 ends it; a start begins a fresh record in RECEIVING, a stop
leaves WAITING.
That both wires becoming high stands for the stop, that MESSAGE_ABANDONED stands for the wires' own events, and that an expiry
moves the time base on, are the model's choices (notes/assumptions/3, 21; the moments at which timers run out: 44); that a start or a stop in or after clock 15 drops
an accepted message which the fall of CK after clock 15 has not yet applied is its reading (notes/assumptions/22). -/
def Obligations.LineEvents : Prop :=
  (∀ s : State,
      let low := some (s.line.lowAt.getD (s.time.now + 2 * Config.unitsPerMs))
      let idle := s.line.state = .free ∨ s.line.state = .waiting
      (idle → s.line.ckLow = false → exec (.lineLowEvent .ck) s = .next { s with line := { s.line with
        state := .waiting, freeSince := none, lowAt := low, ckLow := true } }) ∧
      (idle → s.line.ckLow = true → s.line.dtLow = false → exec (.lineLowEvent .dt) s = .next { s with
        line := { s.line with state := .waiting, freeSince := none, lowAt := low, dtLow := true } }) ∧
      (idle → s.line.ckLow = false → s.line.dtLow = false → exec (.lineLowEvent .dt) s = .next { s with
        line := { s.line with
          state := .receiving, freeSince := none, lowAt := some (s.time.now + 2 * Config.unitsPerMs), clocks := 0,
          heard := [], inFlight := [], dtLow := true, driveCk := false, driveDt := false, accepted := none,
          phaseAt := none } }) ∧
      (s.line.ckLow = true → exec (.lineLowEvent .ck) s = .next s) ∧
      (s.line.dtLow = true → exec (.lineLowEvent .dt) s = .next s) ∧
      ((idle ∨ s.line.state = .fault) → (s.line.ckLow = true ∨ s.line.dtLow = true) → s.line.driveDt = false →
        s.line.freeSince = none → exec .bothWiresHigh s = .next { s with line := { s.line with
          ckLow := false, dtLow := false, driveCk := false, lowAt := none, freeSince := some s.time.now } }) ∧
      (∀ t0, s.line.state = .waiting → s.line.freeSince = some t0 → exec .busFreeTimerExpiry s =
        .next { advanceTo (t0 + busFreeTime s.line) s with line := { s.line with state := .free } }) ∧
      (∀ t0, s.line.state = .fault → s.line.freeSince = some t0 → exec .busFreeTimerExpiry s =
        .next (report .lineRestored .intertrip none none
          { advanceTo (t0 + busFreeTime s.line) s with line := { s.line with state := .free } })) ∧
      (∀ d h, Settled s → s.line.state ≠ .fault → s.line.lowAt = some d →
        exec (.lowTimerExpiry h) s = .next (report .lineFault .intertrip none (some (heldCode h))
          { advanceTo d s with line := { s.line with
            state := .fault, freeSince := none, lowAt := none, clocks := 0, heard := [], inFlight := [], accepted := none,
            phaseAt := none, ckLow := h ≠ .dt, dtLow := h ≠ .ck, driveCk := false, driveDt := false,
            queue := match s.line.state, s.line.queue with
              | .sending, e :: rest => { e with changed := false } :: rest
              | _, q => q
            counters := { s.line.counters with faults := bump s.line.counters.faults } } }))) ∧
  (∀ s : State, s.line.state ≠ .sending → s.line.state ≠ .fault →
      let counted := if s.line.state = .receiving ∧ 15 ≤ s.line.clocks then s.line.counters
        else { s.line.counters with checkErrors := bump s.line.counters.checkErrors }
      let stopped : State := { s with line := { s.line with
        state := .waiting, freeSince := some s.time.now, lowAt := none, clocks := 0, heard := [], inFlight := [],
        accepted := none, phaseAt := none, ckLow := false, dtLow := false, driveCk := false, driveDt := false,
        counters := counted } }
      let started : State := { s with line := { s.line with
        state := .receiving, freeSince := none, lowAt := some (s.time.now + 2 * Config.unitsPerMs), clocks := 0,
        heard := [], inFlight := [], ckLow := false, dtLow := true, driveCk := false, driveDt := false, accepted := none,
        phaseAt := none, counters := counted } }
      exec (.messageAbandoned false) s = .next stopped ∧ exec (.messageAbandoned true) s = .next started ∧
      (s.line.state = .receiving → s.line.ckLow = false → s.line.dtLow = false →
        exec (.lineLowEvent .dt) s = .next started) ∧
      (s.line.state = .receiving → s.line.ckLow = false → s.line.dtLow = true → s.line.driveDt = false →
        exec .bothWiresHigh s = .next stopped)) ∧
  (∀ s : State, Settled s → s.line.state = .receiving →
      let low := some (s.line.lowAt.getD (s.time.now + 2 * Config.unitsPerMs))
      (s.line.ckLow = false → s.line.driveCk = false → s.line.clocks ≠ 14 → (s.line.clocks = 15 → s.line.accepted = none) →
        s.line.driveDt = false →
        exec (.lineLowEvent .ck) s = .next { s with line := { s.line with
          clocks := s.line.clocks + 1, ckLow := true, driveCk := false, lowAt := low, freeSince := none } }) ∧
      (s.line.ckLow = true → s.line.dtLow = false → exec (.lineLowEvent .dt) s = .next { s with line := { s.line with
        dtLow := true, lowAt := low, freeSince := none } }) ∧
      (∀ bit ends, s.line.heard.length < s.line.clocks → s.line.clocks ≤ 14 → s.line.heard.length ≠ 13 →
        s.line.driveDt = false → exec (.intertripMessageReceived (.sample bit) ends) s = .next { s with line := { s.line with
          heard := s.line.heard ++ [bit], ckLow := false, dtLow := !bit, freeSince := none,
          lowAt := if bit then none else low } }) ∧
      (∀ bit ends, 15 ≤ s.line.clocks → ∃ t, exec (.intertripMessageReceived (.sample bit) ends) s = .next t ∧
        t.line.state = .receiving ∧ t.line.heard = s.line.heard ∧ t.line.counters = s.line.counters))

/-- R74, R67: the head entry's message is started in FREE: the start on DT, and then the clocks, each with its bit from the fall of CK;
in clock 15 DT is released, and it is low again for the stop.
R66, R70: as a contender the part drives CK low for its own low time of 50 µs from the fall of CK, whoever made it, and its
own high time of 50 µs runs from CK's rise (a sample shows a rise 25 µs back); its first clock is due 50 µs after its start.
R75: at its own sample, the other value of the bit it drove is arbitration lost; a clock that the attempt has passed cannot be
lost. Arbitration lost leaves the entry, stops driving, and goes on receiving the winner's message, judged when its
fourteen bits are read.
R77: the end of an attempt counts it, and removes or keeps the entry by the acknowledge slot, the retry count and the
change mark.
That an attempt may be followed as its start and its end only, and that an event which shows CK high ends this part's low
time, are the model's choices (notes/assumptions/21; the moments at which timers run out: 44). -/
def Obligations.SendingAttempts : Prop :=
  (∀ (e : TxEntry) (rest : List TxEntry) (s : State), Settled s → s.line.queue = e :: rest →
      let waiting (l : LineCtl) : LineCtl := { l with
        state := .waiting, freeSince := some s.time.now, lowAt := none, clocks := 0, heard := [], inFlight := [],
        accepted := none, phaseAt := none, ckLow := false, dtLow := false, driveCk := false, driveDt := false }
      let sent := { s.line.counters with sent := bump s.line.counters.sent }
      let retries := match s.line.table with
        | none => 0
        | some t => t.retry
      (s.line.state = .free → s.line.ckLow = false → s.line.lowAt = none → exec .intertripMessageStart s =
        .next { s with line := { s.line with
          state := .sending, clocks := 0, heard := [], inFlight := messageBits e.code e.kind, accepted := none,
          phaseAt := some (s.time.now + 50 * Config.unitsPerUs), driveCk := false, driveDt := true, dtLow := true, freeSince := none, lowAt := some (s.time.now + 2 * Config.unitsPerMs) } }) ∧
      (s.line.state = .sending → ∀ n : Fin 14, s.line.clocks ≤ n.val + 1 →
        let driven := s.line.inFlight.getD n.val true
        let lost : State := { s with line := { s.line with
          state := .receiving, clocks := n.val + 1, heard := s.line.inFlight.take n.val ++ [!driven], inFlight := [],
          ckLow := false, dtLow := driven, driveCk := false, driveDt := false, accepted := none, phaseAt := none,
          freeSince := none,
          lowAt := if driven then some (s.line.lowAt.getD (s.time.now + 2 * Config.unitsPerMs)) else none,
          queue := { e with changed := false } :: rest,
          counters := { s.line.counters with losses := bump s.line.counters.losses } } }
        (s.line.inFlight.length = 14 → n.val < 13 → exec (.arbitrationLost n) s = .next lost) ∧
        (s.line.inFlight.length = 14 → n.val = 13 → exec (.arbitrationLost n) s = .next (judgeBits lost.line.heard lost)) ∧
        (∀ ends, s.line.clocks = n.val + 1 → exec (.intertripMessageReceived (.sample (!driven)) ends) s =
          exec (.arbitrationLost n) s)) ∧
      (s.line.state = .sending → ∀ n : Fin 14, n.val + 1 < s.line.clocks → exec (.arbitrationLost n) s = .next s) ∧
      (s.line.state = .sending → e.changed = true → ∀ ack, exec (.sendAttemptEnd ack) s = .next { s with
        line := waiting { s.line with
          queue := { e with attempts := 0, changed := false } :: rest,
          counters := if ack then { sent with acked := bump sent.acked } else sent } }) ∧
      (s.line.state = .sending → e.changed = false → exec (.sendAttemptEnd true) s = .next { s with
        line := waiting { s.line with queue := rest, counters := { sent with acked := bump sent.acked } } }) ∧
      (s.line.state = .sending → e.changed = false → e.attempts + 1 < 1 + retries →
        exec (.sendAttemptEnd false) s = .next { s with
          line := waiting { s.line with queue := { e with attempts := e.attempts + 1 } :: rest, counters := sent } }) ∧
      (s.line.state = .sending → e.changed = false → 1 + retries ≤ e.attempts + 1 →
        exec (.sendAttemptEnd false) s = .next (report .unanswered .intertrip (some (kindCause e.kind)) (some e.code.toNat)
          { s with line := waiting { s.line with
            queue := rest, counters := { sent with unanswered := bump sent.unanswered } } }))) ∧
  (∀ s : State, Settled s → s.line.state = .sending →
      let n := s.line.clocks + 1
      let bit (k : Nat) : Bool := s.line.inFlight.getD (k - 1) true
      let low := some (s.line.lowAt.getD (s.time.now + 2 * Config.unitsPerMs))
      let drives := (n ≤ 14 && !bit n) || n = 16
      (s.line.ckLow = false → exec (.lineLowEvent .ck) s = .next { s with line := { s.line with
        clocks := n, ckLow := true, driveCk := true, driveDt := drives, phaseAt := some (s.time.now + 50 * Config.unitsPerUs),
        dtLow := drives || (s.line.dtLow && !s.line.driveDt), lowAt := low, freeSince := none } }) ∧
      (∀ ends, 1 ≤ s.line.clocks → s.line.clocks ≤ 14 → s.line.driveDt = !bit s.line.clocks →
        exec (.intertripMessageReceived (.sample (bit s.line.clocks)) ends) s = .next { s with line := { s.line with
          ckLow := false, driveCk := false, dtLow := s.line.driveDt, freeSince := none,
          phaseAt := if s.line.ckLow then some (s.time.now + 25 * Config.unitsPerUs) else s.line.phaseAt
          lowAt := if s.line.driveDt then low else none } }) ∧
      (s.line.ckLow = true → s.line.driveDt = false → exec .bothWiresHigh s = .next { s with line := { s.line with
        ckLow := false, dtLow := false, driveCk := false, lowAt := none, freeSince := none,
        phaseAt := if s.line.clocks < 16 then some (s.time.now + 50 * Config.unitsPerUs) else none } }))

/-- R78, R79: an enqueue is ignored without an enabled table or a section; it joins the tail when the section has no
entry; an entry of the section keeps its place, and its kind is replaced unless it is the same or a TRIP meets HOLD,
with the mark set when the entry is in flight. -/
def Obligations.Enqueues : Prop :=
  ∀ (f : Fin 8) (k : Kind) (s : State),
    ((∀ t, s.line.table = some t → t.enable = false ∨ t.sections[f] = 0) → enqueue f k s = s) ∧
    (∀ t, s.line.table = some t → t.enable = true → t.sections[f] ≠ 0 →
      let code := t.sections[f]
      ((∀ e ∈ s.line.queue, e.code ≠ code) → enqueue f k s =
        { s with line := { s.line with queue := s.line.queue ++ [⟨code, k, 0, false⟩] } }) ∧
      (∀ pre e post, s.line.queue = pre ++ e :: post → (∀ x ∈ pre, x.code ≠ code) → e.code = code →
        enqueue f k s = { s with line := { s.line with queue := pre ++
          (if e.kind = k ∨ (e.kind = .trip ∧ k = .hold) then e
           else { e with kind := k, attempts := 0, changed := pre = [] ∧ s.line.state = .sending }) :: post } }))

/-! ## Reclose sequences (Chapter 5) -/

/-- R88, R89: FMf reported OPEN after a trip starts a sequence: the noted trip is taken, a is 0, the limit is the
plan's, and the sequence waits its first dead time, in HELD when the hold flag is set; CHANNEL_LOSS and a limit of 0
lock it out. A dead time that the plan does not have is a free value (notes/assumptions/37).
R101, R102: FMf reported OPEN in RECLAIM or CLOSING with a noted trip makes the retrip step: LOCKOUT for CHANNEL_LOSS and with a
at the limit, and otherwise a wait with dead_time[a].
R86, R88: an uncommanded OPEN of FMf in IDLE_CLOSED without a noted trip starts one with cause EXTERNAL; every start of a
feeder in service is reported SEQUENCE_START with its cause and its limit, and one of a feeder that is not in service, or has
no plan, ends in IDLE_OPEN with no report. Any other notice is followed: CLOSED takes IDLE_OPEN to IDLE_CLOSED, OPEN takes
IDLE_CLOSED to IDLE_OPEN, and the rest leave the idle states as they are.
R89, R90, R92: FMf reported CLOSED in a wait abandons the sequence.
The moment at which the dead time ends is the model's choice (notes/assumptions/44). -/
def Obligations.SequenceStarts : Prop :=
  (∀ (f : Fin 8) (old : Position) (mark : Bool) (cause : Cause) (p : Plan) (s : State),
      seqIdle (s.seq f).state = true → (s.seq f).noted = some cause → inService (s.ev f) = true →
      (s.seq f).plan = some p →
      let t := mainNotice f old .opened mark s
      (t.seq f).attempts = 0 ∧ (t.seq f).limit = p.limit ∧ (t.seq f).noted = none ∧
      (cause = .channelLoss → (t.seq f).state = .lockout ∧ (t.seq f).lockCause = some .channelLoss) ∧
      (cause ≠ .channelLoss → p.limit = 0 → (t.seq f).state = .lockout ∧ (t.seq f).lockCause = some .noAttempts) ∧
      (cause ≠ .channelLoss → p.limit ≠ 0 → (s.seq f).hold = true → (t.seq f).state = .held) ∧
      (cause ≠ .channelLoss → p.limit ≠ 0 → (s.seq f).hold = false → (t.seq f).state = .deadTime ∧
        (t.seq f).timerAt = some (s.time.now + p.dead.getD 0 (Config.deadTimeBeyond 0) * Config.unitsPerMs)) ∧
      (∀ g, g ≠ f → t.seq g = s.seq g) ∧ t.devs = s.devs) ∧
  (∀ (f : Fin 8) (old : Position) (mark : Bool) (cause : Cause) (p : Plan) (s : State),
      ((s.seq f).state = .reclaim ∨ (s.seq f).state = .closing) → (s.seq f).noted = some cause →
      (s.seq f).plan = some p →
      let t := mainNotice f old .opened mark s
      let a := (s.seq f).attempts
      (t.seq f).attempts = a ∧ (t.seq f).limit = (s.seq f).limit ∧ (t.seq f).noted = none ∧
      (cause = .channelLoss → (t.seq f).state = .lockout ∧ (t.seq f).lockCause = some .channelLoss) ∧
      (cause ≠ .channelLoss → (s.seq f).limit ≤ a → (t.seq f).state = .lockout ∧ (t.seq f).lockCause = some .retrip) ∧
      (cause ≠ .channelLoss → a < (s.seq f).limit → (s.seq f).hold = true → (t.seq f).state = .held) ∧
      (cause ≠ .channelLoss → a < (s.seq f).limit → (s.seq f).hold = false → (t.seq f).state = .deadTime ∧
        (t.seq f).timerAt = some (s.time.now + p.dead.getD a (Config.deadTimeBeyond a) * Config.unitsPerMs)) ∧
      (∀ g, g ≠ f → t.seq g = s.seq g) ∧ t.devs = s.devs) ∧
  (∀ (f : Fin 8) (old : Position) (mark : Bool) (s : State),
      ((s.seq f).state = .deadTime ∨ (s.seq f).state = .held ∨ (s.seq f).state = .waitBus) →
      mainNotice f old .closed mark s = report .abandoned (.feeder f) (some 1) none (s.updSeq f fun q => { q with
        state := .idleClosed, timerAt := none, busWaitAt := none, waitStep := none, purpose := none,
        backingOff := false, attempts := 0, limit := (planFor f s).limit })) ∧
  (∀ (f : Fin 8) (old new : Position) (mark : Bool) (p : Plan) (s : State),
      seqIdle (s.seq f).state = true → (s.seq f).plan = some p →
      let q := s.seq f
      let t := mainNotice f old new mark s
      let left : Sequencer := { q with
        timerAt := none, busWaitAt := none, waitStep := none, purpose := none, backingOff := false, attempts := 0,
        limit := p.limit }
      let starts := new = .opened ∧ (q.noted ≠ none ∨ (q.state = .idleClosed ∧ mark = true))
      let cause := match q.noted with
        | none => 5
        | some c => sequenceStartCause (some c)
      let started := report .sequenceStart (.feeder f) (some cause) (some (p.limit : Int))
        (s.updSeq f fun q => { q with attempts := 0, limit := p.limit, noted := none })
      (starts → inService (s.ev f) = false → t = s.updSeq f fun _ => { left with state := .idleOpen, noted := none }) ∧
      (starts → inService (s.ev f) = true → q.noted = some .channelLoss → t = lockout f .channelLoss started) ∧
      (starts → inService (s.ev f) = true → q.noted ≠ some .channelLoss → p.limit = 0 →
        t = lockout f .noAttempts started) ∧
      (starts → inService (s.ev f) = true → q.noted ≠ some .channelLoss → p.limit ≠ 0 → q.hold = true →
        t = started.updSeq f fun _ => { left with state := .held, noted := none }) ∧
      (starts → inService (s.ev f) = true → q.noted ≠ some .channelLoss → p.limit ≠ 0 → q.hold = false →
        t = started.updSeq f fun _ => { left with
          state := .deadTime, noted := none
          timerAt := some (s.time.now + p.dead.getD 0 (Config.deadTimeBeyond 0) * Config.unitsPerMs) }) ∧
      (q.state = .idleOpen → new = .closed → t = s.updSeq f fun _ => { left with state := .idleClosed, noted := none }) ∧
      (q.state = .idleClosed → new = .opened → ¬ starts → t = s.updSeq f fun _ => { left with state := .idleOpen }) ∧
      (q.state = .idleOpen → new ≠ .closed → ¬ starts → t = s) ∧
      (q.state = .idleClosed → new ≠ .opened → t = s)) ∧
  (∀ (f : Fin 8) (old : Position) (mark : Bool) (s : State), seqIdle (s.seq f).state = true → (s.seq f).plan = none →
      ((s.seq f).noted ≠ none ∨ ((s.seq f).state = .idleClosed ∧ mark = true)) →
      let t := mainNotice f old .opened mark s
      (t.seq f).state = .idleOpen ∧ (t.seq f).attempts = 0 ∧ (t.seq f).noted = none ∧ t = { s with seqs := t.seqs } ∧
        ∀ g, g ≠ f → t.seq g = s.seq g)

/-- R90, R93: what the test start does, at the end of the dead time: HELD, a wait for the bus, NO_PROTECTION, or the
FTf CLOSE that begins the test, locked out when it is refused. A line that is live is reported with outcome LIVE and the
line reading, and the sequence goes on to the CLOSING entry checks, FTf and the attempt count as they were.
That the expiry moves the time base on, and the moments at which timers run out, are the model's choices
(notes/assumptions/3, 44). -/
def Obligations.DeadTimeEnds : Prop :=
  ∀ (f : Fin 8) (d : Nat) (bus line : Fin 24) (s : State), Settled s → (s.seq f).state = .deadTime →
    (s.seq f).timerAt = some d → busChannel s = some bus → lineChannel f s = some line →
    let u := advanceTo d s
    let good := (s.chan bus).state = .valid ∧ (planFor f s).uTestMin ≤ (s.chan bus).last.value.toNat
    let live := (s.chan line).state = .valid ∧ (planFor f s).uLive ≤ (s.chan line).last.value.toNat
    ((s.seq f).hold = true → exec (.deadTimeExpiry f) s = .next (enterSeq f .held u)) ∧
    ((s.seq f).hold = false → ¬ good → exec (.deadTimeExpiry f) s = .next ((enterSeq f .waitBus u).updSeq f fun q =>
      { q with waitStep := some .test
               busWaitAt := some (u.time.now + 1000 * (planFor f s).busWait * Config.unitsPerMs) })) ∧
    ((s.seq f).hold = false → good → (s.ev f).state = .degraded →
      exec (.deadTimeExpiry f) s = .next (lockout f .noProtection u)) ∧
    ((s.seq f).hold = false → good → (s.ev f).state ≠ .degraded → live →
      let reading := (s.chan line).last.value.toNat
      exec (.deadTimeExpiry f) s = .next (closingEntry f (report .testResult (.feeder f) (some 3) (some (reading : Int))
        (u.updSeq f fun q => { q with
          lastTest := some ⟨.live, none, none, some reading, u.time.day, u.time.micros, u.time.unset⟩ })))) ∧
    ((s.seq f).hold = false → good → (s.ev f).state ≠ .degraded → ¬ live → closeRefused (.ft f) s = true →
      exec (.deadTimeExpiry f) s = .next (lockout f .closeRefused u)) ∧
    ((s.seq f).hold = false → good → (s.ev f).state ≠ .degraded → ¬ live → closeRefused (.ft f) s = false →
      ∃ t, exec (.deadTimeExpiry f) s = .next t ∧ (t.seq f).state = .testing ∧ (t.dev (.ft f)).cmd = .toClose ∧
        (t.seq f).attempts = (s.seq f).attempts)

/-- R94, R91, R102, R92: the other timers of a sequence: settle time, hold time, reclaim time and bus wait.
R103: what the lockout that ends a bus wait, and every other, does: the sequence timer and the bus-wait timer stop, the sums
and counts are 0, the cause is set and the noted trip cleared, with the hold, the attempt count and the limit kept; LOCKOUT is
reported with the cause and the attempt count, and a HOLD is enqueued; nothing else changes.
That the expiry moves the time base on, and the moments at which the timers end, are the model's choices
(notes/assumptions/3, 44). -/
def Obligations.SequenceTimers : Prop :=
  (∀ (f : Fin 8) (d : Nat) (s : State), Settled s →
    let u := advanceTo d s
    ((s.seq f).state = .testing → (s.seq f).timerAt = some d → channelValid (busChannel s) s = true →
      channelValid (lineChannel f s) s = true →
      exec (.settleTimerExpiry f) s = .next ((enterSeq f .measuring u).updSeq f fun q =>
        { q with busSum := 0, busCount := 0, lineSum := 0, lineCount := 0 })) ∧
    ((s.seq f).state = .testing → (s.seq f).timerAt = some d →
      ¬ (channelValid (busChannel s) s = true ∧ channelValid (lineChannel f s) s = true) →
      ∃ t, exec (.settleTimerExpiry f) s = .next t ∧ (t.seq f).state = .testClear ∧
        (t.seq f).purpose = some (.outcome .measurementLost)) ∧
    ((s.seq f).state ≠ .held → (s.seq f).holdAt = some d →
      exec (.holdTimerExpiry f) s = .next (u.updSeq f fun q => { q with hold := false, holdAt := none })) ∧
    ((s.seq f).state = .held → (s.seq f).holdAt = some d →
      exec (.holdTimerExpiry f) s = .next (testStart f (u.updSeq f fun q => { q with hold := false, holdAt := none }))) ∧
    ((s.seq f).state = .reclaim → (s.seq f).timerAt = some d →
      exec (.reclaimExpiry f) s = .next (enqueue f .release
        (report .recloseSuccess (.feeder f) none (some (s.seq f).attempts) (enterIdle f .idleClosed u)))) ∧
    ((s.seq f).state = .waitBus → (s.seq f).busWaitAt = some d →
      exec (.busWaitExpiry f) s = .next (lockout f .busLow u))) ∧
  (∀ (f : Fin 8) (cause : LockoutCause) (s : State), lockout f cause s = { s with
      seqs := s.seqs.set f { s.seq f with
        state := .lockout, timerAt := none, busWaitAt := none, waitStep := none, purpose := none, backingOff := false,
        busSum := 0, busCount := 0, lineSum := 0, lineCount := 0, lockCause := some cause, noted := none }
      reports := (report .lockout (.feeder f) (some (lockoutCode cause)) (some (s.seq f).attempts) s).reports
      line := (enqueue f .hold s).line })

/-- R95: an arrival on the bus or the line-voltage channel in MEASURING: one that leaves its channel not VALID loses the
measurement; another adds its own instant, when it is usable and the channel's count is below 64, to each of the sums the
channel has, and otherwise nothing.
R96: the reading, of whichever channel, that brings both counts to 64 ends the measurement: BUS_LOW below U_test_min, LIVE with U_B
not above U_L, and otherwise HEALTHY or FAULTED as R reaches R_min or not. Every outcome is reported, FTf is asked to open and
the sequence is in TEST_CLEAR.
R92: in WAIT_BUS an arrival on the bus channel that is VALID after filing, with a usable own instant at or above U_test_min, ends
the wait, and the waiting step resumes; any other changes nothing. R93: what the TESTING entry check then does.
That the copy taken is the oldest of a queue is the model's choice (notes/assumptions/1). -/
def Obligations.MeasurementWorkedOut : Prop :=
  (∀ (f : Fin 8) (k : Copy) (rest : List Copy) (s : State), Settled s →
      (s.seq f).inbox = k :: rest → (s.seq f).state = .measuring →
      let q : Sequencer := { s.seq f with inbox := rest }
      let bus := busChannel s = some k.chan
      let line := lineChannel f s = some k.chan
      let adds (mine : Bool) (count : Nat) : Bool := mine && usable k.own && decide (count < 64)
      let v := k.own.value.toNat
      let q' : Sequencer := { q with
        busSum := if adds bus q.busCount then q.busSum + v else q.busSum
        busCount := if adds bus q.busCount then q.busCount + 1 else q.busCount
        lineSum := if adds line q.lineCount then q.lineSum + v else q.lineSum
        lineCount := if adds line q.lineCount then q.lineCount + 1 else q.lineCount }
      let p := planFor f s
      let ended (t : State) (o : TestOutcome) (r uB uL : Option Nat) (value : Option Int) : Prop :=
        (t.seq f).state = .testClear ∧ (t.seq f).purpose = some (.outcome o) ∧
        (t.seq f).attempts = q.attempts ∧ (t.seq f).inbox = rest ∧
        (t.seq f).lastTest = some ⟨o, r, uB, uL, s.time.day, s.time.micros, s.time.unset⟩ ∧
        ((s.dev (.ft f)).addr ≠ none → (t.dev (.ft f)).cmd = .toOpen) ∧
        ((s.dev (.ft f)).addr ≠ none → (s.dev (.ft f)).cmd = .none → (t.dev (.ft f)).requester = some .sequencer ∧
          t.reports = (report .testResult (.feeder f) (some (outcomeCode o)) value s).reports) ∧
        (∀ g, g ≠ f → t.seq g = s.seq g) ∧ t.evs = s.evs
      (¬ bus → ¬ line → exec (.sequencerArrival f) s = .next (s.updSeq f fun _ => q)) ∧
      ((bus ∨ line) → k.after ≠ .valid → (s.dev (.fm f)).cmd ≠ .toClose →
        ∃ t, exec (.sequencerArrival f) s = .next t ∧ ended t .measurementLost none none none none) ∧
      ((bus ∨ line) → k.after = .valid → ¬ (q'.busCount = 64 ∧ q'.lineCount = 64) →
        exec (.sequencerArrival f) s = .next (s.updSeq f fun _ => q')) ∧
      ((bus ∨ line) → k.after = .valid → q'.busCount = 64 → q'.lineCount = 64 → (s.dev (.fm f)).cmd ≠ .toClose →
        let uB := q'.busSum / 64
        let uL := q'.lineSum / 64
        let r := min (p.rTest * uL % 4294967296 / (uB - uL)) 65535
        ∃ t, exec (.sequencerArrival f) s = .next t ∧
          (uB < p.uTestMin → ended t .busLow none (some uB) (some uL) (some uB)) ∧
          (p.uTestMin ≤ uB → uB ≤ uL → ended t .live none (some uB) (some uL) (some uL)) ∧
          (p.uTestMin ≤ uB → uL < uB →
            ended t (if p.rMin ≤ r then .healthy else .faulted) (some r) (some uB) (some uL) (some r)))) ∧
  (∀ (f : Fin 8) (k : Copy) (rest : List Copy) (s : State), Settled s →
      (s.seq f).inbox = k :: rest → (s.seq f).state ≠ .measuring →
      let took := s.updSeq f fun q => { q with inbox := rest }
      let ends := busChannel s = some k.chan ∧ k.after = .valid ∧ usable k.own = true ∧
        (planFor f s).uTestMin ≤ k.own.value.toNat
      (((s.seq f).state ≠ .waitBus ∨ ¬ ends) → exec (.sequencerArrival f) s = .next took) ∧
      ((s.seq f).state = .waitBus → ends → (s.seq f).waitStep = some .test →
        exec (.sequencerArrival f) s = .next (testingEntry f took)) ∧
      ((s.seq f).state = .waitBus → ends → (s.seq f).waitStep = some .close →
        exec (.sequencerArrival f) s = .next (closingEntry f took))) ∧
  (∀ (f : Fin 8) (line : Fin 24) (s : State), lineChannel f s = some line →
      let u := testingEntry f s
      let reading := (s.chan line).last.value.toNat
      let live := (s.chan line).state = .valid ∧ (planFor f s).uLive ≤ reading
      ((s.ev f).state = .degraded → u = lockout f .noProtection s) ∧
      ((s.ev f).state ≠ .degraded → live → u = closingEntry f (report .testResult (.feeder f) (some 3)
        (some (reading : Int)) (s.updSeq f fun q => { q with
          lastTest := some ⟨.live, none, none, some reading, s.time.day, s.time.micros, s.time.unset⟩ }))) ∧
      ((s.ev f).state ≠ .degraded → ¬ live → closeRefused (.ft f) s = true → u = lockout f .closeRefused s) ∧
      ((s.ev f).state ≠ .degraded → ¬ live → closeRefused (.ft f) s = false →
        u.seq f = { s.seq f with
          state := .testing, timerAt := none, busWaitAt := none, waitStep := none, purpose := none,
          backingOff := false } ∧
        (u.dev (.ft f)).cmd = .toClose ∧ (∀ e, e ≠ .ft f → u.dev e = s.dev e) ∧ u.evs = s.evs))

/-- R104, R105, R106: the operator's requests on a feeder. -/
def Obligations.OperatorOnFeeder : Prop :=
  ∀ (src tag : Byte) (f : Fin 8) (s : State), Manages src s → Settled s →
    let g := goodFrame s
    let target := byteOf (f.val + 1)
    ((s.dev (.fm f)).addr = none →
      exec (.operateOpen src tag target []) s = .next (answered src tag .refused .state [] g)) ∧
    ((s.dev (.fm f)).addr ≠ none → (s.seq f).state ≠ .lockout → (s.dev (.fm f)).cmd ≠ .toOpen →
      ∃ t, exec (.operateOpen src tag target []) s = .next t ∧ (t.dev (.fm f)).cmd = .toOpen ∧
        (t.dev (.fm f)).requester = some .operator ∧ (t.seq f).state = .idleOpen ∧ (t.seq f).attempts = 0 ∧
        (t.seq f).noted = none ∧ (t.seq f).hold = (s.seq f).hold ∧ (t.seq f).holdAt = (s.seq f).holdAt ∧
        t.line = s.line ∧ t.rect = s.rect) ∧
    (¬ ((s.seq f).state = .idleOpen ∧ (s.seq f).hold = false ∧ inService (s.ev f) = true) →
      exec (.operateClose src tag target []) s = .next (answered src tag .refused .state [] g)) ∧
    ((s.seq f).state = .idleOpen → (s.seq f).hold = false → inService (s.ev f) = true →
      exec (.operateClose src tag target []) s = .next (answered src tag .done .none [] (testStart f
        (report .sequenceStart (.feeder f) (some 6) (some 1)
          (g.updSeq f fun q => { q with attempts := 0, limit := 1, noted := none }))))) ∧
    (¬ ((s.seq f).state = .lockout ∧ (s.dev (.fm f)).pos = .opened) →
      exec (.resetLockout src tag target []) s = .next (answered src tag .refused .state [] g)) ∧
    ((s.seq f).state = .lockout → (s.dev (.fm f)).pos = .opened →
      ∃ t, exec (.resetLockout src tag target []) s = .next t ∧ (t.seq f).state = .idleOpen ∧
        (t.seq f).attempts = 0 ∧ (t.seq f).limit = (planFor f s).limit ∧ (t.seq f).lockCause = none ∧
        (t.seq f).hold = (s.seq f).hold ∧ (t.seq f).holdAt = (s.seq f).holdAt ∧
        (∀ d, (t.dev d).flag = if (d = .fm f ∨ d = .ft f) ∧ (s.dev d).pos = .opened ∧ (s.dev d).cmd = .none then .none
          else (s.dev d).flag) ∧
        t.line = (enqueue f .release s).line ∧ t.rect = s.rect)

/-! ## The rectifier group (Chapter 6) -/

/-- R125, R126: a positive-going crossing on a VALID U_ab channel, between the own instant and the most recent usable slot
before it, 1 to 7 instants back, and at least 100 instants after the last one: its time is interpolated and counted, and in UNLOCKED and LOCKING it moves the tracker, TRACKER_LOCKED being reported at the
fourth good period. The cycle sums are set to 0.
R126, R127, R128: in LOCKED a good period gives P256 and the steps of a crossing that lies back by the rest of the way; a
period out of range takes the tracker to LOCKING with TRACKER_UNLOCKED, and a firing rectifier trips.
R125, R127: a U_ab arrival that gives no crossing (an own instant that is not usable or below 0, no usable slot before it or
one at or above 0, or fewer than 100 instants since the last crossing) raises the instant count by 1 + m; a LOCKED tracker
more than 1.25 periods past the last crossing unlocks, with TRACKER_UNLOCKED, and in a firing state the rectifier trips; a
LOCKING one unlocks past 56888, with no report.
R125, R127: an arrival after which the channel is not VALID gives no crossing, and takes the tracker out of LOCKED with cause
CHANNEL, or out of LOCKING.
That a crossing is looked for before the timeout check, that the oldest copy of a queue is taken, and that the good-period
count is 0 as soon as the tracker is UNLOCKED are the model's (notes/assumptions/17, 1, 41). -/
def Obligations.TrackerArrivals : Prop :=
  (∀ (k : Copy) (rest : List Copy) (t : RectSettings) (b : Nat) (old : Instant) (s : State), Settled s →
      s.rect.uabIn = k :: rest → s.rect.settings = some t → t.uabChan = k.chan → k.after = .valid →
      1 ≤ b → b ≤ 7 → k.hist[7 - b]? = some old → (∀ j, 1 ≤ j → j < b → usable (k.hist.getD (7 - j) ⟨0, .missing⟩) = false) →
      usable old = true → signed old < 0 → usable k.own = true → 0 ≤ signed k.own →
      let n := s.rect.tracker.count + 1 + BitVec.ofNat 32 k.missing
      (∀ c, s.rect.tracker.last = some c → 100 ≤ (n - c.at_).toNat) →
      let f := (256 * (b : Int) * (-signed old) / (signed k.own - signed old)).toNat
      let time := BitVec.ofNat 40 (256 * n.toNat) - BitVec.ofNat 40 (256 * b) + BitVec.ofNat 40 f
      let period := match s.rect.tracker.last with
        | none => 0
        | some c => (time - c.time).toNat
      let good := 37237 ≤ period ∧ period ≤ 45511
      let after (tr : Tracker) (c : FiringCounters) : State := { s with rect := { s.rect with
        uabIn := rest, tracker := { tr with count := n, last := some ⟨time, n⟩ }, sums := CycleSums.zero,
        counters := { c with crossings := bump c.crossings } } }
      (s.rect.tracker.state = .unlocked → exec .trackerArrival s =
        .next (after { s.rect.tracker with state := .locking, goodCount := 0 } s.rect.counters)) ∧
      (s.rect.tracker.state = .locking → good → s.rect.tracker.goodCount + 1 ≠ 4 → exec .trackerArrival s =
        .next (after { s.rect.tracker with p256 := period, goodCount := s.rect.tracker.goodCount + 1 } s.rect.counters)) ∧
      (s.rect.tracker.state = .locking → good → s.rect.tracker.goodCount = 3 → exec .trackerArrival s =
        .next (report .trackerLocked .rectifier none (some period)
          (after { s.rect.tracker with state := .locked, p256 := period, goodCount := 4 } s.rect.counters))) ∧
      (s.rect.tracker.state = .locking → ¬ good → exec .trackerArrival s =
        .next (after { s.rect.tracker with goodCount := 0 }
          { s.rect.counters with rejected := bump s.rect.counters.rejected })) ∧
      (s.rect.tracker.state = .locked → good → exec .trackerArrival s =
        .next (lockedCrossing (256 * b - f) { s with rect := { s.rect with
          uabIn := rest, tracker := { s.rect.tracker with count := n, last := some ⟨time, n⟩, p256 := period },
          counters := { s.rect.counters with crossings := bump s.rect.counters.crossings } } })) ∧
      (s.rect.tracker.state = .locked → ¬ good → s.rect.wait = .none → firing s.rect.state = false →
        exec .trackerArrival s = .next (report .trackerUnlocked .rectifier (some 1) (some (min period 65535))
          (after { s.rect.tracker with state := .locking, goodCount := 0 }
            { s.rect.counters with rejected := bump s.rect.counters.rejected }))) ∧
      (s.rect.tracker.state = .locked → ¬ good → firing s.rect.state = true → ∃ u, exec .trackerArrival s = .next u ∧
        u.rect.state = .tripped ∧ u.rect.gateEn = false ∧ u.rect.schedule = [] ∧
        u.rect.lastTrip = some (Cause.phaseLost, (s.rect.tracker.p256 : Int)) ∧ u.rect.sums = CycleSums.zero ∧
        u.rect.tracker = { s.rect.tracker with state := .locking, goodCount := 0, count := n, last := some ⟨time, n⟩ } ∧
        u.rect.counters = { s.rect.counters with
          crossings := bump s.rect.counters.crossings, rejected := bump s.rect.counters.rejected })) ∧
  (∀ (k : Copy) (rest : List Copy) (t : RectSettings) (c : Crossing) (s : State), Settled s →
      s.rect.uabIn = k :: rest → s.rect.settings = some t → t.uabChan = k.chan → k.after = .valid →
      s.rect.tracker.last = some c →
      let n := s.rect.tracker.count + 1 + BitVec.ofNat 32 k.missing
      let slot (j : Nat) : Instant := k.hist.getD (7 - j) ⟨0, .missing⟩
      let first (b : Nat) : Prop := 1 ≤ b ∧ b ≤ 7 ∧ usable (slot b) = true ∧ ∀ j, 1 ≤ j → j < b → usable (slot j) = false
      (usable k.own = false ∨ signed k.own < 0 ∨ (n - c.at_).toNat < 100 ∨
        (∀ j, 1 ≤ j → j ≤ 7 → usable (slot j) = false) ∨ (∃ b, first b ∧ 0 ≤ signed (slot b))) →
      let past := (BitVec.ofNat 40 (256 * n.toNat) - c.time).toNat
      let p := s.rect.tracker.p256
      let after (tr : Tracker) : State := { s with rect := { s.rect with uabIn := rest, tracker := { tr with count := n } } }
      let unlocked := after { s.rect.tracker with state := .unlocked, goodCount := 0 }
      (s.rect.tracker.state = .unlocked → exec .trackerArrival s = .next (after s.rect.tracker)) ∧
      (s.rect.tracker.state = .locking → past ≤ 56888 → exec .trackerArrival s = .next (after s.rect.tracker)) ∧
      (s.rect.tracker.state = .locking → 56888 < past → exec .trackerArrival s = .next unlocked) ∧
      (s.rect.tracker.state = .locked → past ≤ p + p / 4 → exec .trackerArrival s = .next (after s.rect.tracker)) ∧
      (s.rect.tracker.state = .locked → p + p / 4 < past → s.rect.wait = .none → firing s.rect.state = false →
        exec .trackerArrival s = .next (report .trackerUnlocked .rectifier (some 2) (some p) unlocked)) ∧
      (s.rect.tracker.state = .locked → p + p / 4 < past → firing s.rect.state = true → ∃ u, exec .trackerArrival s = .next u ∧
        u.rect.state = .tripped ∧ u.rect.gateEn = false ∧ u.rect.schedule = [] ∧
        u.rect.lastTrip = some (.phaseLost, (p : Int)) ∧ u.rect.tracker.state = .unlocked)) ∧
  (∀ (k : Copy) (rest : List Copy) (t : RectSettings) (s : State), Settled s →
      s.rect.uabIn = k :: rest → s.rect.settings = some t → t.uabChan = k.chan → k.after ≠ .valid →
      let n := s.rect.tracker.count + 1 + BitVec.ofNat 32 k.missing
      let p := s.rect.tracker.p256
      let after (tr : Tracker) : State := { s with rect := { s.rect with uabIn := rest, tracker := { tr with count := n } } }
      let unlocked := after { s.rect.tracker with state := .unlocked, goodCount := 0 }
      (s.rect.tracker.state = .unlocked → exec .trackerArrival s = .next (after s.rect.tracker)) ∧
      (s.rect.tracker.state = .locking → exec .trackerArrival s = .next unlocked) ∧
      (s.rect.tracker.state = .locked → s.rect.wait = .none → firing s.rect.state = false → exec .trackerArrival s =
        .next (report .trackerUnlocked .rectifier (some 3) (some p) unlocked)) ∧
      (s.rect.tracker.state = .locked → firing s.rect.state = true → ∃ u, exec .trackerArrival s = .next u ∧
        u.rect.state = .tripped ∧ u.rect.gateEn = false ∧ u.rect.schedule = [] ∧
        u.rect.lastTrip = some (Cause.phaseLost, (p : Int)) ∧ u.rect.tracker.state = .unlocked))

/-- R133, R134: a regulator step that does not hold, in RUNNING and in STARTING: the averages, the target, the step with its
clamps and the soft start, the current limit, the new α, and the test that ends STARTING; REGULATOR_RESUMED is reported when
the HOLD flag was set, CURRENT_LIMIT when its flag changes, and RUNNING when STARTING ends.
R133: a step with a bus count of 0 or a bus channel that is not VALID holds: α, U_avg and the state are kept, the HOLD flag is
set, and REGULATOR_HOLD is reported when it was clear.
R128, R129, R132, R133: a crossing taken in RUNNING or STARTING by a LOCKED tracker with a good period drops and counts what is
left of the old schedule, makes the regulator's step, places twelve firings by θ_k and t_k from the new α, and sets the
cycle sums to 0; in STOPPING it does so with α held.
R116, R128: a crossing at the end of a deblock wait begins STARTING at α_max, or cancels the wait without DCM CLOSED or a VALID
current channel. In every other state a crossing only drops the schedule and sets the sums to 0.
What I_avg keeps, the late mark's test, the whole-number due times, and the cause of a wait that is cancelled with both
conditions failing are the model's (notes/assumptions/18, 19, 20, 25). -/
def Obligations.RegulatorAndSchedule : Prop :=
  (∀ (t : RectSettings) (s : State), (s.rect.state = .running ∨ s.rect.state = .starting) → s.rect.sums.busCount ≠ 0 →
      (s.chan t.busChan).state = .valid →
      let iRaw : Int := if s.rect.sums.curCount = 0 then 0
        else s.rect.sums.curSum.toInt.tdiv s.rect.sums.curCount.toNat
      let iAvg := max iRaw 0
      let uAvg := s.rect.sums.busSum.toNat / s.rect.sums.busCount.toNat
      let target : Int := t.uSet - ((t.droop : Int) * iAvg).tdiv 1000
      let step := min 500 (max (-500) (-(((target - uAvg) * t.gain).tdiv 64)))
      let limited := (t.iLim : Int) ≤ iAvg
      let change := if limited then max step 50 else step
      let soft := if s.rect.state = .starting then max change (-100) else change
      let alpha := (min (t.alphaMax : Int) (max t.alphaMin (s.rect.alpha + soft))).toNat
      let runs := s.rect.state = .starting ∧ (target - 100 ≤ uAvg ∨ alpha = t.alphaMin)
      ∀ u, u = regulatorStep t s → t.alphaMin ≤ t.alphaMax →
        u.rect.alpha = alpha ∧ u.rect.uAvg = uAvg ∧ u.rect.iAvg = iAvg ∧ u.rect.limitFlag = decide limited ∧
        u.rect.holdFlag = false ∧ u.rect.state = (if runs then .running else s.rect.state) ∧
        u.rect.sums = s.rect.sums ∧
        (let resumed := if s.rect.holdFlag then report .regulatorResumed .rectifier none none s else s
         let told := if s.rect.limitFlag = decide limited then resumed
           else report .currentLimit .rectifier none (some (flagCode (decide limited))) resumed
         u.reports = (if runs then report .running .rectifier none (some alpha) told else told).reports)) ∧
  (∀ (t : RectSettings) (s : State), (s.rect.sums.busCount = 0 ∨ (s.chan t.busChan).state ≠ .valid) →
      let iRaw : Int := if s.rect.sums.curCount = 0 then 0
        else s.rect.sums.curSum.toInt.tdiv s.rect.sums.curCount.toNat
      let held : State := { s with rect := { s.rect with iAvg := iRaw, holdFlag := true } }
      regulatorStep t s =
        if s.rect.holdFlag then held else report .regulatorHold .rectifier none (some t.busChan.val) held) ∧
  (∀ (back : Nat) (t : RectSettings) (s : State), Settled s → s.rect.settings = some t →
      firing s.rect.state = true →
      let u := if s.rect.state = .stopping then s else regulatorStep t (dropFirings s)
      let v := lockedCrossing back s
      v.rect.state = u.rect.state ∧ v.rect.alpha = u.rect.alpha ∧ v.rect.sums = CycleSums.zero ∧
      v.rect.counters.dropped = min (s.rect.counters.dropped + s.rect.schedule.length) 65535 ∧
      v.rect.schedule.length = 12 ∧
      (∀ g : Fin 12, ∃ x, v.rect.schedule[g.val]? = some x ∧ x.gate = g ∧
        (let theta := (((u.rect.alpha : Int) - t.delta + 3000 * g.val) % 36000).toNat
         x.due = (s.time.now : Int) - back * Config.unitsPerP256 +
          ((theta * s.rect.tracker.p256 + 18000) % 4294967296 / 36000 : Nat) * Config.unitsPerP256) ∧
        (x.late = true ↔ x.due < s.time.now))) ∧
  (∀ (back : Nat) (t : RectSettings) (s : State), Settled s → s.rect.settings = some t →
      firing s.rect.state = false →
      let v := lockedCrossing back s
      let kept := { s.rect with
        schedule := [], sums := CycleSums.zero, counters := { s.rect.counters with
          dropped := min (s.rect.counters.dropped + s.rect.schedule.length) 65535 } }
      let waits := s.rect.state = .blocked ∧ s.rect.wait = .crossing
      let ready := (s.dev .dcm).pos = .closed ∧ (s.chan t.curChan).state = .valid
      (¬ waits → v = { s with rect := kept }) ∧
      (waits → ready → v.rect = { kept with
          state := .starting, wait := .none, alpha := t.alphaMax, overCount := 0, holdFlag := false,
          limitFlag := false, gateEn := true, schedule := v.rect.schedule } ∧
        v.reports = (report .started .rectifier none (some t.alphaMax) s).reports ∧ v.devs = s.devs ∧
        v.rect.schedule.length = 12 ∧
        (∀ g : Fin 12, ∃ x, v.rect.schedule[g.val]? = some x ∧ x.gate = g ∧
          (let theta := (((t.alphaMax : Int) - t.delta + 3000 * g.val) % 36000).toNat
           x.due = (s.time.now : Int) - back * Config.unitsPerP256 +
            ((theta * s.rect.tracker.p256 + 18000) % 4294967296 / 36000 : Nat) * Config.unitsPerP256))) ∧
      (waits → ¬ ready → v.rect = { kept with wait := .none } ∧
        ((s.dev .dcm).cmd ≠ .toClose → v.devs = s.devs ∧ v.reports = (report .deblockCancelled .rectifier
          (some (if (s.dev .dcm).pos = .closed then 2 else 1)) none s).reports) ∧
        ((s.dev .dcm).cmd = .toClose → (s.dev .dcm).addr ≠ none → (v.dev .dcm).cmd = .toOpen)))

/-- R130, R117: the earliest pending firing falls due: in STARTING and RUNNING it is emitted with a pulse of 250 µs, or
suppressed when its gate is high or its last firing is less than a quarter period back; in STOPPING it ends the stop
of firing instead, and step 1 of an ordered stop with it, step 2 beginning.
R130: the end of a gate pulse drives its output low.
That the earliest firing is taken, the time base moving on to it, that a pulse still high when firing stops is cut, and the
moments at which timers run out, are the model's choices (notes/assumptions/3, 19, 40, 44). -/
def Obligations.Firings : Prop :=
  (∀ (x : Firing) (pre post : List Firing) (s : State), Settled s → s.rect.schedule = pre ++ x :: post →
      (∀ y ∈ pre, x.due < y.due) → (∀ y ∈ post, x.due ≤ y.due) →
      let u := advanceTo x.due.toNat s
      let close := s.rect.gates[x.gate] ≠ none ∨ ∃ l, s.rect.lineRec[x.gate] = some l ∧
        x.due - l < ((s.rect.tracker.p256 / 4 * Config.unitsPerP256 : Nat) : Int)
      let left := { s.rect with schedule := pre ++ post }
      ((s.rect.state = .starting ∨ s.rect.state = .running) → close → exec .firingDue s = .next { u with rect :=
        { left with counters := { left.counters with suppressed := bump left.counters.suppressed } } }) ∧
      ((s.rect.state = .starting ∨ s.rect.state = .running) → ¬ close → exec .firingDue s = .next { u with rect :=
        { left with
          gates := left.gates.set x.gate (some (u.time.now + 250 * Config.unitsPerUs))
          lineRec := left.lineRec.set x.gate (some x.due)
          counters := { left.counters with
            emitted := bump left.counters.emitted
            late := if x.late then bump left.counters.late else left.counters.late } } }) ∧
      (s.rect.state = .stopping → exec .firingDue s =
        .next (report .blockDone .rectifier none (some s.rect.alpha) { u with rect := { s.rect with
          state := .blocked, gateEn := false, schedule := [], gates := Vector.replicate 12 none, holdFlag := false,
          limitFlag := false, overCount := 0
          stopStep := if s.rect.stopStep = 1 then 2 else s.rect.stopStep
          window := if s.rect.stopStep = 1 then ⟨0, 0, 0, some (u.time.now + 1000 * Config.unitsPerMs)⟩
            else s.rect.window } }))) ∧
  (∀ (g : Fin 12) (d : Nat) (s : State), s.rect.gates[g] = some d →
      exec (.gatePulseEnd g) s = .next { advanceTo d s with rect := { s.rect with gates := s.rect.gates.set g none } })

/-- R122, R123, R133: an arrival on a VALID rectifier current channel adds its own instant to the current sum and works the
overcurrent count; the fourth overcurrent instant in a row trips a firing rectifier and asks DCM to open.
R123: an arrival after which the rectifier current channel is not VALID trips a firing rectifier with CURRENT_CHANNEL and the
channel number.
R133: an arrival on the bus channel adds its usable own instant to the bus sum, modulo 2^32, and nothing else.
That the copy taken is the oldest of a queue is the model's choice (notes/assumptions/1); so is that an arrival which both takes
the channel out of VALID and is the fourth overcurrent instant in a row trips with CURRENT_CHANNEL and asks nothing of DCM: the
loss is taken before the overcurrent count, an order the manual leaves open (notes/assumptions/7). -/
def Obligations.RectifierCopies : Prop :=
  (∀ (k : Copy) (rest : List Copy) (t : RectSettings) (s : State), Settled s →
      s.rect.curIn = k :: rest → s.rect.settings = some t → t.curChan = k.chan → k.after = .valid →
      s.rect.stopStep ≠ 2 →
      let high := (usable k.own = true ∧ (t.iRMax : Int) ≤ signed k.own) ∨ (k.own.mark = .saturated ∧ 0 < signed k.own)
      let n := if high then (if k.missing = 0 then s.rect.overCount + 1 else 1) else 0
      let sums : CycleSums := if usable k.own then { s.rect.sums with
        curSum := s.rect.sums.curSum + BitVec.ofInt 32 (signed k.own), curCount := s.rect.sums.curCount + 1 }
        else s.rect.sums
      (firing s.rect.state = false → exec .rectCurrentArrival s = .next { s with rect := { s.rect with
        curIn := rest, sums := sums } }) ∧
      (firing s.rect.state = true → n < 4 → exec .rectCurrentArrival s = .next { s with rect := { s.rect with
        curIn := rest, sums := sums, overCount := n } }) ∧
      (firing s.rect.state = true → 4 ≤ n → ∃ u, exec .rectCurrentArrival s = .next u ∧ u.rect.state = .tripped ∧
        u.rect.gateEn = false ∧ u.rect.schedule = [] ∧ u.rect.wait = .none ∧ u.rect.stopStep = 0 ∧
        u.rect.lastTrip = some (.overcurrent, signed k.own) ∧ u.rect.sums = sums ∧
        ((s.dev .dcm).addr ≠ none → (u.dev .dcm).cmd = .toOpen) ∧
        u.reports.occurred[0] = bump s.reports.occurred[0])) ∧
  (∀ (k : Copy) (rest : List Copy) (t : RectSettings) (s : State), Settled s →
      s.rect.curIn = k :: rest → s.rect.settings = some t → t.curChan = k.chan → k.after ≠ .valid →
      firing s.rect.state = true → ∃ u, exec .rectCurrentArrival s = .next u ∧ u.rect.state = .tripped ∧
        u.rect.gateEn = false ∧ u.rect.schedule = [] ∧ u.rect.wait = .none ∧ u.rect.stopStep = 0 ∧
        u.rect.lastTrip = some (Cause.currentChannel, (k.chan.val : Int)) ∧ u.devs = s.devs ∧
        u.reports.occurred[0] = bump s.reports.occurred[0]) ∧
  (∀ (k : Copy) (rest : List Copy) (t : RectSettings) (s : State), s.rect.busIn = k :: rest →
      s.rect.settings = some t → t.busChan = k.chan →
      exec .rectBusArrival s = .next { s with rect := { s.rect with
        busIn := rest
        sums := if usable k.own then { s.rect.sums with
            busSum := s.rect.sums.busSum + BitVec.ofNat 32 k.own.value.toNat, busCount := s.rect.sums.busCount + 1 }
          else s.rect.sums } })

/-- R114, R115: CLOSE_AC and DEBLOCK: refused with nothing changed outside their states and conditions, and when the
Supervisor refuses the CLOSE, DEBLOCK also without adopted settings; a taken CLOSE_AC has the ACM CLOSE outstanding, and a
taken DEBLOCK sets the wait.
R113, R119, R123: what a position notice for ACM does in each state; that it ends an ordered stop short of step 4, and leaves
step 4 to the completion, is the model's reading (notes/assumptions/32). R116, R121: what one for DCM does. -/
def Obligations.CloseAcAndDeblock : Prop :=
  (∀ (src tag : Byte) (s : State), Manages src s →
      let no : Host.Outcome State Fault Refusal := .next (answered src tag .refused .state [] (goodFrame s))
      ((s.rect.state ≠ .off ∨ closeRefused .acm s = true) → exec (.closeAc src tag 9 []) s = no) ∧
      (s.rect.state = .off → closeRefused .acm s = false → ∃ u, exec (.closeAc src tag 9 []) s = .next u ∧
        (u.dev .acm).cmd = .toClose ∧ (∀ d, d ≠ .acm → u.dev d = s.dev d) ∧ u.rect = s.rect) ∧
      (s.rect.settings = none → exec (.deblock src tag 9 []) s = no)) ∧
  (∀ (src tag : Byte) (t : RectSettings) (s : State), Manages src s → s.rect.settings = some t →
      let g := goodFrame s
      let allowed := s.rect.state = .blocked ∧ s.rect.stopStep = 0 ∧ s.rect.tracker.state = .locked ∧
        (s.chan t.curChan).state = .valid ∧ (∀ f, (s.dev (.fm f)).flag ≠ .openFail) ∧ (s.dev .dcm).flag ≠ .openFail
      (¬ allowed → exec (.deblock src tag 9 []) s = .next (answered src tag .refused .state [] g)) ∧
      (allowed → s.rect.wait ≠ .none →
        exec (.deblock src tag 9 []) s = .next (answered src tag .done .none [] g)) ∧
      (allowed → s.rect.wait = .none → (s.dev .dcm).pos = .closed → (s.dev .dcm).cmd = .none →
        exec (.deblock src tag 9 []) s = .next (answered src tag .done .none []
          { g with rect := { g.rect with wait := .crossing } })) ∧
      (allowed → s.rect.wait = .none → ¬ ((s.dev .dcm).pos = .closed ∧ (s.dev .dcm).cmd = .none) →
        closeRefused .dcm s = true → exec (.deblock src tag 9 []) s = .next (answered src tag .refused .state [] g)) ∧
      (allowed → s.rect.wait = .none → ¬ ((s.dev .dcm).pos = .closed ∧ (s.dev .dcm).cmd = .none) →
        closeRefused .dcm s = false → ∃ u, exec (.deblock src tag 9 []) s = .next u ∧ (u.dev .dcm).cmd = .toClose ∧
          (∀ d, d ≠ .dcm → u.dev d = s.dev d) ∧ u.rect = { s.rect with wait := .dcm })) ∧
  (∀ (new : Position) (mark : Bool) (s : State),
      let u := acNotice new mark s
      let opened := report .acOpened .rectifier none (some (positionCode new))
      (s.rect.state = .off → new = .closed → u.rect.state = .blocked ∧ u.rect.gateEn = false ∧ u.devs = s.devs ∧
        u.reports = s.reports) ∧
      (s.rect.state = .off → new = .opened → mark = true → u = opened s) ∧
      (s.rect.state = .off → new ≠ .closed → ¬ (new = .opened ∧ mark = true) → u = s) ∧
      (s.rect.state = .blocked → new = .closed → u = s) ∧
      (s.rect.state = .blocked → new ≠ .closed → u.rect.state = .off ∧ u.rect.gateEn = false ∧ u.rect.wait = .none ∧
        u.rect.stopStep = (if s.rect.stopStep = 4 then 4 else 0) ∧
        (s.rect.wait = .none → u.devs = s.devs ∧
          u.reports = (if mark then (opened s).reports else s.reports)) ∧
        (s.rect.wait ≠ .none → (s.dev .dcm).cmd ≠ .toClose → u.devs = s.devs ∧
          let cancelled := report .deblockCancelled .rectifier (some 4) none s
          u.reports = (if mark then (opened cancelled).reports else cancelled.reports))) ∧
      (firing s.rect.state = true → (new = .opened ∨ new = .travel ∨ new = .faulty) → u.rect.state = .tripped ∧
        u.rect.gateEn = false ∧ u.rect.lastTrip = some (Cause.acOpened, (positionCode new : Int)) ∧ u.devs = s.devs) ∧
      (firing s.rect.state = true → (new = .closed ∨ new = .unknown) → u = s) ∧
      (s.rect.state = .tripped → u = s)) ∧
  (∀ (old new : Position) (s : State),
      let u := dcNotice old new s
      (new = .closed → u = s) ∧
      (new ≠ .closed → firing s.rect.state = true → u.rect.state = .blocked ∧ u.rect.gateEn = false ∧
        u.rect.schedule = [] ∧ u.rect.stopStep = (if s.rect.stopStep = 1 then 2 else s.rect.stopStep) ∧ u.devs = s.devs ∧
        u.reports = (report .dcLost .rectifier none (some (positionCode new)) s).reports) ∧
      (new ≠ .closed → firing s.rect.state = false → ¬ (s.rect.wait = .crossing ∧ old = .closed) → u = s) ∧
      (new ≠ .closed → firing s.rect.state = false → s.rect.wait = .crossing → old = .closed →
        (s.dev .dcm).cmd ≠ .toClose → u = report .deblockCancelled .rectifier (some 1) none
          { s with rect := { s.rect with wait := .none } }))

/-- R117, R118: BLOCK and STOP_FULL, by the rectifier's state; a STOP_FULL in BLOCKED cancels a deblock wait with cause STOP.
R118: in stop step 2 each arrival on the current channel counts its 1 + m instants, the missing ones first, in windows of 160,
with its own value in the sum when it is usable; a window whose average is below I_lim / 50 completes the step, and step 3 asks
DCM to open, failing when it is not assigned; any other full window is followed by a new one, which counts what is left.
R118: an arrival or a state notice in stop step 2 that takes the current channel out of VALID fails the step.
R118, R119, R123: the step timer of stop step 2 runs out: outside OFF and TRIPPED the rectifier trips with
STOP_INCOMPLETE and the step number, and the stop is over.
R120, R60: RESET_RECT: taken in TRIPPED, it clears the failure flags of DCM and ACM that are at rest in OPEN and
goes to BLOCKED or OFF by ACM's position; the last trip and α are kept.
That the step timer's expiry moves the time base on, and the moment at which it runs out, are the model's choices
(notes/assumptions/3, 44). -/
def Obligations.StopAndReset : Prop :=
  (∀ (src tag : Byte) (s : State), Manages src s → GatesSafe s →
      let g := goodFrame s
      ((s.rect.state = .starting ∨ s.rect.state = .running) → exec (.block src tag 9 []) s =
        .next (answered src tag .done .none [] { g with rect := { g.rect with state := .stopping } })) ∧
      (s.rect.state = .stopping → exec (.block src tag 9 []) s = .next (answered src tag .done .none [] g)) ∧
      (firing s.rect.state = false → exec (.block src tag 9 []) s = .next (answered src tag .refused .state [] g)) ∧
      (firing s.rect.state = true → s.rect.stopStep = 0 → exec (.stopFull src tag 9 []) s =
        .next (answered src tag .done .none [] { g with rect := { g.rect with
          state := .stopping, stopStep := 1, window := ⟨0, 0, 0, none⟩ } })) ∧
      (s.rect.state = .blocked → s.rect.stopStep = 0 → s.rect.wait = .none → exec (.stopFull src tag 9 []) s =
        .next (answered src tag .done .none [] { g with rect := { g.rect with
          stopStep := 2, window := ⟨0, 0, 0, some (s.time.now + 1000 * Config.unitsPerMs)⟩ } })) ∧
      (s.rect.state = .blocked → s.rect.stopStep = 0 → s.rect.wait ≠ .none → ∃ t, exec (.stopFull src tag 9 []) s = .next t ∧
        t.rect = { s.rect with
          wait := .none, stopStep := 2, window := ⟨0, 0, 0, some (s.time.now + 1000 * Config.unitsPerMs)⟩ } ∧
        ((s.dev .dcm).cmd ≠ .toClose → t.devs = s.devs ∧
          t.reports = (report .deblockCancelled .rectifier (some 5) none g).reports) ∧
        ((s.dev .dcm).cmd = .toClose → (s.dev .dcm).addr ≠ none → (t.dev .dcm).cmd = .toOpen)) ∧
      ((s.rect.stopStep ≠ 0 ∨ s.rect.state = .off ∨ s.rect.state = .tripped) → exec (.stopFull src tag 9 []) s =
        .next (answered src tag .refused .state [] g))) ∧
  (∀ (k : Copy) (rest : List Copy) (r : RectSettings) (s : State), Settled s → s.rect.curIn = k :: rest →
      s.rect.settings = some r → r.curChan = k.chan → s.rect.stopStep = 2 → s.rect.state = .blocked →
      k.before = .valid → k.after ≠ .valid → ∃ t, exec .rectCurrentArrival s = .next t ∧ t.rect.state = .tripped ∧
        t.rect.stopStep = 0 ∧ t.rect.wait = .none ∧ t.rect.lastTrip = some (Cause.stopIncomplete, 2)) ∧
  (∀ (n : StateNotice) (r : RectSettings) (s : State), s.rect.settings = some r → n.old = .valid → n.new ≠ .valid →
      r.curChan = n.chan → s.rect.stopStep = 2 → s.rect.state = .blocked →
      let u := noticeTo n .rectifier s
      u.rect.state = .tripped ∧ u.rect.stopStep = 0 ∧ u.rect.wait = .none ∧
        u.rect.lastTrip = some (Cause.stopIncomplete, 2)) ∧
  (∀ (k : Copy) (rest : List Copy) (r : RectSettings) (s : State), Settled s → s.rect.curIn = k :: rest →
      s.rect.settings = some r → r.curChan = k.chan → s.rect.stopStep = 2 → s.rect.state = .blocked →
      k.after = .valid → s.rect.window.count < 160 → k.missing < 160 →
      let w := s.rect.window
      let own : Int := if usable k.own then signed k.own else 0
      let one : Nat := if usable k.own then 1 else 0
      let sums : CycleSums := if usable k.own then { s.rect.sums with
        curSum := s.rect.sums.curSum + BitVec.ofInt 32 (signed k.own), curCount := s.rect.sums.curCount + 1 }
        else s.rect.sums
      let quiet (sum : Int) (n : Nat) : Prop := 0 < n ∧ sum.tdiv n < ((r.iLim / 50 : Nat) : Int)
      let go := exec .rectCurrentArrival s
      let on (w' : StopWindow) : State := { s with rect := { s.rect with curIn := rest, sums := sums, window := w' } }
      let done : Prop := ∃ t, go = .next t ∧ t.rect.sums = sums ∧
        ((s.dev .dcm).addr ≠ none → t.rect.stopStep = 3 ∧ t.rect.state = .blocked ∧ (t.dev .dcm).cmd = .toOpen) ∧
        ((s.dev .dcm).addr = none → t.rect.state = .tripped ∧ t.rect.lastTrip = some (Cause.stopIncomplete, 3))
      (w.count + 1 + k.missing < 160 →
        go = .next (on ⟨w.sum + own, w.usable + one, w.count + 1 + k.missing, w.timerAt⟩)) ∧
      (w.count + 1 + k.missing = 160 → quiet (w.sum + own) (w.usable + one) → done) ∧
      (w.count + 1 + k.missing = 160 → ¬ quiet (w.sum + own) (w.usable + one) → go = .next (on ⟨0, 0, 0, w.timerAt⟩)) ∧
      (160 ≤ w.count + k.missing → quiet w.sum w.usable → done) ∧
      (160 ≤ w.count + k.missing → ¬ quiet w.sum w.usable →
        go = .next (on ⟨own, one, w.count + 1 + k.missing - 160, w.timerAt⟩))) ∧
  (∀ (d : Nat) (s : State), Settled s → s.rect.stopStep = 2 → s.rect.window.timerAt = some d →
      s.rect.state ≠ .off → s.rect.state ≠ .tripped →
      ∃ t, exec .stopStepTimerExpiry s = .next t ∧ t.rect.state = .tripped ∧ t.rect.stopStep = 0 ∧
        t.rect.wait = .none ∧ t.rect.lastTrip = some (.stopIncomplete, 2) ∧ t.rect.gateEn = false ∧ t.devs = s.devs ∧
        t.reports.occurred[0] = bump s.reports.occurred[0]) ∧
  (∀ (src tag : Byte) (s : State), Manages src s →
      (s.rect.state ≠ .tripped → exec (.resetRect src tag 9 []) s =
        .next (answered src tag .refused .state [] (goodFrame s))) ∧
      (s.rect.state = .tripped → ∃ t, exec (.resetRect src tag 9 []) s = .next t ∧
        t.rect.state = (if (s.dev .acm).pos = .closed then .blocked else .off) ∧ t.rect.gateEn = false ∧
        t.rect.lastTrip = s.rect.lastTrip ∧ t.rect.alpha = s.rect.alpha ∧ t.rect.tracker = s.rect.tracker ∧
        (∀ d, (t.dev d).flag = if (d = .dcm ∨ d = .acm) ∧ (s.dev d).pos = .opened ∧ (s.dev d).cmd = .none then .none
          else (s.dev d).flag) ∧ t.reports = (goodFrame s).reports))

/-! ## Reports (Chapter 8) -/

/-- R155 to R158: a submission raises its class's occurrence counter whatever the mask; enabled, it joins a queue of
fewer than 64, or in a full one displaces the oldest entry of the lowest class present when that class is lower than
its own, or is dropped. -/
def Obligations.SubmissionsTaken : Prop :=
  ∀ (code : ReportCode) (src : Source) (cause : Option Nat) (value : Option Int) (slot : Option (Fin 4)) (s : State),
    let q := s.reports
    let c := classRank (classOf code)
    let occurred := q.occurred.set c (bump q.occurred[c])
    let x : Report := ⟨code, src, cause, value, slot, s.time.day, s.time.micros, s.time.unset⟩
    let rank (r : Report) : Nat := (classRank (classOf r.code)).val
    let after := submit code src cause value slot s
    (classEnabled q.mask (classOf code) = false → after = { s with reports := { q with occurred := occurred } }) ∧
    (classEnabled q.mask (classOf code) = true → q.queue.length < 64 → after = { s with reports := { q with
      occurred := occurred, queue := q.queue ++ [x], accepted := q.accepted + 1 } }) ∧
    (∀ pre y post, classEnabled q.mask (classOf code) = true → 64 ≤ q.queue.length → q.queue = pre ++ y :: post →
      (∀ z ∈ pre, rank z < rank y) → (∀ z ∈ post, rank z ≤ rank y) → rank x < rank y →
      after = { s with reports := { q with
        occurred := occurred, queue := pre ++ post ++ [x], accepted := q.accepted + 1, displaced := q.displaced + 1 } }) ∧
    (classEnabled q.mask (classOf code) = true → 64 ≤ q.queue.length → (∀ z ∈ q.queue, rank z ≤ rank x) →
      after = { s with reports := { q with occurred := occurred, dropped := q.dropped + 1 } })

/-- R159: READ_REPORTS removes the oldest min(n, length) entries, counts them read and answers with them, oldest first; an n of 0
or above 4 is refused with nothing removed. -/
def Obligations.ReportsRead : Prop :=
  ∀ (src tag n : Byte) (s : State), Reaches src s →
    let g := goodFrame s
    ((n = 0 ∨ 4 < n.toNat) →
      exec (.readReports src tag [n]) s = .next (answered src tag .refused .range [] g)) ∧
    (1 ≤ n.toNat → n.toNat ≤ 4 → exec (.readReports src tag [n]) s = .next (answered src tag .done .none
      (byteOf (g.reports.queue.take n.toNat).length :: (g.reports.queue.take n.toNat).flatMap reportBytes)
      { g with reports := { g.reports with
        queue := g.reports.queue.drop n.toNat
        read := g.reports.read + BitVec.ofNat 32 (min n.toNat g.reports.queue.length) } }))

/-! ## Disturbance capture (Chapter 9) -/

/-- R168, R171, R174: CAPTURE_ARRIVAL records the 1 + m instants of an arrival at every position that names its channel: the latest
320 in ARMED, and in FILLING up to 960 after the trigger; a slot whose last position is full becomes HELD, its fill timer
stopped and its truncated mark clear, and CAPTURE_DONE is reported with cause COMPLETE and the number of triggers it took.
Other slots keep what they hold.
R174: the fill timer of a FILLING slot runs out: HELD with the truncated mark, counted, the positions and the order
list kept, and CAPTURE_DONE reported with cause TRUNCATED and the number of triggers the slot took.
The queue of copies, and that the fill timer's expiry moves the time base on, are the model's choices
(notes/assumptions/1, 3). -/
def Obligations.CaptureFilling : Prop :=
  (∀ (k : Copy) (rest : List Copy) (t : CaptureSettings) (s : State), Settled s →
      s.capture.inbox = k :: rest → s.capture.settings = some t → k.chan ∈ t.chans →
      let new := List.replicate k.missing ⟨0, .missing⟩ ++ [if k.after = .valid then k.own else ⟨0, .missing⟩]
      ∃ u, exec .captureArrival s = .next u ∧ u.capture.inbox = rest ∧ u.capture.order = s.capture.order ∧
        (∀ (i : Fin 4) (n : Nat) (p : SlotPos), s.capture.slots[i].positions[n]? = some p →
          ∃ p', u.capture.slots[i].positions[n]? = some p' ∧ p'.chan = p.chan ∧ p'.pre = p.pre ∧
            (s.capture.slots[i].state = .armed → p.chan = k.chan →
              p'.insts = (p.insts ++ new).drop ((p.insts ++ new).length - 320) ∧ p'.post = p.post) ∧
            (s.capture.slots[i].state = .filling → p.chan = k.chan →
              p'.insts = p.insts ++ new.take (960 - p.post) ∧ p'.post = p.post + min (960 - p.post) new.length) ∧
            ((p.chan ≠ k.chan ∨ (s.capture.slots[i].state ≠ .armed ∧ s.capture.slots[i].state ≠ .filling)) → p' = p)) ∧
        (∀ i : Fin 4, s.capture.slots[i].state ≠ .filling → u.capture.slots[i].state = s.capture.slots[i].state) ∧
        (∀ i : Fin 4, s.capture.slots[i].state = .filling → u.capture.slots[i].state =
          if u.capture.slots[i].positions.all (fun p => p.post = 960) then .held else .filling) ∧
        (∀ i : Fin 4, s.capture.slots[i].state = .filling → (∀ j : Fin 4, s.capture.slots[j].state = .filling → j = i) →
          let sl := s.capture.slots[i]
          let full := u.capture.slots[i].positions.all fun p => p.post = 960
          u.capture.slots[i].fillAt = (if full then none else sl.fillAt) ∧ (full → u.capture.slots[i].truncated = false) ∧
          u.capture.slots[i].triggers = sl.triggers ∧ u.capture.slots[i].extra = sl.extra ∧
          u.capture.counters = s.capture.counters ∧
          u.reports = (if full then submit .captureDone .capture (some 1)
            (some ((sl.triggers.length + sl.extra : Nat) : Int)) (some i) s else s).reports) ∧
        ((∀ i : Fin 4, s.capture.slots[i].state ≠ .filling) → u.reports = s.reports) ∧
        u = { s with capture := u.capture, reports := u.reports }) ∧
  (∀ (i : Fin 4) (d : Nat) (s : State), Settled s → s.capture.slots[i].state = .filling →
      s.capture.slots[i].fillAt = some d →
      let sl := s.capture.slots[i]
      exec (.fillTimerExpiry i) s = .next (submit .captureDone .capture (some 2)
        (some ((sl.triggers.length + sl.extra : Nat) : Int)) (some i) { advanceTo d s with capture := { s.capture with
          slots := s.capture.slots.set i { sl with state := .held, truncated := true, fillAt := none }
          counters := { s.capture.counters with truncated := bump s.capture.counters.truncated } } }))

/-- R169 to R173: a trigger is merged into a FILLING slot, or starts the ARMED one, or overwrites the oldest HELD one under policy
OVERWRITE, or is missed with its report.
The moment at which the fill timer runs out is the model's choice (notes/assumptions/44). -/
def Obligations.TriggersTaken : Prop :=
  ∀ (cause : Cause) (src : Source) (s : State), SlotsConsistent s →
    let st (i : Fin 4) := s.capture.slots[i].state
    let r := trigger cause src s
    let entry (n : Nat) : Trigger := ⟨cause, src, s.time.day, s.time.micros, s.time.unset, n⟩
    let index (sl : Slot) : Nat := match sl.positions with
      | [] => 0
      | p :: _ => p.pre + p.post
    (∀ i, st i = .filling → r.1 = some i ∧ r.2 = { s with capture := { s.capture with
      slots := s.capture.slots.set i (if s.capture.slots[i].triggers.length < 8 then
          { s.capture.slots[i] with
            triggers := s.capture.slots[i].triggers ++ [entry (index s.capture.slots[i])] }
        else { s.capture.slots[i] with extra := bump s.capture.slots[i].extra })
      counters := { s.capture.counters with
        merged := bump s.capture.counters.merged
        beyond := if s.capture.slots[i].triggers.length < 8 then s.capture.counters.beyond
          else bump s.capture.counters.beyond } } }) ∧
    (∀ i, (∀ j, st j ≠ .filling) → st i = .armed → r.1 = some i ∧
      r.2.capture.slots[i].state = .filling ∧
      r.2.capture.slots[i].positions =
        s.capture.slots[i].positions.map (fun p => ⟨p.chan, p.insts.length, 0, p.insts⟩) ∧
      r.2.capture.slots[i].triggers = [entry (((s.capture.slots[i].positions.map fun p => p.insts.length).head?).getD 0)] ∧
      r.2.capture.slots[i].fillAt = some (s.time.now + 150 * Config.unitsPerMs) ∧
      r.2.capture.order = s.capture.order ++ [i] ∧
      r.2.capture.counters = { s.capture.counters with fills := bump s.capture.counters.fills } ∧
      r.2 = { s with capture := r.2.capture }) ∧
    (∀ i t, (∀ j, st j ≠ .filling ∧ st j ≠ .armed) → s.capture.settings = some t → t.overwrite = true →
      s.capture.order.find? (fun j => st j = .held) = some i →
      r.1 = some i ∧ r.2.capture.slots[i].state = .filling ∧
      r.2.capture.slots[i].positions = t.chans.map (fun c => ⟨c, 0, 0, []⟩) ∧
      r.2.capture.slots[i].triggers = [entry 0] ∧
      r.2.capture.order = (s.capture.order.filter (· ≠ i)) ++ [i] ∧
      r.2.capture.counters = { s.capture.counters with
        fills := bump s.capture.counters.fills, overwrites := bump s.capture.counters.overwrites } ∧
      (∀ j, j ≠ i → st j ≠ .free → r.2.capture.slots[j] = s.capture.slots[j])) ∧
    ((∀ j, st j ≠ .filling ∧ st j ≠ .armed) →
      ((∀ t, s.capture.settings = some t → t.overwrite = false) ∨ ∀ j, st j ≠ .held) →
      r.1 = none ∧ r.2 = report .captureMissed .capture (some (causeCode cause)) (some (sourceCode src))
        { s with capture := { s.capture with counters := { s.capture.counters with
          missed := bump s.capture.counters.missed } } })

/-- R169, R176, R177: the requests on captures: TRIGGER_CAPTURE hands the Capture Unit a MANUAL trigger and answers with the slot
or a missed mark; READ_CAPTURE and RELEASE_CAPTURE take the first line that applies.
The answer of TRIGGER_CAPTURE is laid out as notes/assumptions/15 says, where R196 leaves it open. -/
def Obligations.CaptureRequests : Prop :=
  ∀ (src tag : Byte) (i : Fin 4) (s : State), Reaches src s →
    let g := goodFrame s
    let sl := s.capture.slots[i]
    (src = s.ring.mgmt → exec (.triggerCapture src tag []) s = .next (answered src tag .done .none
      (match (trigger .manual .part g).1 with
        | none => [0, 0]
        | some j => [1, byteOf j.val]) (trigger .manual .part g).2)) ∧
    (∀ n : Byte, 4 ≤ n.toNat →
      (∀ pos f1 f2 count, exec (.readCapture src tag [n, pos, f1, f2, count]) s =
        .next (answered src tag .refused .range [] g)) ∧
      (src = s.ring.mgmt → exec (.releaseCapture src tag [n]) s = .next (answered src tag .refused .range [] g))) ∧
    (∀ pos f1 f2 count : Byte, (count = 0 ∨ 24 < count.toNat) →
      exec (.readCapture src tag [byteOf i.val, pos, f1, f2, count]) s =
        .next (answered src tag .refused .range [] g)) ∧
    (∀ pos f1 f2 count : Byte, 1 ≤ count.toNat → count.toNat ≤ 24 →
      let first := f1.toNat * 256 + f2.toNat
      let go := exec (.readCapture src tag [byteOf i.val, pos, f1, f2, count]) s
      ((sl.state = .free ∨ sl.state = .armed) → go = .next (answered src tag .refused .state [] g)) ∧
      (sl.state = .filling → go = .next (answered src tag .busy .none [] g)) ∧
      ((sl.state = .held ∨ sl.state = .reading) →
        (sl.positions.length ≤ pos.toNat → go = .next (answered src tag .refused .range [] g)) ∧
        (∀ p, sl.positions[pos.toNat]? = some p → p.pre + p.post ≤ first →
          go = .next (answered src tag .refused .range [] g)) ∧
        (∀ p, sl.positions[pos.toNat]? = some p → first < p.pre + p.post →
          go = .next (answered src tag .done .none (captureData p first count.toNat)
            { g with capture := { g.capture with slots := g.capture.slots.set i { sl with state := .reading } } })))) ∧
    (src = s.ring.mgmt → SlotsConsistent s →
      ((sl.state ≠ .held ∧ sl.state ≠ .reading) → exec (.releaseCapture src tag [byteOf i.val]) s =
        .next (answered src tag .refused .state [] g)) ∧
      ((sl.state = .held ∨ sl.state = .reading) → ∃ t, exec (.releaseCapture src tag [byteOf i.val]) s = .next t ∧
        (t.capture.slots[i].state = .free ∨ t.capture.slots[i].state = .armed) ∧
        t.capture.slots[i].triggers = [] ∧ t.capture.slots[i].extra = 0 ∧ t.capture.slots[i].truncated = false ∧
        (∀ p ∈ t.capture.slots[i].positions, p.insts = []) ∧
        t.capture.order = s.capture.order.filter (· ≠ i) ∧
        (∀ j, j ≠ i → s.capture.slots[j].state ≠ .free → t.capture.slots[j] = s.capture.slots[j]) ∧
        t.capture.counters = s.capture.counters))
end

