-- ==== Sys2Proof/Laws/State.lean ====
section
/-! SUPPORT. The small lemmas of State: each field after each update, and each element of a block after each update, so
that no proof unfolds a record update. -/

namespace Sys2Proof.Machine

/-! ## The eighteen devices -/

@[simp] theorem PerDevice.get_set_same {α : Type} (p : PerDevice α) (d : Device) (x : α) : (p.set d x).get d = x := by
  cases d <;> simp [PerDevice.get, PerDevice.set]

theorem PerDevice.get_set_ne {α : Type} (p : PerDevice α) {d e : Device} (x : α) (h : e ≠ d) :
    (p.set d x).get e = p.get e := by
  cases d <;> cases e <;> simp_all [PerDevice.get, PerDevice.set]
  all_goals
    rw [Vector.getElem_set_ne]
    exact fun hv => h (Fin.ext hv.symm)

@[simp] theorem PerDevice.get_replicate {α : Type} (x : α) (d : Device) : (PerDevice.replicate x).get d = x := by
  cases d <;> simp [PerDevice.get, PerDevice.replicate]

/-! ## Fields after an update of one block -/
@[simp] theorem State.updRing_time (s : State) (g : RingPort → RingPort) : (s.updRing g).time = s.time := rfl
@[simp] theorem State.updRing_ring (s : State) (g : RingPort → RingPort) : (s.updRing g).ring = g s.ring := rfl
@[simp] theorem State.updRing_matcher (s : State) (g : RingPort → RingPort) : (s.updRing g).matcher = s.matcher := rfl
@[simp] theorem State.updRing_chans (s : State) (g : RingPort → RingPort) : (s.updRing g).chans = s.chans := rfl
@[simp] theorem State.updRing_evs (s : State) (g : RingPort → RingPort) : (s.updRing g).evs = s.evs := rfl
@[simp] theorem State.updRing_devs (s : State) (g : RingPort → RingPort) : (s.updRing g).devs = s.devs := rfl
@[simp] theorem State.updRing_unmatchedPos (s : State) (g : RingPort → RingPort) : (s.updRing g).unmatchedPos = s.unmatchedPos := rfl
@[simp] theorem State.updRing_malformedPos (s : State) (g : RingPort → RingPort) : (s.updRing g).malformedPos = s.malformedPos := rfl
@[simp] theorem State.updRing_line (s : State) (g : RingPort → RingPort) : (s.updRing g).line = s.line := rfl
@[simp] theorem State.updRing_seqs (s : State) (g : RingPort → RingPort) : (s.updRing g).seqs = s.seqs := rfl
@[simp] theorem State.updRing_rect (s : State) (g : RingPort → RingPort) : (s.updRing g).rect = s.rect := rfl
@[simp] theorem State.updRing_banks (s : State) (g : RingPort → RingPort) : (s.updRing g).banks = s.banks := rfl
@[simp] theorem State.updRing_reports (s : State) (g : RingPort → RingPort) : (s.updRing g).reports = s.reports := rfl
@[simp] theorem State.updRing_capture (s : State) (g : RingPort → RingPort) : (s.updRing g).capture = s.capture := rfl
@[simp] theorem State.updRing_freeCount (s : State) (g : RingPort → RingPort) : (s.updRing g).freeCount = s.freeCount := rfl
@[simp] theorem State.updRing_pending (s : State) (g : RingPort → RingPort) : (s.updRing g).pending = s.pending := rfl
@[simp] theorem State.updRing_chan (s : State) (g : RingPort → RingPort) (i : Fin 24) : (s.updRing g).chan i = s.chan i := rfl
@[simp] theorem State.updRing_ev (s : State) (g : RingPort → RingPort) (i : Fin 8) : (s.updRing g).ev i = s.ev i := rfl
@[simp] theorem State.updRing_seq (s : State) (g : RingPort → RingPort) (i : Fin 8) : (s.updRing g).seq i = s.seq i := rfl
@[simp] theorem State.updRing_dev (s : State) (g : RingPort → RingPort) (i : Device) : (s.updRing g).dev i = s.dev i := rfl
@[simp] theorem State.updRect_time (s : State) (g : Rectifier → Rectifier) : (s.updRect g).time = s.time := rfl
@[simp] theorem State.updRect_ring (s : State) (g : Rectifier → Rectifier) : (s.updRect g).ring = s.ring := rfl
@[simp] theorem State.updRect_matcher (s : State) (g : Rectifier → Rectifier) : (s.updRect g).matcher = s.matcher := rfl
@[simp] theorem State.updRect_chans (s : State) (g : Rectifier → Rectifier) : (s.updRect g).chans = s.chans := rfl
@[simp] theorem State.updRect_evs (s : State) (g : Rectifier → Rectifier) : (s.updRect g).evs = s.evs := rfl
@[simp] theorem State.updRect_devs (s : State) (g : Rectifier → Rectifier) : (s.updRect g).devs = s.devs := rfl
@[simp] theorem State.updRect_unmatchedPos (s : State) (g : Rectifier → Rectifier) : (s.updRect g).unmatchedPos = s.unmatchedPos := rfl
@[simp] theorem State.updRect_malformedPos (s : State) (g : Rectifier → Rectifier) : (s.updRect g).malformedPos = s.malformedPos := rfl
@[simp] theorem State.updRect_line (s : State) (g : Rectifier → Rectifier) : (s.updRect g).line = s.line := rfl
@[simp] theorem State.updRect_seqs (s : State) (g : Rectifier → Rectifier) : (s.updRect g).seqs = s.seqs := rfl
@[simp] theorem State.updRect_rect (s : State) (g : Rectifier → Rectifier) : (s.updRect g).rect = g s.rect := rfl
@[simp] theorem State.updRect_banks (s : State) (g : Rectifier → Rectifier) : (s.updRect g).banks = s.banks := rfl
@[simp] theorem State.updRect_reports (s : State) (g : Rectifier → Rectifier) : (s.updRect g).reports = s.reports := rfl
@[simp] theorem State.updRect_capture (s : State) (g : Rectifier → Rectifier) : (s.updRect g).capture = s.capture := rfl
@[simp] theorem State.updRect_freeCount (s : State) (g : Rectifier → Rectifier) : (s.updRect g).freeCount = s.freeCount := rfl
@[simp] theorem State.updRect_pending (s : State) (g : Rectifier → Rectifier) : (s.updRect g).pending = s.pending := rfl
@[simp] theorem State.updRect_chan (s : State) (g : Rectifier → Rectifier) (i : Fin 24) : (s.updRect g).chan i = s.chan i := rfl
@[simp] theorem State.updRect_ev (s : State) (g : Rectifier → Rectifier) (i : Fin 8) : (s.updRect g).ev i = s.ev i := rfl
@[simp] theorem State.updRect_seq (s : State) (g : Rectifier → Rectifier) (i : Fin 8) : (s.updRect g).seq i = s.seq i := rfl
@[simp] theorem State.updRect_dev (s : State) (g : Rectifier → Rectifier) (i : Device) : (s.updRect g).dev i = s.dev i := rfl
@[simp] theorem State.updLine_time (s : State) (g : LineCtl → LineCtl) : (s.updLine g).time = s.time := rfl
@[simp] theorem State.updLine_ring (s : State) (g : LineCtl → LineCtl) : (s.updLine g).ring = s.ring := rfl
@[simp] theorem State.updLine_matcher (s : State) (g : LineCtl → LineCtl) : (s.updLine g).matcher = s.matcher := rfl
@[simp] theorem State.updLine_chans (s : State) (g : LineCtl → LineCtl) : (s.updLine g).chans = s.chans := rfl
@[simp] theorem State.updLine_evs (s : State) (g : LineCtl → LineCtl) : (s.updLine g).evs = s.evs := rfl
@[simp] theorem State.updLine_devs (s : State) (g : LineCtl → LineCtl) : (s.updLine g).devs = s.devs := rfl
@[simp] theorem State.updLine_unmatchedPos (s : State) (g : LineCtl → LineCtl) : (s.updLine g).unmatchedPos = s.unmatchedPos := rfl
@[simp] theorem State.updLine_malformedPos (s : State) (g : LineCtl → LineCtl) : (s.updLine g).malformedPos = s.malformedPos := rfl
@[simp] theorem State.updLine_line (s : State) (g : LineCtl → LineCtl) : (s.updLine g).line = g s.line := rfl
@[simp] theorem State.updLine_seqs (s : State) (g : LineCtl → LineCtl) : (s.updLine g).seqs = s.seqs := rfl
@[simp] theorem State.updLine_rect (s : State) (g : LineCtl → LineCtl) : (s.updLine g).rect = s.rect := rfl
@[simp] theorem State.updLine_banks (s : State) (g : LineCtl → LineCtl) : (s.updLine g).banks = s.banks := rfl
@[simp] theorem State.updLine_reports (s : State) (g : LineCtl → LineCtl) : (s.updLine g).reports = s.reports := rfl
@[simp] theorem State.updLine_capture (s : State) (g : LineCtl → LineCtl) : (s.updLine g).capture = s.capture := rfl
@[simp] theorem State.updLine_freeCount (s : State) (g : LineCtl → LineCtl) : (s.updLine g).freeCount = s.freeCount := rfl
@[simp] theorem State.updLine_pending (s : State) (g : LineCtl → LineCtl) : (s.updLine g).pending = s.pending := rfl
@[simp] theorem State.updLine_chan (s : State) (g : LineCtl → LineCtl) (i : Fin 24) : (s.updLine g).chan i = s.chan i := rfl
@[simp] theorem State.updLine_ev (s : State) (g : LineCtl → LineCtl) (i : Fin 8) : (s.updLine g).ev i = s.ev i := rfl
@[simp] theorem State.updLine_seq (s : State) (g : LineCtl → LineCtl) (i : Fin 8) : (s.updLine g).seq i = s.seq i := rfl
@[simp] theorem State.updLine_dev (s : State) (g : LineCtl → LineCtl) (i : Device) : (s.updLine g).dev i = s.dev i := rfl
@[simp] theorem State.updBanks_time (s : State) (g : BankStore → BankStore) : (s.updBanks g).time = s.time := rfl
@[simp] theorem State.updBanks_ring (s : State) (g : BankStore → BankStore) : (s.updBanks g).ring = s.ring := rfl
@[simp] theorem State.updBanks_matcher (s : State) (g : BankStore → BankStore) : (s.updBanks g).matcher = s.matcher := rfl
@[simp] theorem State.updBanks_chans (s : State) (g : BankStore → BankStore) : (s.updBanks g).chans = s.chans := rfl
@[simp] theorem State.updBanks_evs (s : State) (g : BankStore → BankStore) : (s.updBanks g).evs = s.evs := rfl
@[simp] theorem State.updBanks_devs (s : State) (g : BankStore → BankStore) : (s.updBanks g).devs = s.devs := rfl
@[simp] theorem State.updBanks_unmatchedPos (s : State) (g : BankStore → BankStore) : (s.updBanks g).unmatchedPos = s.unmatchedPos := rfl
@[simp] theorem State.updBanks_malformedPos (s : State) (g : BankStore → BankStore) : (s.updBanks g).malformedPos = s.malformedPos := rfl
@[simp] theorem State.updBanks_line (s : State) (g : BankStore → BankStore) : (s.updBanks g).line = s.line := rfl
@[simp] theorem State.updBanks_seqs (s : State) (g : BankStore → BankStore) : (s.updBanks g).seqs = s.seqs := rfl
@[simp] theorem State.updBanks_rect (s : State) (g : BankStore → BankStore) : (s.updBanks g).rect = s.rect := rfl
@[simp] theorem State.updBanks_banks (s : State) (g : BankStore → BankStore) : (s.updBanks g).banks = g s.banks := rfl
@[simp] theorem State.updBanks_reports (s : State) (g : BankStore → BankStore) : (s.updBanks g).reports = s.reports := rfl
@[simp] theorem State.updBanks_capture (s : State) (g : BankStore → BankStore) : (s.updBanks g).capture = s.capture := rfl
@[simp] theorem State.updBanks_freeCount (s : State) (g : BankStore → BankStore) : (s.updBanks g).freeCount = s.freeCount := rfl
@[simp] theorem State.updBanks_pending (s : State) (g : BankStore → BankStore) : (s.updBanks g).pending = s.pending := rfl
@[simp] theorem State.updBanks_chan (s : State) (g : BankStore → BankStore) (i : Fin 24) : (s.updBanks g).chan i = s.chan i := rfl
@[simp] theorem State.updBanks_ev (s : State) (g : BankStore → BankStore) (i : Fin 8) : (s.updBanks g).ev i = s.ev i := rfl
@[simp] theorem State.updBanks_seq (s : State) (g : BankStore → BankStore) (i : Fin 8) : (s.updBanks g).seq i = s.seq i := rfl
@[simp] theorem State.updBanks_dev (s : State) (g : BankStore → BankStore) (i : Device) : (s.updBanks g).dev i = s.dev i := rfl
@[simp] theorem State.updReports_time (s : State) (g : ReportQueue → ReportQueue) : (s.updReports g).time = s.time := rfl
@[simp] theorem State.updReports_ring (s : State) (g : ReportQueue → ReportQueue) : (s.updReports g).ring = s.ring := rfl
@[simp] theorem State.updReports_matcher (s : State) (g : ReportQueue → ReportQueue) : (s.updReports g).matcher = s.matcher := rfl
@[simp] theorem State.updReports_chans (s : State) (g : ReportQueue → ReportQueue) : (s.updReports g).chans = s.chans := rfl
@[simp] theorem State.updReports_evs (s : State) (g : ReportQueue → ReportQueue) : (s.updReports g).evs = s.evs := rfl
@[simp] theorem State.updReports_devs (s : State) (g : ReportQueue → ReportQueue) : (s.updReports g).devs = s.devs := rfl
@[simp] theorem State.updReports_unmatchedPos (s : State) (g : ReportQueue → ReportQueue) : (s.updReports g).unmatchedPos = s.unmatchedPos := rfl
@[simp] theorem State.updReports_malformedPos (s : State) (g : ReportQueue → ReportQueue) : (s.updReports g).malformedPos = s.malformedPos := rfl
@[simp] theorem State.updReports_line (s : State) (g : ReportQueue → ReportQueue) : (s.updReports g).line = s.line := rfl
@[simp] theorem State.updReports_seqs (s : State) (g : ReportQueue → ReportQueue) : (s.updReports g).seqs = s.seqs := rfl
@[simp] theorem State.updReports_rect (s : State) (g : ReportQueue → ReportQueue) : (s.updReports g).rect = s.rect := rfl
@[simp] theorem State.updReports_banks (s : State) (g : ReportQueue → ReportQueue) : (s.updReports g).banks = s.banks := rfl
@[simp] theorem State.updReports_reports (s : State) (g : ReportQueue → ReportQueue) : (s.updReports g).reports = g s.reports := rfl
@[simp] theorem State.updReports_capture (s : State) (g : ReportQueue → ReportQueue) : (s.updReports g).capture = s.capture := rfl
@[simp] theorem State.updReports_freeCount (s : State) (g : ReportQueue → ReportQueue) : (s.updReports g).freeCount = s.freeCount := rfl
@[simp] theorem State.updReports_pending (s : State) (g : ReportQueue → ReportQueue) : (s.updReports g).pending = s.pending := rfl
@[simp] theorem State.updReports_chan (s : State) (g : ReportQueue → ReportQueue) (i : Fin 24) : (s.updReports g).chan i = s.chan i := rfl
@[simp] theorem State.updReports_ev (s : State) (g : ReportQueue → ReportQueue) (i : Fin 8) : (s.updReports g).ev i = s.ev i := rfl
@[simp] theorem State.updReports_seq (s : State) (g : ReportQueue → ReportQueue) (i : Fin 8) : (s.updReports g).seq i = s.seq i := rfl
@[simp] theorem State.updReports_dev (s : State) (g : ReportQueue → ReportQueue) (i : Device) : (s.updReports g).dev i = s.dev i := rfl
@[simp] theorem State.updCapture_time (s : State) (g : CaptureUnit → CaptureUnit) : (s.updCapture g).time = s.time := rfl
@[simp] theorem State.updCapture_ring (s : State) (g : CaptureUnit → CaptureUnit) : (s.updCapture g).ring = s.ring := rfl
@[simp] theorem State.updCapture_matcher (s : State) (g : CaptureUnit → CaptureUnit) : (s.updCapture g).matcher = s.matcher := rfl
@[simp] theorem State.updCapture_chans (s : State) (g : CaptureUnit → CaptureUnit) : (s.updCapture g).chans = s.chans := rfl
@[simp] theorem State.updCapture_evs (s : State) (g : CaptureUnit → CaptureUnit) : (s.updCapture g).evs = s.evs := rfl
@[simp] theorem State.updCapture_devs (s : State) (g : CaptureUnit → CaptureUnit) : (s.updCapture g).devs = s.devs := rfl
@[simp] theorem State.updCapture_unmatchedPos (s : State) (g : CaptureUnit → CaptureUnit) : (s.updCapture g).unmatchedPos = s.unmatchedPos := rfl
@[simp] theorem State.updCapture_malformedPos (s : State) (g : CaptureUnit → CaptureUnit) : (s.updCapture g).malformedPos = s.malformedPos := rfl
@[simp] theorem State.updCapture_line (s : State) (g : CaptureUnit → CaptureUnit) : (s.updCapture g).line = s.line := rfl
@[simp] theorem State.updCapture_seqs (s : State) (g : CaptureUnit → CaptureUnit) : (s.updCapture g).seqs = s.seqs := rfl
@[simp] theorem State.updCapture_rect (s : State) (g : CaptureUnit → CaptureUnit) : (s.updCapture g).rect = s.rect := rfl
@[simp] theorem State.updCapture_banks (s : State) (g : CaptureUnit → CaptureUnit) : (s.updCapture g).banks = s.banks := rfl
@[simp] theorem State.updCapture_reports (s : State) (g : CaptureUnit → CaptureUnit) : (s.updCapture g).reports = s.reports := rfl
@[simp] theorem State.updCapture_capture (s : State) (g : CaptureUnit → CaptureUnit) : (s.updCapture g).capture = g s.capture := rfl
@[simp] theorem State.updCapture_freeCount (s : State) (g : CaptureUnit → CaptureUnit) : (s.updCapture g).freeCount = s.freeCount := rfl
@[simp] theorem State.updCapture_pending (s : State) (g : CaptureUnit → CaptureUnit) : (s.updCapture g).pending = s.pending := rfl
@[simp] theorem State.updCapture_chan (s : State) (g : CaptureUnit → CaptureUnit) (i : Fin 24) : (s.updCapture g).chan i = s.chan i := rfl
@[simp] theorem State.updCapture_ev (s : State) (g : CaptureUnit → CaptureUnit) (i : Fin 8) : (s.updCapture g).ev i = s.ev i := rfl
@[simp] theorem State.updCapture_seq (s : State) (g : CaptureUnit → CaptureUnit) (i : Fin 8) : (s.updCapture g).seq i = s.seq i := rfl
@[simp] theorem State.updCapture_dev (s : State) (g : CaptureUnit → CaptureUnit) (i : Device) : (s.updCapture g).dev i = s.dev i := rfl
@[simp] theorem State.updMatcher_time (s : State) (g : Matcher → Matcher) : (s.updMatcher g).time = s.time := rfl
@[simp] theorem State.updMatcher_ring (s : State) (g : Matcher → Matcher) : (s.updMatcher g).ring = s.ring := rfl
@[simp] theorem State.updMatcher_matcher (s : State) (g : Matcher → Matcher) : (s.updMatcher g).matcher = g s.matcher := rfl
@[simp] theorem State.updMatcher_chans (s : State) (g : Matcher → Matcher) : (s.updMatcher g).chans = s.chans := rfl
@[simp] theorem State.updMatcher_evs (s : State) (g : Matcher → Matcher) : (s.updMatcher g).evs = s.evs := rfl
@[simp] theorem State.updMatcher_devs (s : State) (g : Matcher → Matcher) : (s.updMatcher g).devs = s.devs := rfl
@[simp] theorem State.updMatcher_unmatchedPos (s : State) (g : Matcher → Matcher) : (s.updMatcher g).unmatchedPos = s.unmatchedPos := rfl
@[simp] theorem State.updMatcher_malformedPos (s : State) (g : Matcher → Matcher) : (s.updMatcher g).malformedPos = s.malformedPos := rfl
@[simp] theorem State.updMatcher_line (s : State) (g : Matcher → Matcher) : (s.updMatcher g).line = s.line := rfl
@[simp] theorem State.updMatcher_seqs (s : State) (g : Matcher → Matcher) : (s.updMatcher g).seqs = s.seqs := rfl
@[simp] theorem State.updMatcher_rect (s : State) (g : Matcher → Matcher) : (s.updMatcher g).rect = s.rect := rfl
@[simp] theorem State.updMatcher_banks (s : State) (g : Matcher → Matcher) : (s.updMatcher g).banks = s.banks := rfl
@[simp] theorem State.updMatcher_reports (s : State) (g : Matcher → Matcher) : (s.updMatcher g).reports = s.reports := rfl
@[simp] theorem State.updMatcher_capture (s : State) (g : Matcher → Matcher) : (s.updMatcher g).capture = s.capture := rfl
@[simp] theorem State.updMatcher_freeCount (s : State) (g : Matcher → Matcher) : (s.updMatcher g).freeCount = s.freeCount := rfl
@[simp] theorem State.updMatcher_pending (s : State) (g : Matcher → Matcher) : (s.updMatcher g).pending = s.pending := rfl
@[simp] theorem State.updMatcher_chan (s : State) (g : Matcher → Matcher) (i : Fin 24) : (s.updMatcher g).chan i = s.chan i := rfl
@[simp] theorem State.updMatcher_ev (s : State) (g : Matcher → Matcher) (i : Fin 8) : (s.updMatcher g).ev i = s.ev i := rfl
@[simp] theorem State.updMatcher_seq (s : State) (g : Matcher → Matcher) (i : Fin 8) : (s.updMatcher g).seq i = s.seq i := rfl
@[simp] theorem State.updMatcher_dev (s : State) (g : Matcher → Matcher) (i : Device) : (s.updMatcher g).dev i = s.dev i := rfl

/-! ## Fields after an update of one element -/
@[simp] theorem State.updChan_time (s : State) (i : Fin 24) (g : Channel → Channel) : (s.updChan i g).time = s.time := rfl
@[simp] theorem State.updChan_ring (s : State) (i : Fin 24) (g : Channel → Channel) : (s.updChan i g).ring = s.ring := rfl
@[simp] theorem State.updChan_matcher (s : State) (i : Fin 24) (g : Channel → Channel) : (s.updChan i g).matcher = s.matcher := rfl
@[simp] theorem State.updChan_evs (s : State) (i : Fin 24) (g : Channel → Channel) : (s.updChan i g).evs = s.evs := rfl
@[simp] theorem State.updChan_devs (s : State) (i : Fin 24) (g : Channel → Channel) : (s.updChan i g).devs = s.devs := rfl
@[simp] theorem State.updChan_unmatchedPos (s : State) (i : Fin 24) (g : Channel → Channel) : (s.updChan i g).unmatchedPos = s.unmatchedPos := rfl
@[simp] theorem State.updChan_malformedPos (s : State) (i : Fin 24) (g : Channel → Channel) : (s.updChan i g).malformedPos = s.malformedPos := rfl
@[simp] theorem State.updChan_line (s : State) (i : Fin 24) (g : Channel → Channel) : (s.updChan i g).line = s.line := rfl
@[simp] theorem State.updChan_seqs (s : State) (i : Fin 24) (g : Channel → Channel) : (s.updChan i g).seqs = s.seqs := rfl
@[simp] theorem State.updChan_rect (s : State) (i : Fin 24) (g : Channel → Channel) : (s.updChan i g).rect = s.rect := rfl
@[simp] theorem State.updChan_banks (s : State) (i : Fin 24) (g : Channel → Channel) : (s.updChan i g).banks = s.banks := rfl
@[simp] theorem State.updChan_reports (s : State) (i : Fin 24) (g : Channel → Channel) : (s.updChan i g).reports = s.reports := rfl
@[simp] theorem State.updChan_capture (s : State) (i : Fin 24) (g : Channel → Channel) : (s.updChan i g).capture = s.capture := rfl
@[simp] theorem State.updChan_freeCount (s : State) (i : Fin 24) (g : Channel → Channel) : (s.updChan i g).freeCount = s.freeCount := rfl
@[simp] theorem State.updChan_pending (s : State) (i : Fin 24) (g : Channel → Channel) : (s.updChan i g).pending = s.pending := rfl
@[simp] theorem State.updChan_ev (s : State) (i : Fin 24) (g : Channel → Channel) (j : Fin 8) : (s.updChan i g).ev j = s.ev j := rfl
@[simp] theorem State.updChan_seq (s : State) (i : Fin 24) (g : Channel → Channel) (j : Fin 8) : (s.updChan i g).seq j = s.seq j := rfl
@[simp] theorem State.updChan_dev (s : State) (i : Fin 24) (g : Channel → Channel) (j : Device) : (s.updChan i g).dev j = s.dev j := rfl
@[simp] theorem State.updEv_time (s : State) (i : Fin 8) (g : Evaluator → Evaluator) : (s.updEv i g).time = s.time := rfl
@[simp] theorem State.updEv_ring (s : State) (i : Fin 8) (g : Evaluator → Evaluator) : (s.updEv i g).ring = s.ring := rfl
@[simp] theorem State.updEv_matcher (s : State) (i : Fin 8) (g : Evaluator → Evaluator) : (s.updEv i g).matcher = s.matcher := rfl
@[simp] theorem State.updEv_chans (s : State) (i : Fin 8) (g : Evaluator → Evaluator) : (s.updEv i g).chans = s.chans := rfl
@[simp] theorem State.updEv_devs (s : State) (i : Fin 8) (g : Evaluator → Evaluator) : (s.updEv i g).devs = s.devs := rfl
@[simp] theorem State.updEv_unmatchedPos (s : State) (i : Fin 8) (g : Evaluator → Evaluator) : (s.updEv i g).unmatchedPos = s.unmatchedPos := rfl
@[simp] theorem State.updEv_malformedPos (s : State) (i : Fin 8) (g : Evaluator → Evaluator) : (s.updEv i g).malformedPos = s.malformedPos := rfl
@[simp] theorem State.updEv_line (s : State) (i : Fin 8) (g : Evaluator → Evaluator) : (s.updEv i g).line = s.line := rfl
@[simp] theorem State.updEv_seqs (s : State) (i : Fin 8) (g : Evaluator → Evaluator) : (s.updEv i g).seqs = s.seqs := rfl
@[simp] theorem State.updEv_rect (s : State) (i : Fin 8) (g : Evaluator → Evaluator) : (s.updEv i g).rect = s.rect := rfl
@[simp] theorem State.updEv_banks (s : State) (i : Fin 8) (g : Evaluator → Evaluator) : (s.updEv i g).banks = s.banks := rfl
@[simp] theorem State.updEv_reports (s : State) (i : Fin 8) (g : Evaluator → Evaluator) : (s.updEv i g).reports = s.reports := rfl
@[simp] theorem State.updEv_capture (s : State) (i : Fin 8) (g : Evaluator → Evaluator) : (s.updEv i g).capture = s.capture := rfl
@[simp] theorem State.updEv_freeCount (s : State) (i : Fin 8) (g : Evaluator → Evaluator) : (s.updEv i g).freeCount = s.freeCount := rfl
@[simp] theorem State.updEv_pending (s : State) (i : Fin 8) (g : Evaluator → Evaluator) : (s.updEv i g).pending = s.pending := rfl
@[simp] theorem State.updEv_chan (s : State) (i : Fin 8) (g : Evaluator → Evaluator) (j : Fin 24) : (s.updEv i g).chan j = s.chan j := rfl
@[simp] theorem State.updEv_seq (s : State) (i : Fin 8) (g : Evaluator → Evaluator) (j : Fin 8) : (s.updEv i g).seq j = s.seq j := rfl
@[simp] theorem State.updEv_dev (s : State) (i : Fin 8) (g : Evaluator → Evaluator) (j : Device) : (s.updEv i g).dev j = s.dev j := rfl
@[simp] theorem State.updSeq_time (s : State) (i : Fin 8) (g : Sequencer → Sequencer) : (s.updSeq i g).time = s.time := rfl
@[simp] theorem State.updSeq_ring (s : State) (i : Fin 8) (g : Sequencer → Sequencer) : (s.updSeq i g).ring = s.ring := rfl
@[simp] theorem State.updSeq_matcher (s : State) (i : Fin 8) (g : Sequencer → Sequencer) : (s.updSeq i g).matcher = s.matcher := rfl
@[simp] theorem State.updSeq_chans (s : State) (i : Fin 8) (g : Sequencer → Sequencer) : (s.updSeq i g).chans = s.chans := rfl
@[simp] theorem State.updSeq_evs (s : State) (i : Fin 8) (g : Sequencer → Sequencer) : (s.updSeq i g).evs = s.evs := rfl
@[simp] theorem State.updSeq_devs (s : State) (i : Fin 8) (g : Sequencer → Sequencer) : (s.updSeq i g).devs = s.devs := rfl
@[simp] theorem State.updSeq_unmatchedPos (s : State) (i : Fin 8) (g : Sequencer → Sequencer) : (s.updSeq i g).unmatchedPos = s.unmatchedPos := rfl
@[simp] theorem State.updSeq_malformedPos (s : State) (i : Fin 8) (g : Sequencer → Sequencer) : (s.updSeq i g).malformedPos = s.malformedPos := rfl
@[simp] theorem State.updSeq_line (s : State) (i : Fin 8) (g : Sequencer → Sequencer) : (s.updSeq i g).line = s.line := rfl
@[simp] theorem State.updSeq_rect (s : State) (i : Fin 8) (g : Sequencer → Sequencer) : (s.updSeq i g).rect = s.rect := rfl
@[simp] theorem State.updSeq_banks (s : State) (i : Fin 8) (g : Sequencer → Sequencer) : (s.updSeq i g).banks = s.banks := rfl
@[simp] theorem State.updSeq_reports (s : State) (i : Fin 8) (g : Sequencer → Sequencer) : (s.updSeq i g).reports = s.reports := rfl
@[simp] theorem State.updSeq_capture (s : State) (i : Fin 8) (g : Sequencer → Sequencer) : (s.updSeq i g).capture = s.capture := rfl
@[simp] theorem State.updSeq_freeCount (s : State) (i : Fin 8) (g : Sequencer → Sequencer) : (s.updSeq i g).freeCount = s.freeCount := rfl
@[simp] theorem State.updSeq_pending (s : State) (i : Fin 8) (g : Sequencer → Sequencer) : (s.updSeq i g).pending = s.pending := rfl
@[simp] theorem State.updSeq_chan (s : State) (i : Fin 8) (g : Sequencer → Sequencer) (j : Fin 24) : (s.updSeq i g).chan j = s.chan j := rfl
@[simp] theorem State.updSeq_ev (s : State) (i : Fin 8) (g : Sequencer → Sequencer) (j : Fin 8) : (s.updSeq i g).ev j = s.ev j := rfl
@[simp] theorem State.updSeq_dev (s : State) (i : Fin 8) (g : Sequencer → Sequencer) (j : Device) : (s.updSeq i g).dev j = s.dev j := rfl
@[simp] theorem State.updDev_time (s : State) (i : Device) (g : DevRecord → DevRecord) : (s.updDev i g).time = s.time := rfl
@[simp] theorem State.updDev_ring (s : State) (i : Device) (g : DevRecord → DevRecord) : (s.updDev i g).ring = s.ring := rfl
@[simp] theorem State.updDev_matcher (s : State) (i : Device) (g : DevRecord → DevRecord) : (s.updDev i g).matcher = s.matcher := rfl
@[simp] theorem State.updDev_chans (s : State) (i : Device) (g : DevRecord → DevRecord) : (s.updDev i g).chans = s.chans := rfl
@[simp] theorem State.updDev_evs (s : State) (i : Device) (g : DevRecord → DevRecord) : (s.updDev i g).evs = s.evs := rfl
@[simp] theorem State.updDev_unmatchedPos (s : State) (i : Device) (g : DevRecord → DevRecord) : (s.updDev i g).unmatchedPos = s.unmatchedPos := rfl
@[simp] theorem State.updDev_malformedPos (s : State) (i : Device) (g : DevRecord → DevRecord) : (s.updDev i g).malformedPos = s.malformedPos := rfl
@[simp] theorem State.updDev_line (s : State) (i : Device) (g : DevRecord → DevRecord) : (s.updDev i g).line = s.line := rfl
@[simp] theorem State.updDev_seqs (s : State) (i : Device) (g : DevRecord → DevRecord) : (s.updDev i g).seqs = s.seqs := rfl
@[simp] theorem State.updDev_rect (s : State) (i : Device) (g : DevRecord → DevRecord) : (s.updDev i g).rect = s.rect := rfl
@[simp] theorem State.updDev_banks (s : State) (i : Device) (g : DevRecord → DevRecord) : (s.updDev i g).banks = s.banks := rfl
@[simp] theorem State.updDev_reports (s : State) (i : Device) (g : DevRecord → DevRecord) : (s.updDev i g).reports = s.reports := rfl
@[simp] theorem State.updDev_capture (s : State) (i : Device) (g : DevRecord → DevRecord) : (s.updDev i g).capture = s.capture := rfl
@[simp] theorem State.updDev_freeCount (s : State) (i : Device) (g : DevRecord → DevRecord) : (s.updDev i g).freeCount = s.freeCount := rfl
@[simp] theorem State.updDev_pending (s : State) (i : Device) (g : DevRecord → DevRecord) : (s.updDev i g).pending = s.pending := rfl
@[simp] theorem State.updDev_chan (s : State) (i : Device) (g : DevRecord → DevRecord) (j : Fin 24) : (s.updDev i g).chan j = s.chan j := rfl
@[simp] theorem State.updDev_ev (s : State) (i : Device) (g : DevRecord → DevRecord) (j : Fin 8) : (s.updDev i g).ev j = s.ev j := rfl
@[simp] theorem State.updDev_seq (s : State) (i : Device) (g : DevRecord → DevRecord) (j : Fin 8) : (s.updDev i g).seq j = s.seq j := rfl

/-! ## The updated element, and the others -/

@[simp] theorem State.updChan_chan_same (s : State) (i : Fin 24) (g : Channel → Channel) : (s.updChan i g).chan i = g (s.chan i) := by
  simp [State.updChan, State.chan]

theorem State.updChan_chan_ne (s : State) {i j : Fin 24} (g : Channel → Channel) (h : j ≠ i) : (s.updChan i g).chan j = s.chan j := by
  simp only [State.updChan, State.chan, Fin.getElem_fin]
  rw [Vector.getElem_set_ne]
  exact fun hv => h (Fin.ext hv.symm)

@[simp] theorem State.updEv_ev_same (s : State) (i : Fin 8) (g : Evaluator → Evaluator) : (s.updEv i g).ev i = g (s.ev i) := by
  simp [State.updEv, State.ev]

theorem State.updEv_ev_ne (s : State) {i j : Fin 8} (g : Evaluator → Evaluator) (h : j ≠ i) : (s.updEv i g).ev j = s.ev j := by
  simp only [State.updEv, State.ev, Fin.getElem_fin]
  rw [Vector.getElem_set_ne]
  exact fun hv => h (Fin.ext hv.symm)

@[simp] theorem State.updSeq_seq_same (s : State) (i : Fin 8) (g : Sequencer → Sequencer) : (s.updSeq i g).seq i = g (s.seq i) := by
  simp [State.updSeq, State.seq]

theorem State.updSeq_seq_ne (s : State) {i j : Fin 8} (g : Sequencer → Sequencer) (h : j ≠ i) : (s.updSeq i g).seq j = s.seq j := by
  simp only [State.updSeq, State.seq, Fin.getElem_fin]
  rw [Vector.getElem_set_ne]
  exact fun hv => h (Fin.ext hv.symm)

@[simp] theorem State.updDev_dev_same (s : State) (d : Device) (g : DevRecord → DevRecord) :
    (s.updDev d g).dev d = g (s.dev d) := by simp [State.updDev, State.dev]

theorem State.updDev_dev_ne (s : State) {d e : Device} (g : DevRecord → DevRecord) (h : e ≠ d) :
    (s.updDev d g).dev e = s.dev e := by
  simp only [State.updDev, State.dev]
  exact PerDevice.get_set_ne _ _ h

end Sys2Proof.Machine
end

