-- ==== Sys2Proof/Laws/Ops.lean ====
section
/-! SUPPORT. What the shared operations over time and free values can do: advanceTo, whenExpired, forEach. -/

namespace Sys2Proof.Machine

/-- The time base never moves back, and stands at the later of the two times. -/
@[simp] theorem advanceTo_now (t : Nat) (s : State) : (advanceTo t s).time.now = max s.time.now t := by
  unfold advanceTo
  split
  · next h => exact (Nat.max_eq_left h).symm
  · next h => exact (Nat.max_eq_right (Nat.le_of_not_le h)).symm

/-- Whatever advanceTo does, it changes the time base alone. -/
theorem advanceTo_eq (t : Nat) (s : State) : advanceTo t s = { s with time := (advanceTo t s).time } := by
  unfold advanceTo
  split <;> rfl

/-- A time already reached changes nothing. -/
theorem advanceTo_of_le {t : Nat} {s : State} (h : t ≤ s.time.now) : advanceTo t s = s := if_pos h

@[simp] theorem advanceTo_unset (t : Nat) (s : State) : (advanceTo t s).time.unset = s.time.unset := by
  unfold advanceTo
  split <;> rfl

@[simp] theorem advanceTo_ring (t : Nat) (s : State) : (advanceTo t s).ring = s.ring := by rw [advanceTo_eq]
@[simp] theorem advanceTo_matcher (t : Nat) (s : State) : (advanceTo t s).matcher = s.matcher := by rw [advanceTo_eq]
@[simp] theorem advanceTo_chans (t : Nat) (s : State) : (advanceTo t s).chans = s.chans := by rw [advanceTo_eq]
@[simp] theorem advanceTo_evs (t : Nat) (s : State) : (advanceTo t s).evs = s.evs := by rw [advanceTo_eq]
@[simp] theorem advanceTo_devs (t : Nat) (s : State) : (advanceTo t s).devs = s.devs := by rw [advanceTo_eq]
@[simp] theorem advanceTo_line (t : Nat) (s : State) : (advanceTo t s).line = s.line := by rw [advanceTo_eq]
@[simp] theorem advanceTo_seqs (t : Nat) (s : State) : (advanceTo t s).seqs = s.seqs := by rw [advanceTo_eq]
@[simp] theorem advanceTo_rect (t : Nat) (s : State) : (advanceTo t s).rect = s.rect := by rw [advanceTo_eq]
@[simp] theorem advanceTo_banks (t : Nat) (s : State) : (advanceTo t s).banks = s.banks := by rw [advanceTo_eq]
@[simp] theorem advanceTo_reports (t : Nat) (s : State) : (advanceTo t s).reports = s.reports := by rw [advanceTo_eq]
@[simp] theorem advanceTo_capture (t : Nat) (s : State) : (advanceTo t s).capture = s.capture := by rw [advanceTo_eq]
@[simp] theorem advanceTo_pending (t : Nat) (s : State) : (advanceTo t s).pending = s.pending := by rw [advanceTo_eq]

@[simp] theorem advanceTo_chan (t : Nat) (s : State) (c : Fin 24) : (advanceTo t s).chan c = s.chan c := by
  simp [State.chan]

@[simp] theorem advanceTo_ev (t : Nat) (s : State) (f : Fin 8) : (advanceTo t s).ev f = s.ev f := by simp [State.ev]

@[simp] theorem advanceTo_seq (t : Nat) (s : State) (f : Fin 8) : (advanceTo t s).seq f = s.seq f := by
  simp [State.seq]

@[simp] theorem advanceTo_dev (t : Nat) (s : State) (d : Device) : (advanceTo t s).dev d = s.dev d := by
  simp [State.dev]

/-- A stopped timer's expiry does nothing. -/
@[simp] theorem whenExpired_none (k : State → State) (s : State) : whenExpired none k s = s := rfl

/-- A running timer's expiry acts at its time. -/
@[simp] theorem whenExpired_some (d : Nat) (k : State → State) (s : State) :
    whenExpired (some d) k s = k (advanceTo d s) := rfl

@[simp] theorem forEach_nil {α : Type} (k : α → State → State) (s : State) : forEach [] k s = s := rfl

@[simp] theorem forEach_cons {α : Type} (x : α) (l : List α) (k : α → State → State) (s : State) :
    forEach (x :: l) k s = forEach l k (k x s) := rfl

/-- What each turn of a forEach keeps, the whole of it keeps. -/
theorem forEach_keeps {α : Type} (p : State → Prop) (k : α → State → State) (l : List α)
    (h : ∀ x ∈ l, ∀ s, p s → p (k x s)) (s : State) (hs : p s) : p (forEach l k s) := by
  induction l generalizing s with
  | nil => exact hs
  | cons x l ih =>
    exact ih (fun y hy => h y (List.mem_cons_of_mem x hy)) (k x s) (h x List.mem_cons_self s hs)

/-- A part of the state that no turn touches is as it was. -/
theorem forEach_frame {α β : Type} (view : State → β) (k : α → State → State) (l : List α)
    (h : ∀ x s, view (k x s) = view s) (s : State) : view (forEach l k s) = view s :=
  forEach_keeps (fun t => view t = view s) k l (fun x _ t ht => (h x t).trans ht) s rfl

/-- Every feeder is in the list of feeders. -/
theorem mem_feeders (f : Fin 8) : f ∈ feeders := by
  revert f
  decide

/-- Every device is in the list of devices. -/
theorem mem_deviceList (d : Device) : d ∈ deviceList := by
  cases d with
  | fm f => simp [deviceList, mem_feeders]
  | ft f => simp [deviceList, mem_feeders]
  | dcm => simp [deviceList]
  | acm => simp [deviceList]

end Sys2Proof.Machine
end

