-- ==== Sys2Proof/Laws/Adoption.lean ====
section
/-! SUPPORT. The Setting Bank Store's small lemmas, and when a step's end adopts anything. -/

namespace Sys2Proof.Machine

@[simp] theorem setBankBytes_same (k : BankId) (l : List Byte) (s : State) : bankBytes k (setBankBytes k l s) = l := by
  cases k <;> rfl

@[simp] theorem setBankState_same (k : BankId) (st : BankState) (s : State) : bankState k (setBankState k st s) = st := by
  cases k <;> rfl

@[simp] theorem setBankBytes_state (k j : BankId) (l : List Byte) (s : State) :
    bankState j (setBankBytes k l s) = bankState j s := by
  cases k <;> cases j <;> rfl

@[simp] theorem setBankState_bytes (k j : BankId) (st : BankState) (s : State) :
    bankBytes j (setBankState k st s) = bankBytes j s := by
  cases k <;> cases j <;> rfl

@[simp] theorem setBankBytes_other (k : BankId) (l : List Byte) (s : State) :
    bankBytes (otherBank k) (setBankBytes k l s) = bankBytes (otherBank k) s := by
  cases k <;> rfl

@[simp] theorem setBankState_other (k : BankId) (st : BankState) (s : State) :
    bankState (otherBank k) (setBankState k st s) = bankState (otherBank k) s := by
  cases k <;> rfl

@[simp] theorem setBankState_target (k : BankId) (st : BankState) (s : State) :
    (setBankState k st s).banks.target = s.banks.target := by
  cases k <;> rfl

@[simp] theorem setBankState_active (k : BankId) (st : BankState) (s : State) :
    (setBankState k st s).banks.active = s.banks.active := by
  cases k <;> rfl

@[simp] theorem setBankState_mask (k : BankId) (st : BankState) (s : State) :
    (setBankState k st s).banks.mask = s.banks.mask := by
  cases k <;> rfl

/-- The two banks are different. -/
@[simp] theorem otherBank_ne (k : BankId) : otherBank k ≠ k := by cases k <;> decide

@[simp] theorem otherBank_otherBank (k : BankId) : otherBank (otherBank k) = k := by cases k <;> rfl

/-- The standby bank is never the active one. -/
theorem standby_ne_active (s : State) (k : BankId) (h : s.banks.active = some k) : standby s ≠ k := by
  rw [standby, h]
  exact otherBank_ne k

/-- With no switch-over pending a step's end changes nothing (R149). -/
theorem finish_of_settled {s : State} (h : s.banks.target = none) : finish s = s := by
  simp [finish, switchPending, h]

/-- So with the crossing's adoption. -/
theorem adoptRectAtCrossing_of_settled {s : State} (h : s.banks.target = none) : adoptRectAtCrossing s = s := by
  simp [adoptRectAtCrossing, switchPending, h]

/-- With no target nobody adopts. -/
theorem adoptIf_of_settled (k : Fin 13) (safe : State → Bool) (adopt : List Byte → State → State) {s : State}
    (h : s.banks.target = none) : adoptIf k safe adopt s = s := by
  simp [adoptIf, h]

/-- The two ways in which a consumer can answer a pending switch-over (R149). -/
theorem adoptIf_cases (k : Fin 13) (safe : State → Bool) (adopt : List Byte → State → State) (s : State) :
    adoptIf k safe adopt s = s ∨ ∃ t, s.banks.target = some t ∧ marked k s = true ∧ safe s = true ∧
      adoptIf k safe adopt s = clearMark k (adopt (bankBytes t s) s) := by
  unfold adoptIf
  split
  · exact .inl rfl
  · next t ht =>
    split
    · next hm =>
      simp only [Bool.and_eq_true] at hm
      exact .inr ⟨t, ht, hm.1, hm.2, rfl⟩
    · exact .inl rfl

/-- What each consumer's adoption keeps, a round of the sweep keeps. -/
theorem sweeps_keeps (p : State → Prop) (h : ∀ s, p s → p (sweepOnce s)) (n : Nat) (s : State) (hs : p s) :
    p (sweeps n s) := by
  induction n generalizing s with
  | zero => exact hs
  | succ n ih => exact ih _ (h s hs)

end Sys2Proof.Machine
end

