-- ==== Sys2Proof/Laws/Banks.lean ====
section
/-! SUPPORT. What the search for structural faults finds, and what one clamp does. -/

namespace Sys2Proof.Machine

/-- R144: no fault is found exactly when no check fails. -/
theorem firstFault_eq_none {bank : List Byte} :
    firstFault bank = none ↔ ∀ c ∈ structuralChecks bank, c.2 = false := by
  simp [firstFault, List.find?_eq_none]

/-- R144: the fault found is that of the first check that fails. -/
theorem firstFault_eq_some {bank : List Byte} {r : FieldRef} : firstFault bank = some r ↔
    ∃ pre post, structuralChecks bank = pre ++ (r, true) :: post ∧ ∀ c ∈ pre, c.2 = false := by
  simp [firstFault, List.find?_eq_some_iff_append]

/-- R145: a clamped value lies within its range. -/
theorem clampNat_within {lo hi : Nat} (h : lo ≤ hi) (x : Nat) : lo ≤ clampNat lo hi x ∧ clampNat lo hi x ≤ hi := by
  unfold clampNat
  split
  · omega
  · split <;> omega

/-- R145: a value within its range is left as it is. -/
theorem clampNat_of_within {lo hi x : Nat} (hl : lo ≤ x) (hh : x ≤ hi) : clampNat lo hi x = x := by
  unfold clampNat
  split
  · omega
  · split <;> omega

/-- R145: a field that lies within its range leaves the clamping as it was. -/
theorem clampField_of_within {c : Clamping} {r : FieldRange}
    (h : let v := if r.width = 1 then field8 c.bank r.table r.entry r.off else field16 c.bank r.table r.entry r.off
      boundIn c.bank r.table r.entry r.lo ≤ v ∧ v ≤ boundIn c.bank r.table r.entry r.hi) : clampField c r = c := by
  unfold clampField
  simp only [clampNat_of_within h.1 h.2, decide_true, Bool.true_or, if_true]

end Sys2Proof.Machine
end

