-- ==== Sys2Proof/Laws/Reports.lean ====
section
/-! SUPPORT. What the operations of the Report Queue can do. -/

namespace Sys2Proof.Machine

/-- A submission changes the Report Queue alone. -/
theorem submit_eq (code : ReportCode) (src : Source) (cause : Option Nat) (value : Option Int) (slot : Option (Fin 4))
    (s : State) : submit code src cause value slot s =
      { s with reports := (submit code src cause value slot s).reports } := rfl

/-- So does a report. -/
theorem report_eq (code : ReportCode) (src : Source) (cause : Option Nat) (value : Option Int) (s : State) :
    report code src cause value s = { s with reports := (report code src cause value s).reports } := rfl

/-- An entry that joins adds 1 to the accepted counter and to the length. -/
theorem enterReport_accounts (r : Report) (q : ReportQueue)
    (h : q.accepted = q.read + q.displaced + BitVec.ofNat 32 q.queue.length) :
    (enterReport r q).accepted =
      (enterReport r q).read + (enterReport r q).displaced + BitVec.ofNat 32 (enterReport r q).queue.length := by
  simp only [enterReport, List.length_append, List.length_singleton, BitVec.ofNat_add]
  rw [h]
  exact BitVec.add_assoc _ _ _

/-- Entries that stand at the lowest rank are at the rank the fold finds. -/
theorem le_foldl_max (l : List Report) (m : Nat) : m ≤ l.foldl (fun m r => max m (reportRank r)) m := by
  induction l generalizing m with
  | nil => exact Nat.le_refl m
  | cons r l ih => exact Nat.le_trans (Nat.le_max_left m _) (ih _)

/-- No entry of the queue is below the lowest class present. -/
theorem reportRank_le_lowestRank (l : List Report) (r : Report) (h : r ∈ l) : reportRank r ≤ lowestRank l := by
  unfold lowestRank
  generalize 0 = m
  induction l generalizing m with
  | nil => cases h
  | cons x l ih =>
    rcases List.mem_cons.1 h with rfl | h
    · exact Nat.le_trans (Nat.le_max_right m _) (le_foldl_max l _)
    · exact ih h _

/-- The greatest rank found is the starting one or some entry's. -/
theorem foldl_max_mem (l : List Report) (m : Nat) :
    l.foldl (fun m r => max m (reportRank r)) m = m ∨
      ∃ r ∈ l, reportRank r = l.foldl (fun m r => max m (reportRank r)) m := by
  induction l generalizing m with
  | nil => exact .inl rfl
  | cons x l ih =>
    rcases ih (max m (reportRank x)) with h | ⟨r, hr, h⟩
    · rcases Nat.le_total m (reportRank x) with hx | hx
      · exact .inr ⟨x, List.mem_cons_self, by simp only [List.foldl_cons]; rw [h, Nat.max_eq_right hx]⟩
      · exact .inl (by simp only [List.foldl_cons]; rw [h, Nat.max_eq_left hx])
    · exact .inr ⟨r, List.mem_cons_of_mem x hr, h⟩

/-- A queue that is not empty holds an entry of its lowest class. -/
theorem lowestRank_mem (l : List Report) (h : l ≠ []) : ∃ r ∈ l, reportRank r = lowestRank l := by
  rcases foldl_max_mem l 0 with h0 | h1
  · cases l with
    | nil => exact absurd rfl h
    | cons x l =>
      refine ⟨x, List.mem_cons_self, Nat.le_antisymm (reportRank_le_lowestRank _ x List.mem_cons_self) ?_⟩
      show lowestRank (x :: l) ≤ reportRank x
      rw [lowestRank, h0]
      exact Nat.zero_le _
  · exact h1

/-- R158: a displacement shortens a queue that is not empty by one. -/
theorem displaceReport_length (q : ReportQueue) (h : q.queue ≠ []) :
    (displaceReport q).queue.length = q.queue.length - 1 := by
  obtain ⟨r, hr, hx⟩ := lowestRank_mem q.queue h
  exact List.length_eraseP_of_mem hr (by simpa using hx)

/-- The three ways in which an offered entry is taken (R157, R158). -/
theorem offerReport_cases (r : Report) (q : ReportQueue) :
    (q.queue.length < 64 ∧ offerReport r q = enterReport r q) ∨
    (64 ≤ q.queue.length ∧ reportRank r < lowestRank q.queue ∧ offerReport r q = enterReport r (displaceReport q)) ∨
    (64 ≤ q.queue.length ∧ lowestRank q.queue ≤ reportRank r ∧
      offerReport r q = { q with dropped := q.dropped + 1 }) := by
  unfold offerReport
  split
  · next h => exact .inl ⟨h, rfl⟩
  · next h =>
    split
    · next h' => exact .inr (.inl ⟨Nat.le_of_not_lt h, h', rfl⟩)
    · next h' => exact .inr (.inr ⟨Nat.le_of_not_lt h, Nat.le_of_not_lt h', rfl⟩)

/-- A queue of at most 64 entries stays so. -/
theorem offerReport_bounded (r : Report) (q : ReportQueue) (h : q.queue.length ≤ 64) :
    (offerReport r q).queue.length ≤ 64 := by
  rcases offerReport_cases r q with ⟨hl, e⟩ | ⟨hl, hr, e⟩ | ⟨hl, hr, e⟩
  · rw [e]; simp only [enterReport, List.length_append, List.length_singleton]; omega
  · have hne : q.queue ≠ [] := by rintro h0; simp [h0] at hl
    rw [e]
    simp only [enterReport, List.length_append, List.length_singleton, displaceReport_length q hne]
    omega
  · rw [e]; exact h

/-- What a submission does to the Report Queue: the occurrence counter goes up, and an enabled class offers the
entry (R155). -/
theorem submit_reports (code : ReportCode) (src : Source) (cause : Option Nat) (value : Option Int)
    (slot : Option (Fin 4)) (s : State) : (submit code src cause value slot s).reports =
      if classEnabled s.reports.mask (classOf code)
      then offerReport (stampReport s code src cause value slot) (raiseOccurrence (classOf code) s.reports)
      else raiseOccurrence (classOf code) s.reports := rfl

/-- The mask is not touched by a submission. -/
@[simp] theorem submit_mask (code : ReportCode) (src : Source) (cause : Option Nat) (value : Option Int)
    (slot : Option (Fin 4)) (s : State) : (submit code src cause value slot s).reports.mask = s.reports.mask := by
  rw [submit_reports]
  split
  · rcases offerReport_cases (stampReport s code src cause value slot) (raiseOccurrence (classOf code) s.reports) with
      ⟨_, e⟩ | ⟨_, _, e⟩ | ⟨_, _, e⟩ <;> rw [e] <;> rfl
  · rfl

/-- Every class's occurrence counter but the code's own is as it was. -/
theorem submit_occurred (code : ReportCode) (src : Source) (cause : Option Nat) (value : Option Int)
    (slot : Option (Fin 4)) (s : State) : (submit code src cause value slot s).reports.occurred =
      s.reports.occurred.set (classRank (classOf code)) (bump s.reports.occurred[classRank (classOf code)]) := by
  rw [submit_reports]
  split
  · rcases offerReport_cases (stampReport s code src cause value slot) (raiseOccurrence (classOf code) s.reports) with
      ⟨_, e⟩ | ⟨_, _, e⟩ | ⟨_, _, e⟩ <;> rw [e] <;> rfl
  · rfl

/-- R159: reading removes the head entries and counts them. -/
theorem removeEntries_eq (n : Nat) (s : State) : removeEntries n s = { s with reports := { s.reports with
    queue := s.reports.queue.drop n
    read := s.reports.read + BitVec.ofNat 32 (min n s.reports.queue.length) } } := rfl

end Sys2Proof.Machine
end

