-- ==== Sys2Proof/Laws/Capture.lean ====
section
/-! SUPPORT. What the operations of the Capture Unit can do. -/

namespace Sys2Proof.Machine

/-- Every slot is in the list of slots. -/
theorem mem_allSlots (i : Fin 4) : i ∈ allSlots := by
  revert i
  decide

/-- A slot found in a state is in it. -/
theorem inState_some {c : CaptureUnit} {st : SlotState} {i : Fin 4} (h : c.inState st = some i) :
    c.slots[i].state = st := by
  simpa using List.find?_some h

/-- No slot found in a state: none is in it. -/
theorem inState_none {c : CaptureUnit} {st : SlotState} (h : c.inState st = none) (i : Fin 4) :
    c.slots[i].state ≠ st := by
  have := List.find?_eq_none.1 h i (mem_allSlots i)
  simpa using this

/-- Arming leaves the settings, the order list, the counters and what was handed over. -/
theorem armIfPossible_eq (c : CaptureUnit) : armIfPossible c = { c with slots := (armIfPossible c).slots } := by
  unfold armIfPossible
  split <;> rfl

/-- The two ways in which arming can go (R167). -/
theorem armIfPossible_cases (c : CaptureUnit) :
    armIfPossible c = c ∨ ∃ t i, c.settings = some t ∧ c.inState .armed = none ∧ c.inState .free = some i ∧
      armIfPossible c = { c with slots := c.slots.set i (armedSlot t.chans) } := by
  unfold armIfPossible
  split
  · next t i ht ha hf => exact .inr ⟨t, i, ht, ha, hf, rfl⟩
  · exact .inl rfl

/-- The window keeps at most its length. -/
theorem latest_length {α : Type} (n : Nat) (l : List α) : (latest n l).length ≤ n := by
  simp only [latest, List.length_drop]
  omega

/-- A position records under its own channel and keeps its pre-trigger count. -/
theorem recordPos_keeps (st : SlotState) (new : List Instant) (p : SlotPos) :
    (recordPos st new p).chan = p.chan ∧ (recordPos st new p).pre = p.pre := by
  unfold recordPos
  split <;> exact ⟨rfl, rfl⟩

/-- R171: a position never takes more than 960 post-trigger instants. -/
theorem recordPos_post (st : SlotState) (new : List Instant) (p : SlotPos) (h : p.post ≤ 960) :
    (recordPos st new p).post ≤ 960 := by
  unfold recordPos
  split
  · exact h
  · simp only [List.length_take]
    omega
  · exact h

/-- Recording leaves the state, the triggers and the marks of a slot. -/
theorem recordSlot_eq (c : Fin 24) (new : List Instant) (t : Slot) :
    recordSlot c new t = { t with positions := (recordSlot c new t).positions } := rfl

/-- A trigger changes the Capture Unit and, when missed, the Report Queue. -/
theorem trigger_eq (cause : Cause) (src : Source) (s : State) :
    (trigger cause src s).2 =
      { s with capture := (trigger cause src s).2.capture, reports := (trigger cause src s).2.reports } := by
  unfold trigger
  split
  · rfl
  · split
    · rfl
    · split <;> rfl

theorem triggerOnly_eq (cause : Cause) (src : Source) (s : State) : triggerOnly cause src s =
    { s with capture := (triggerOnly cause src s).capture, reports := (triggerOnly cause src s).reports } :=
  trigger_eq cause src s

/-- The four ways in which a trigger is taken (R169). -/
theorem trigger_cases (cause : Cause) (src : Source) (s : State) :
    (∃ i, s.capture.inState .filling = some i ∧ trigger cause src s = (some i, mergeTrigger i cause src s)) ∨
    (∃ i, s.capture.inState .filling = none ∧ s.capture.inState .armed = some i ∧
      trigger cause src s = (some i, startFilling i cause src s)) ∨
    (∃ i, s.capture.inState .filling = none ∧ s.capture.inState .armed = none ∧ overwritable s.capture = some i ∧
      trigger cause src s = (some i, startFilling i cause src (s.updCapture (overwriteSlot i)))) ∨
    (s.capture.inState .filling = none ∧ s.capture.inState .armed = none ∧ overwritable s.capture = none ∧
      trigger cause src s = (none, report .captureMissed .capture (some (causeCode cause)) (some (sourceCode src))
        (s.updCapture fun c => { c with counters := { c.counters with missed := bump c.counters.missed } }))) := by
  unfold trigger
  split
  · next i h => exact .inl ⟨i, h, rfl⟩
  · next h =>
    split
    · next i ha => exact .inr (.inl ⟨i, h, ha, rfl⟩)
    · next ha =>
      split
      · next i ho => exact .inr (.inr (.inl ⟨i, h, ha, ho, rfl⟩))
      · next ho => exact .inr (.inr (.inr ⟨h, ha, ho, rfl⟩))

/-- The end of a filling changes the Capture Unit and the Report Queue. -/
theorem endFilling_eq (i : Fin 4) (truncated : Bool) (s : State) : endFilling i truncated s =
    { s with capture := (endFilling i truncated s).capture, reports := (endFilling i truncated s).reports } := rfl

end Sys2Proof.Machine
end

