-- ==== Sys2Proof/Laws/Line.lean ====
section
/-! SUPPORT. What the operations of the Intertrip Controller can do. -/

namespace Sys2Proof.Machine

/-- An enqueue changes the transmit queue alone. -/
theorem enqueue_eq (f : Fin 8) (k : Kind) (s : State) :
    enqueue f k s = { s with line := { s.line with queue := (enqueue f k s).line.queue } } := by
  unfold enqueue
  split
  · rfl
  · split <;> rfl

@[simp] theorem enqueue_time (f : Fin 8) (k : Kind) (s : State) : (enqueue f k s).time = s.time := by rw [enqueue_eq]
@[simp] theorem enqueue_ring (f : Fin 8) (k : Kind) (s : State) : (enqueue f k s).ring = s.ring := by rw [enqueue_eq]
@[simp] theorem enqueue_chans (f : Fin 8) (k : Kind) (s : State) : (enqueue f k s).chans = s.chans := by rw [enqueue_eq]
@[simp] theorem enqueue_evs (f : Fin 8) (k : Kind) (s : State) : (enqueue f k s).evs = s.evs := by rw [enqueue_eq]
@[simp] theorem enqueue_devs (f : Fin 8) (k : Kind) (s : State) : (enqueue f k s).devs = s.devs := by rw [enqueue_eq]
@[simp] theorem enqueue_seqs (f : Fin 8) (k : Kind) (s : State) : (enqueue f k s).seqs = s.seqs := by rw [enqueue_eq]
@[simp] theorem enqueue_rect (f : Fin 8) (k : Kind) (s : State) : (enqueue f k s).rect = s.rect := by rw [enqueue_eq]
@[simp] theorem enqueue_banks (f : Fin 8) (k : Kind) (s : State) : (enqueue f k s).banks = s.banks := by rw [enqueue_eq]
@[simp] theorem enqueue_reports (f : Fin 8) (k : Kind) (s : State) : (enqueue f k s).reports = s.reports := by
  rw [enqueue_eq]
@[simp] theorem enqueue_capture (f : Fin 8) (k : Kind) (s : State) : (enqueue f k s).capture = s.capture := by
  rw [enqueue_eq]

/-- The codes on the transmit queue after an enqueue: the same, or one more at the tail that was not there (R78). -/
theorem enterTx_codes (b : Bool) (code : Byte) (k : Kind) (q : List TxEntry) :
    (enterTx b code k q).map (·.code) =
      if code ∈ q.map (·.code) then q.map (·.code) else q.map (·.code) ++ [code] := by
  induction q generalizing b with
  | nil => simp [enterTx]
  | cons e q ih =>
    unfold enterTx
    split
    · next h =>
      have hs : (supersede b k e).code = e.code := by
        unfold supersede
        split <;> rfl
      simp [hs, h]
    · next h =>
      rw [List.map_cons, ih, List.map_cons]
      by_cases hc : code ∈ q.map (·.code)
      · rw [if_pos hc, if_pos (List.mem_cons_of_mem _ hc)]
      · rw [if_neg hc, if_neg fun hm => (List.mem_cons.1 hm).elim (fun he => h he.symm) hc]
        rfl

/-- R78: at most one entry for a section, kept by every enqueue. -/
theorem enterTx_nodup (b : Bool) (code : Byte) (k : Kind) (q : List TxEntry) (h : (q.map (·.code)).Nodup) :
    ((enterTx b code k q).map (·.code)).Nodup := by
  rw [enterTx_codes]
  split
  · exact h
  · next hc => exact List.nodup_append.2 ⟨h, by simp, fun x hx y hy => by
      rw [List.mem_singleton.1 hy]
      exact fun e => hc (e ▸ hx)⟩

/-- Clearing the head's change mark keeps the codes. -/
@[simp] theorem clearHeadMark_codes (q : List TxEntry) : (clearHeadMark q).map (·.code) = q.map (·.code) := by
  cases q <;> rfl

/-- An event on the line changes the Intertrip Controller alone. -/
theorem updWires_eq (g : LineCtl → LineCtl) (s : State) :
    updWires g s = { s with line := (g s.line).timed s.time.now } := rfl

@[simp] theorem updWires_line (g : LineCtl → LineCtl) (s : State) :
    (updWires g s).line = (g s.line).timed s.time.now := rfl
@[simp] theorem LineCtl.timed_table (n : Nat) (l : LineCtl) : (l.timed n).table = l.table := rfl
@[simp] theorem LineCtl.timed_state (n : Nat) (l : LineCtl) : (l.timed n).state = l.state := rfl
@[simp] theorem LineCtl.timed_queue (n : Nat) (l : LineCtl) : (l.timed n).queue = l.queue := rfl
@[simp] theorem LineCtl.timed_clocks (n : Nat) (l : LineCtl) : (l.timed n).clocks = l.clocks := rfl
@[simp] theorem LineCtl.timed_heard (n : Nat) (l : LineCtl) : (l.timed n).heard = l.heard := rfl
@[simp] theorem LineCtl.timed_inFlight (n : Nat) (l : LineCtl) : (l.timed n).inFlight = l.inFlight := rfl
@[simp] theorem LineCtl.timed_ckLow (n : Nat) (l : LineCtl) : (l.timed n).ckLow = l.ckLow := rfl
@[simp] theorem LineCtl.timed_dtLow (n : Nat) (l : LineCtl) : (l.timed n).dtLow = l.dtLow := rfl
@[simp] theorem LineCtl.timed_driveCk (n : Nat) (l : LineCtl) : (l.timed n).driveCk = l.driveCk := rfl
@[simp] theorem LineCtl.timed_driveDt (n : Nat) (l : LineCtl) : (l.timed n).driveDt = l.driveDt := rfl
@[simp] theorem LineCtl.timed_accepted (n : Nat) (l : LineCtl) : (l.timed n).accepted = l.accepted := rfl
@[simp] theorem LineCtl.timed_phaseAt (n : Nat) (l : LineCtl) : (l.timed n).phaseAt = l.phaseAt := rfl
@[simp] theorem LineCtl.timed_counters (n : Nat) (l : LineCtl) : (l.timed n).counters = l.counters := rfl

/-- R65, R69: after an event on the line the low timer runs exactly when a wire is low. -/
theorem LineCtl.timed_lowAt (n : Nat) (l : LineCtl) :
    (l.timed n).lowAt ≠ none ↔ l.ckLow = true ∨ l.dtLow = true := by
  unfold LineCtl.timed
  cases l.ckLow <;> cases l.dtLow <;> simp

/-- R65, R68: after an event on the line the bus-free timer runs exactly when both wires are high outside SENDING and
RECEIVING. -/
theorem LineCtl.timed_freeSince (n : Nat) (l : LineCtl) :
    (l.timed n).freeSince ≠ none ↔ l.state ≠ .sending ∧ l.state ≠ .receiving ∧ l.ckLow = false ∧ l.dtLow = false := by
  unfold LineCtl.timed
  cases l.ckLow <;> cases l.dtLow <;> cases l.state <;> simp

/-- A rise of CK moves this part's own time alone, and outside SENDING nothing (R66). -/
theorem LineCtl.risen_cases (d : Nat) (l : LineCtl) :
    l.risen d = l ∧ l.state ≠ .sending ∨ l.risen d = { l with phaseAt := some d } ∧ l.state = .sending ∧ l.clocks < 16 ∨
      l.risen d = { l with phaseAt := none } ∧ l.state = .sending ∧ 16 ≤ l.clocks := by
  unfold LineCtl.risen
  by_cases h : l.state = .sending
  · rw [if_pos h]
    by_cases hc : l.clocks < 16
    · rw [if_pos hc]
      exact .inr (.inl ⟨rfl, h, hc⟩)
    · rw [if_neg hc]
      exact .inr (.inr ⟨rfl, h, by omega⟩)
  · rw [if_neg h]
    exact .inl ⟨rfl, h⟩

/-- What this part drives is low on the wire. -/
theorem LineCtl.drive_low (ck dt : Bool) (l : LineCtl) :
    ((l.drive ck dt).driveCk = true → (l.drive ck dt).ckLow = true) ∧
      ((l.drive ck dt).driveDt = true → (l.drive ck dt).dtLow = true) :=
  ⟨fun h => by simp only [LineCtl.drive] at h ⊢; simp [h], fun h => by simp only [LineCtl.drive] at h ⊢; simp [h]⟩

/-- The line's return to WAITING changes the Intertrip Controller alone, and keeps the table and the counters. -/
theorem goWaiting_eq (s : State) : goWaiting s = { s with line := (goWaiting s).line } := rfl

@[simp] theorem goWaiting_queue (s : State) : (goWaiting s).line.queue = s.line.queue := rfl
@[simp] theorem goWaiting_counters (s : State) : (goWaiting s).line.counters = s.line.counters := rfl
@[simp] theorem startReceive_queue (s : State) : (startReceive s).line.queue = s.line.queue := rfl

/-- The end of a received message keeps the transmit queue. -/
@[simp] theorem endMessage_queue (b : Bool) (s : State) : (endMessage b s).line.queue = s.line.queue := by
  cases b <;> rfl

/-- A start or a stop that breaks a message changes the Intertrip Controller alone (R71). -/
theorem abandonMessage_line (b : Bool) (s : State) : ∃ l, abandonMessage b s = { s with line := l } := by
  unfold abandonMessage
  cases canReceive s.line <;> cases pastSlot s.line <;> cases b <;> exact ⟨_, rfl⟩

/-- So does the start of an attempt (R74). -/
theorem startSending_line (s : State) : ∃ l, startSending s = { s with line := l } := by
  unfold startSending
  split <;> exact ⟨_, rfl⟩

/-- The feeders that a message of a section is for are in service and in the section (R73). -/
theorem mem_sectionFeeders {code : Byte} {s : State} {f : Fin 8} (h : f ∈ sectionFeeders code s) :
    ∃ t, s.line.table = some t ∧ t.sections[f] = code ∧ inService (s.ev f) = true := by
  unfold sectionFeeders at h
  split at h
  · cases h
  · next t ht =>
    have := (List.mem_filter.1 h).2
    simp only [Bool.and_eq_true, decide_eq_true_eq] at this
    exact ⟨t, ht, this⟩

/-- A section that is accepted has an enabled table, a code other than 0, and a feeder in service (R72). -/
theorem accepts_feeder {code : Byte} {s : State} (h : accepts code s = true) :
    ∃ t, s.line.table = some t ∧ t.enable = true ∧ code ≠ 0 ∧
      ∃ f : Fin 8, t.sections[f] = code ∧ inService (s.ev f) = true := by
  unfold accepts at h
  simp only [Bool.and_eq_true, decide_eq_true_eq, Bool.not_eq_true', List.isEmpty_eq_false_iff] at h
  obtain ⟨⟨he, hc⟩, hf⟩ := h
  obtain ⟨f, hf⟩ := List.exists_mem_of_ne_nil _ hf
  obtain ⟨t, ht, hs, hi⟩ := mem_sectionFeeders hf
  rw [ht] at he
  exact ⟨t, ht, he, hc, f, hs, hi⟩

end Sys2Proof.Machine
end

