-- ==== Sys2Proof/Laws/PerInstr.lean ====
section
/-! SUPPORT. Laws of each command as syntax, one lemma for each constructor: a command that can come and that is a
frame's arrival is the arrival of a frame that can be sent, its payload at most 64 bytes (section 11.1). -/

namespace Sys2Proof.Laws

/-- The frame of a command that can come has at most 64 bytes of payload. -/
def Fits.Statement (i : Instr) : Prop :=
  ∀ (own : Byte) (fr : Frame), i.wellFormed = true → frameOfInstr own i = some fr → fr.wellFormed = true

/-- The MANAGE frame of parameters that fit. -/
theorem manageFrame_wellFormed (own src tag code : Byte) (params : List Byte) (h : fitsManage params = true) :
    (manageFrame own src tag code params).wellFormed = true := by
  simp only [fitsManage, decide_eq_true_eq] at h
  exact decide_eq_true (Nat.succ_le_succ (Nat.succ_le_succ h))

/-- A command that is no frame's arrival. -/
theorem fits_of_no_frame {i : Instr} (h : ∀ own, frameOfInstr own i = none) : Fits.Statement i := by
  intro own fr _ hf
  rw [h own] at hf
  cases hf

/-- A command that is the arrival of a MANAGE frame with parameters that fit. -/
theorem fits_of_request {i : Instr} {src tag code : Byte} {params : List Byte}
    (h : ∀ own, frameOfInstr own i = some (manageFrame own src tag code params))
    (hp : i.wellFormed = true → fitsManage params = true) : Fits.Statement i := by
  intro own fr hw hf
  rw [h own, Option.some.injEq] at hf
  rw [← hf]
  exact manageFrame_wellFormed own src tag code params (hp hw)

theorem Fits.coldReset (addr : BitVec 6) (gw : BitVec 2) :
    Fits.Statement (.coldReset addr gw) :=
  fits_of_no_frame fun _ => rfl

theorem Fits.ringFrame (bytes : List Byte) :
    Fits.Statement (.ringFrame bytes) :=
  fits_of_no_frame fun _ => rfl

theorem Fits.sampleFrame (frame : Frame) : Fits.Statement (.sampleFrame frame) := by
  intro own fr hw hf
  simp only [Instr.wellFormed, Bool.and_eq_true] at hw
  simp only [frameOfInstr, Option.some.injEq] at hf
  exact hf ▸ hw.1

theorem Fits.channelArrival (c : Fin 24) : Fits.Statement (.channelArrival c) := fits_of_no_frame fun _ => rfl

theorem Fits.stalenessTimerExpiry (c : Fin 24) :
    Fits.Statement (.stalenessTimerExpiry c) :=
  fits_of_no_frame fun _ => rfl

theorem Fits.evaluatorArrival (f : Fin 8) :
    Fits.Statement (.evaluatorArrival f) :=
  fits_of_no_frame fun _ => rfl

theorem Fits.sequencerArrival (f : Fin 8) :
    Fits.Statement (.sequencerArrival f) :=
  fits_of_no_frame fun _ => rfl

theorem Fits.trackerArrival : Fits.Statement (.trackerArrival) := fits_of_no_frame fun _ => rfl

theorem Fits.rectCurrentArrival : Fits.Statement (.rectCurrentArrival) := fits_of_no_frame fun _ => rfl

theorem Fits.rectBusArrival : Fits.Statement (.rectBusArrival) := fits_of_no_frame fun _ => rfl

theorem Fits.captureArrival : Fits.Statement (.captureArrival) := fits_of_no_frame fun _ => rfl

theorem Fits.positionFrame (frame : Frame) : Fits.Statement (.positionFrame frame) := by
  intro own fr hw hf
  simp only [Instr.wellFormed, Bool.and_eq_true] at hw
  simp only [frameOfInstr, Option.some.injEq] at hf
  exact hf ▸ hw.1

theorem Fits.positionAgeExpiry (d : Device) :
    Fits.Statement (.positionAgeExpiry d) :=
  fits_of_no_frame fun _ => rfl

theorem Fits.repeatTimerExpiry (d : Device) :
    Fits.Statement (.repeatTimerExpiry d) :=
  fits_of_no_frame fun _ => rfl

theorem Fits.openTimerExpiry (d : Device) :
    Fits.Statement (.openTimerExpiry d) :=
  fits_of_no_frame fun _ => rfl

theorem Fits.closeTimerExpiry (d : Device) :
    Fits.Statement (.closeTimerExpiry d) :=
  fits_of_no_frame fun _ => rfl

theorem Fits.deadTimeExpiry (f : Fin 8) : Fits.Statement (.deadTimeExpiry f) := fits_of_no_frame fun _ => rfl

theorem Fits.settleTimerExpiry (f : Fin 8) :
    Fits.Statement (.settleTimerExpiry f) :=
  fits_of_no_frame fun _ => rfl

theorem Fits.reclaimExpiry (f : Fin 8) : Fits.Statement (.reclaimExpiry f) := fits_of_no_frame fun _ => rfl

theorem Fits.holdTimerExpiry (f : Fin 8) :
    Fits.Statement (.holdTimerExpiry f) :=
  fits_of_no_frame fun _ => rfl

theorem Fits.busWaitExpiry (f : Fin 8) : Fits.Statement (.busWaitExpiry f) := fits_of_no_frame fun _ => rfl

theorem Fits.stopStepTimerExpiry : Fits.Statement (.stopStepTimerExpiry) := fits_of_no_frame fun _ => rfl

theorem Fits.firingDue : Fits.Statement (.firingDue) := fits_of_no_frame fun _ => rfl

theorem Fits.gatePulseEnd (g : Fin 12) : Fits.Statement (.gatePulseEnd g) := fits_of_no_frame fun _ => rfl

theorem Fits.fillTimerExpiry (slot : Fin 4) :
    Fits.Statement (.fillTimerExpiry slot) :=
  fits_of_no_frame fun _ => rfl

theorem Fits.validationComplete : Fits.Statement (.validationComplete) := fits_of_no_frame fun _ => rfl

theorem Fits.ringDownTimerExpiry : Fits.Statement (.ringDownTimerExpiry) := fits_of_no_frame fun _ => rfl

theorem Fits.ringOutFrameEnd : Fits.Statement (.ringOutFrameEnd) := fits_of_no_frame fun _ => rfl

theorem Fits.dayRollover : Fits.Statement (.dayRollover) := fits_of_no_frame fun _ => rfl

theorem Fits.intertripMessageReceived (r : Reception) (restart : Bool) :
    Fits.Statement (.intertripMessageReceived r restart) :=
  fits_of_no_frame fun _ => rfl

theorem Fits.messageAbandoned (restart : Bool) :
    Fits.Statement (.messageAbandoned restart) :=
  fits_of_no_frame fun _ => rfl

theorem Fits.lineLowEvent (w : Wire) : Fits.Statement (.lineLowEvent w) := fits_of_no_frame fun _ => rfl

theorem Fits.lowTimerExpiry (held : Held) :
    Fits.Statement (.lowTimerExpiry held) :=
  fits_of_no_frame fun _ => rfl

theorem Fits.busFreeTimerExpiry : Fits.Statement (.busFreeTimerExpiry) := fits_of_no_frame fun _ => rfl

theorem Fits.intertripMessageStart : Fits.Statement (.intertripMessageStart) := fits_of_no_frame fun _ => rfl

theorem Fits.arbitrationLost (clock : Fin 14) :
    Fits.Statement (.arbitrationLost clock) :=
  fits_of_no_frame fun _ => rfl

theorem Fits.sendAttemptEnd (ack : Bool) :
    Fits.Statement (.sendAttemptEnd ack) :=
  fits_of_no_frame fun _ => rfl

theorem Fits.status (src tag : Byte) (params : List Byte) : Fits.Statement (.status src tag params) :=
  fits_of_request (fun _ => rfl) id

theorem Fits.readFeeder (src tag : Byte) (params : List Byte) : Fits.Statement (.readFeeder src tag params) :=
  fits_of_request (fun _ => rfl) id

theorem Fits.readRectifier (src tag : Byte) (params : List Byte) :
    Fits.Statement (.readRectifier src tag params) :=
  fits_of_request (fun _ => rfl) id

theorem Fits.readChannel (src tag : Byte) (params : List Byte) :
    Fits.Statement (.readChannel src tag params) :=
  fits_of_request (fun _ => rfl) id

theorem Fits.readCountersRing (src tag option selector : Byte) (extra : List Byte) :
    Fits.Statement (.readCountersRing src tag option selector extra) :=
  fits_of_request (fun _ => rfl) id

theorem Fits.readCountersStreams (src tag option selector : Byte) (extra : List Byte) :
    Fits.Statement (.readCountersStreams src tag option selector extra) :=
  fits_of_request (fun _ => rfl) id

theorem Fits.readCountersIntertrip (src tag option selector : Byte) (extra : List Byte) :
    Fits.Statement (.readCountersIntertrip src tag option selector extra) :=
  fits_of_request (fun _ => rfl) id

theorem Fits.readCountersReports (src tag option selector : Byte) (extra : List Byte) :
    Fits.Statement (.readCountersReports src tag option selector extra) :=
  fits_of_request (fun _ => rfl) id

theorem Fits.readCountersCapture (src tag option selector : Byte) (extra : List Byte) :
    Fits.Statement (.readCountersCapture src tag option selector extra) :=
  fits_of_request (fun _ => rfl) id

theorem Fits.readCountersFiring (src tag option selector : Byte) (extra : List Byte) :
    Fits.Statement (.readCountersFiring src tag option selector extra) :=
  fits_of_request (fun _ => rfl) id

theorem Fits.writeTable (src tag : Byte) (params : List Byte) : Fits.Statement (.writeTable src tag params) :=
  fits_of_request (fun _ => rfl) id

theorem Fits.readTable (src tag : Byte) (params : List Byte) : Fits.Statement (.readTable src tag params) :=
  fits_of_request (fun _ => rfl) id

theorem Fits.validate (src tag : Byte) (params : List Byte) : Fits.Statement (.validate src tag params) :=
  fits_of_request (fun _ => rfl) id

theorem Fits.activate (src tag : Byte) (params : List Byte) : Fits.Statement (.activate src tag params) :=
  fits_of_request (fun _ => rfl) id

theorem Fits.operateOpen (src tag target : Byte) (extra : List Byte) :
    Fits.Statement (.operateOpen src tag target extra) :=
  fits_of_request (fun _ => rfl) id

theorem Fits.operateClose (src tag target : Byte) (extra : List Byte) :
    Fits.Statement (.operateClose src tag target extra) :=
  fits_of_request (fun _ => rfl) id

theorem Fits.resetLockout (src tag target : Byte) (extra : List Byte) :
    Fits.Statement (.resetLockout src tag target extra) :=
  fits_of_request (fun _ => rfl) id

theorem Fits.closeAc (src tag target : Byte) (extra : List Byte) :
    Fits.Statement (.closeAc src tag target extra) :=
  fits_of_request (fun _ => rfl) id

theorem Fits.deblock (src tag target : Byte) (extra : List Byte) :
    Fits.Statement (.deblock src tag target extra) :=
  fits_of_request (fun _ => rfl) id

theorem Fits.block (src tag target : Byte) (extra : List Byte) :
    Fits.Statement (.block src tag target extra) :=
  fits_of_request (fun _ => rfl) id

theorem Fits.stopFull (src tag target : Byte) (extra : List Byte) :
    Fits.Statement (.stopFull src tag target extra) :=
  fits_of_request (fun _ => rfl) id

theorem Fits.resetRect (src tag target : Byte) (extra : List Byte) :
    Fits.Statement (.resetRect src tag target extra) :=
  fits_of_request (fun _ => rfl) id

theorem Fits.readReports (src tag : Byte) (params : List Byte) :
    Fits.Statement (.readReports src tag params) :=
  fits_of_request (fun _ => rfl) id

theorem Fits.captureList (src tag : Byte) (params : List Byte) :
    Fits.Statement (.captureList src tag params) :=
  fits_of_request (fun _ => rfl) id

theorem Fits.readCapture (src tag : Byte) (params : List Byte) :
    Fits.Statement (.readCapture src tag params) :=
  fits_of_request (fun _ => rfl) id

theorem Fits.releaseCapture (src tag : Byte) (params : List Byte) :
    Fits.Statement (.releaseCapture src tag params) :=
  fits_of_request (fun _ => rfl) id

theorem Fits.triggerCapture (src tag : Byte) (params : List Byte) :
    Fits.Statement (.triggerCapture src tag params) :=
  fits_of_request (fun _ => rfl) id

theorem Fits.setTime (src tag : Byte) (params : List Byte) : Fits.Statement (.setTime src tag params) :=
  fits_of_request (fun _ => rfl) id

theorem Fits.restart (src tag : Byte) (params : List Byte) : Fits.Statement (.restart src tag params) :=
  fits_of_request (fun _ => rfl) id

theorem Fits.unknownRequest (src tag code : Byte) (params : List Byte) :
    Fits.Statement (.unknownRequest src tag code params) :=
  fits_of_request (fun _ => rfl) fun h => by
    simp only [Instr.wellFormed, Bool.and_eq_true] at h
    exact h.2

theorem Fits.bothWiresHigh : Fits.Statement (.bothWiresHigh) := fits_of_no_frame fun _ => rfl

end Sys2Proof.Laws
end

