-- ==== Sys2Proof/Laws/Received.lean ====
section
/-! SUPPORT. What the falls of the intertrip wires and the judgement of a message can do. -/

namespace Sys2Proof.Machine

/-- The judgement of a message changes its acceptance and the counters alone: what the message asks of the feeders waits
for the fall of CK after clock 15 (R71, R72). -/
theorem judgeBits_eq (bits : List Bool) (s : State) : ∃ a c,
    judgeBits bits s = { s with line := { s.line with accepted := a, counters := c } } ∧
      ∀ code k, a = some (code, k) → messageOf bits = some (code, some k) ∧ accepts code s = true := by
  unfold judgeBits
  split
  · exact ⟨_, _, rfl, fun _ _ h => by cases h⟩
  · exact ⟨_, _, rfl, fun _ _ h => by cases h⟩
  · next code k hm =>
    refine ⟨_, _, rfl, fun c' k' h => ?_⟩
    split at h
    · next ha =>
      cases h
      exact ⟨hm, ha⟩
    · cases h

/-- Without an accepted message nothing is applied (R72). -/
@[simp] theorem applyAccepted_none {s : State} (h : s.line.accepted = none) : applyAccepted s = s := by
  unfold applyAccepted
  rw [h]

/-- A fall of CK in the message being received changes the Intertrip Controller alone, unless it is the fall that
follows clock 15 of an accepted message (R71, R72). -/
theorem receiverClock_line {s : State} (h : s.line.accepted = none ∨ s.line.clocks ≠ 15) :
    ∃ l, receiverClock s = { s with line := l } := by
  unfold receiverClock
  dsimp only
  split
  · next hc =>
    simp only [Bool.and_eq_true, decide_eq_true_eq, updWires_line, LineCtl.timed_accepted, LineCtl.drive] at hc
    rcases h with h | h
    · rw [h] at hc
      exact absurd hc.1 (by decide)
    · exact absurd hc.2 (by omega)
  · exact ⟨_, rfl⟩

/-- A fall of CK changes the Intertrip Controller alone, but for that one (R66 to R68, R72, R74). -/
theorem clockFalls_line {s : State} (h : s.line.state = .receiving → s.line.accepted = none ∨ s.line.clocks ≠ 15) :
    ∃ l, clockFalls s = { s with line := l } := by
  unfold clockFalls
  dsimp only
  split
  · exact ⟨_, rfl⟩
  · next hr => exact receiverClock_line (h hr)
  all_goals exact ⟨_, rfl⟩

/-- A fall of DT changes the Intertrip Controller alone (R67, R68, R71). -/
theorem dataFalls_line (s : State) : ∃ l, dataFalls s = { s with line := l } := by
  unfold dataFalls
  dsimp only
  repeat' split
  all_goals first | exact ⟨_, rfl⟩ | exact abandonMessage_line true s

/-- So does a wire's fall, whichever it is, but for the one that applies an accepted message. -/
theorem lineLow_line (w : Wire) {s : State}
    (h : s.line.state = .receiving → s.line.accepted = none ∨ s.line.clocks ≠ 15) :
    ∃ l, lineLow w s = { s with line := l } := by
  cases w <;> unfold lineLow <;> dsimp only <;> split <;>
    first | exact ⟨_, rfl⟩ | exact clockFalls_line h | exact dataFalls_line s

/-- The end of one of a contender's own times changes the Intertrip Controller alone (R66). -/
theorem phaseEnds_line {s : State} (h : s.line.state = .sending) : ∃ l, phaseEnds s = { s with line := l } := by
  unfold phaseEnds
  split
  · exact ⟨_, rfl⟩
  · exact lineLow_line .ck fun hr => by rw [h] at hr; cases hr

/-- A step with no command waiting moves the time on by a cycle, and changes beside it the Intertrip Controller at most,
at the end of a contender's own time (R66). -/
theorem idleCycle_cases (s : State) :
    idleCycle s = tick s ∧ phaseOver (tick s) = false ∨
      ∃ l, idleCycle s = { tick s with line := l } ∧ s.line.state = .sending ∧
        ∃ d, s.line.phaseAt = some d ∧ d ≤ (tick s).time.now := by
  have ht : (tick s).line = s.line := by rw [tick, advanceTo_eq]
  unfold idleCycle
  by_cases h : phaseOver (tick s) = true
  · rw [if_pos h]
    unfold phaseOver at h
    simp only [Bool.and_eq_true, decide_eq_true_eq] at h
    obtain ⟨hs, hd⟩ := h
    obtain ⟨l, hl⟩ := phaseEnds_line hs
    refine .inr ⟨l, hl, ht ▸ hs, ?_⟩
    split at hd
    · cases hd
    · next d hp => exact ⟨d, ht ▸ hp, by simpa using hd⟩
  · rw [if_neg h]
    exact .inl ⟨rfl, by simpa using h⟩

end Sys2Proof.Machine
end

