-- ==== Sys2Proof/Laws/Ring.lean ====
section
/-! SUPPORT. What the arbiter and the joins of the Ring Port can do. -/

namespace Sys2Proof.Machine

/-- The four ways in which the arbiter serves (R187). -/
theorem serve_cases (p : RingPort) :
    (∃ i d fr, nextClaim p = some (i, d, fr) ∧ serve p = { p with
      claims := p.claims.set d none, turn := (i + 1) % 18, out := some fr,
      counters := { p.counters with commands := bump p.counters.commands } }) ∨
    (∃ fr rest, nextClaim p = none ∧ p.relay = fr :: rest ∧ serve p = { p with
      relay := rest, out := some fr, counters := { p.counters with relayed := bump p.counters.relayed } }) ∨
    (∃ fr, nextClaim p = none ∧ p.relay = [] ∧
      (p.answers.filterMap (AnswerPlace.nextFrame p.own)).head? = some fr ∧ serve p = { p with
      answers := beginAnswer p.answers, out := some fr,
      counters := { p.counters with answers := bump p.counters.answers } }) ∨
    (nextClaim p = none ∧ p.relay = [] ∧ (p.answers.filterMap (AnswerPlace.nextFrame p.own)).head? = none ∧
      serve p = { p with out := none }) := by
  unfold serve
  split
  · next i d fr h => exact .inl ⟨i, d, fr, h, rfl⟩
  · next h =>
    split
    · next fr rest hr => exact .inr (.inl ⟨fr, rest, h, hr, rfl⟩)
    · next hr =>
      split
      · next fr ha => exact .inr (.inr (.inl ⟨fr, h, hr, ha, rfl⟩))
      · next ha => exact .inr (.inr (.inr ⟨h, hr, ha, rfl⟩))

/-- While ring-out is busy a frame that joins only waits. -/
theorem kick_busy {p : RingPort} (h : p.out ≠ none) : kick p = p := if_neg h

/-- When ring-out is idle the arbiter serves at once. -/
theorem kick_idle {p : RingPort} (h : p.out = none) : kick p = serve p := if_pos h

/-- Beginning an answer keeps the number of places. -/
@[simp] theorem beginAnswer_length (l : List AnswerPlace) : (beginAnswer l).length = l.length := by
  induction l with
  | nil => rfl
  | cons p l ih =>
    unfold beginAnswer
    split
    · rfl
    · simp [ih]

/-- Beginning an answer keeps which places are unready. -/
theorem beginAnswer_unready (l : List AnswerPlace) :
    ((beginAnswer l).filter fun p => p.answer = none).length = (l.filter fun p => p.answer = none).length := by
  induction l with
  | nil => rfl
  | cons p l ih =>
    unfold beginAnswer
    split
    · simp only [List.filter_cons]
      cases h : p.answer <;> simp
    · simp only [List.filter_cons]
      split <;> simp [ih]

@[simp] theorem serve_own (p : RingPort) : (serve p).own = p.own := by
  rcases serve_cases p with ⟨_, _, _, _, e⟩ | ⟨_, _, _, _, e⟩ | ⟨_, _, _, _, e⟩ | ⟨_, _, _, e⟩ <;> rw [e]

@[simp] theorem serve_mgmt (p : RingPort) : (serve p).mgmt = p.mgmt := by
  rcases serve_cases p with ⟨_, _, _, _, e⟩ | ⟨_, _, _, _, e⟩ | ⟨_, _, _, _, e⟩ | ⟨_, _, _, e⟩ <;> rw [e]

@[simp] theorem serve_ring (p : RingPort) : (serve p).ring = p.ring := by
  rcases serve_cases p with ⟨_, _, _, _, e⟩ | ⟨_, _, _, _, e⟩ | ⟨_, _, _, _, e⟩ | ⟨_, _, _, e⟩ <;> rw [e]

@[simp] theorem serve_downAt (p : RingPort) : (serve p).downAt = p.downAt := by
  rcases serve_cases p with ⟨_, _, _, _, e⟩ | ⟨_, _, _, _, e⟩ | ⟨_, _, _, _, e⟩ | ⟨_, _, _, e⟩ <;> rw [e]

/-- The arbiter takes at most one frame out of the relay buffer and puts none in. -/
theorem serve_relay_length (p : RingPort) : (serve p).relay.length ≤ p.relay.length := by
  rcases serve_cases p with ⟨_, _, _, _, e⟩ | ⟨_, _, _, hr, e⟩ | ⟨_, _, _, _, e⟩ | ⟨_, _, _, e⟩ <;> rw [e]
  rw [hr]
  simp

/-- The arbiter keeps the number of places of the answer queue. -/
@[simp] theorem serve_answers_length (p : RingPort) : (serve p).answers.length = p.answers.length := by
  rcases serve_cases p with ⟨_, _, _, _, e⟩ | ⟨_, _, _, _, e⟩ | ⟨_, _, _, _, e⟩ | ⟨_, _, _, e⟩ <;> rw [e]
  simp

/-- The arbiter keeps the number of unready places. -/
theorem serve_unready (p : RingPort) :
    ((serve p).answers.filter fun a => a.answer = none).length =
      (p.answers.filter fun a => a.answer = none).length := by
  rcases serve_cases p with ⟨_, _, _, _, e⟩ | ⟨_, _, _, _, e⟩ | ⟨_, _, _, _, e⟩ | ⟨_, _, _, e⟩ <;> rw [e]
  exact beginAnswer_unready p.answers

/-- What a kick keeps that serving keeps. -/
theorem kick_keeps {α : Type} (view : RingPort → α) (h : ∀ p, view (serve p) = view p) (p : RingPort) :
    view (kick p) = view p := by
  unfold kick
  split
  · exact h p
  · rfl

@[simp] theorem kick_own (p : RingPort) : (kick p).own = p.own := kick_keeps (·.own) serve_own p
@[simp] theorem kick_mgmt (p : RingPort) : (kick p).mgmt = p.mgmt := kick_keeps (·.mgmt) serve_mgmt p
@[simp] theorem kick_ring (p : RingPort) : (kick p).ring = p.ring := kick_keeps (·.ring) serve_ring p
@[simp] theorem kick_downAt (p : RingPort) : (kick p).downAt = p.downAt := kick_keeps (·.downAt) serve_downAt p
@[simp] theorem kick_answers_length (p : RingPort) : (kick p).answers.length = p.answers.length :=
  kick_keeps (fun q => q.answers.length) serve_answers_length p

theorem kick_unready (p : RingPort) :
    ((kick p).answers.filter fun a => a.answer = none).length =
      (p.answers.filter fun a => a.answer = none).length :=
  kick_keeps (fun q => (q.answers.filter fun a => a.answer = none).length) serve_unready p

theorem kick_relay_length (p : RingPort) : (kick p).relay.length ≤ p.relay.length := by
  unfold kick
  split
  · exact serve_relay_length p
  · exact Nat.le_refl _

/-- R185: the relay buffer never holds more than four frames. -/
theorem joinRelay_bounded (fr : Frame) (p : RingPort) (h : p.relay.length ≤ 4) :
    (joinRelay fr p).relay.length ≤ 4 := by
  unfold joinRelay
  split
  · refine Nat.le_trans (kick_relay_length _) ?_
    simp only [List.length_append, List.length_singleton]
    omega
  · exact h

/-- A join changes the Ring Port alone. -/
theorem placeClaim_eq (d : Device) (fr : Frame) (s : State) :
    placeClaim d fr s = { s with ring := (placeClaim d fr s).ring } := rfl

theorem clearClaim_eq (d : Device) (s : State) : clearClaim d s = { s with ring := (clearClaim d s).ring } := rfl

theorem placeAnswer_eq (dst tag : Byte) (a : Answer) (s : State) :
    placeAnswer dst tag a s = { s with ring := (placeAnswer dst tag a s).ring } := rfl

theorem placeUnready_eq (dst tag : Byte) (s : State) :
    placeUnready dst tag s = { s with ring := (placeUnready dst tag s).ring } := rfl

theorem fillUnready_eq (a : Answer) (s : State) : fillUnready a s = { s with ring := (fillUnready a s).ring } := rfl

/-- An answer takes one place. -/
theorem placeAnswer_length (dst tag : Byte) (a : Answer) (s : State) :
    (placeAnswer dst tag a s).ring.answers.length = s.ring.answers.length + 1 := by
  show (kick _).answers.length = _
  simp

/-- With no claim slot full the arbiter looks further. -/
theorem nextClaim_none {p : RingPort} (h : ∀ d, p.claims.get d = none) : nextClaim p = none := by
  have hmap : (fun (x : Device × Nat) => (p.claims.get x.1).map fun fr => (x.2, x.1, fr)) = fun _ => none := by
    funext x
    rw [h]
    rfl
  show ((deviceList.zipIdx.rotateLeft p.turn).filterMap
    fun (x : Device × Nat) => (p.claims.get x.1).map fun fr => (x.2, x.1, fr)).head? = none
  rw [hmap]
  simp

end Sys2Proof.Machine
end

