-- ==== Sys2Proof/Laws/Switchgear.lean ====
section
/-! SUPPORT. What taking, ending and repeating a device's command can do, and the OPEN and CLOSE requests. -/

namespace Sys2Proof.Machine

/-- R103: a lockout touches the sequence, the reports and the transmit queue. -/
theorem lockout_eq (f : Fin 8) (cause : LockoutCause) (s : State) : lockout f cause s =
    { s with seqs := (lockout f cause s).seqs, reports := (lockout f cause s).reports,
             line := (lockout f cause s).line } := by
  unfold lockout
  rw [enqueue_eq]
  rfl

@[simp] theorem lockout_devs (f : Fin 8) (cause : LockoutCause) (s : State) : (lockout f cause s).devs = s.devs := by
  rw [lockout_eq]

@[simp] theorem lockout_dev (f : Fin 8) (cause : LockoutCause) (s : State) (d : Device) :
    (lockout f cause s).dev d = s.dev d := by
  simp [State.dev]

@[simp] theorem lockout_evs (f : Fin 8) (cause : LockoutCause) (s : State) : (lockout f cause s).evs = s.evs := by
  rw [lockout_eq]

@[simp] theorem lockout_rect (f : Fin 8) (cause : LockoutCause) (s : State) : (lockout f cause s).rect = s.rect := by
  rw [lockout_eq]

@[simp] theorem lockout_ring (f : Fin 8) (cause : LockoutCause) (s : State) : (lockout f cause s).ring = s.ring := by
  rw [lockout_eq]

@[simp] theorem lockout_time (f : Fin 8) (cause : LockoutCause) (s : State) : (lockout f cause s).time = s.time := by
  rw [lockout_eq]

@[simp] theorem lockout_banks (f : Fin 8) (cause : LockoutCause) (s : State) : (lockout f cause s).banks = s.banks := by
  rw [lockout_eq]

/-- R103: the sequences after a lockout. -/
theorem lockout_seqs (f : Fin 8) (cause : LockoutCause) (s : State) : (lockout f cause s).seqs =
    s.seqs.set f { s.seq f with
      state := .lockout, timerAt := none, busWaitAt := none, waitStep := none, purpose := none, backingOff := false,
      busSum := 0, busCount := 0, lineSum := 0, lineCount := 0, lockCause := some cause, noted := none } := by
  unfold lockout
  simp only [enqueue_seqs]
  rfl

/-- R103: a lockout reports its cause and the attempt count. -/
theorem lockout_reports (f : Fin 8) (cause : LockoutCause) (s : State) : (lockout f cause s).reports =
    (report .lockout (.feeder f) (some (lockoutCode cause)) (some (s.seq f).attempts) s).reports := by
  unfold lockout
  simp only [enqueue_reports]
  rfl

/-- R103: a lockout enqueues a HOLD. -/
theorem lockout_line (f : Fin 8) (cause : LockoutCause) (s : State) : (lockout f cause s).line = (enqueue f .hold s).line := by
  unfold lockout enqueue
  simp only [report, submit, State.updReports, State.updSeq]
  split
  · rfl
  · split <;> rfl

/-- R48: placing a COMMAND frame touches the device's repeat timer and the Ring Port. -/
theorem sendCommand_eq (d : Device) (s : State) : sendCommand d s =
    { s with devs := (sendCommand d s).devs, ring := (sendCommand d s).ring } := by
  unfold sendCommand
  split <;> rfl

/-- A device that is assigned and has a command gets its repeat timer; every other record is as it was. -/
theorem sendCommand_devs (d : Device) (s : State) (fr : Frame) (h : commandFrame s.ring.own (s.dev d) = some fr) :
    (sendCommand d s).devs = s.devs.set d { s.dev d with repeatAt := some (deadline s 1) } := by
  unfold sendCommand
  rw [h]
  rfl

/-- Taking a command touches the device's record and the Ring Port. -/
theorem takeCommand_eq (d : Device) (c : Command) (by_ : Option Requester) (s : State) : takeCommand d c by_ s =
    { s with devs := (takeCommand d c by_ s).devs, ring := (takeCommand d c by_ s).ring } := by
  unfold takeCommand
  rw [sendCommand_eq]
  rfl

/-- Taking a command leaves every other record. -/
theorem takeCommand_other (d e : Device) (c : Command) (by_ : Option Requester) (s : State) (h : e ≠ d) :
    (takeCommand d c by_ s).dev e = s.dev e := by
  unfold takeCommand sendCommand
  split
  · exact PerDevice.get_set_ne _ _ h
  · exact (PerDevice.get_set_ne _ _ h).trans (PerDevice.get_set_ne _ _ h)

/-- The record after an assigned device takes an OPEN or a CLOSE. -/
theorem takeCommand_same (d : Device) (c : Command) (by_ : Option Requester) (s : State)
    (ha : (s.dev d).addr ≠ none) (hc : c ≠ .none) : (takeCommand d c by_ s).dev d = { s.dev d with
      cmd := c, requester := by_, cmdTimer := some (deadline s (commandTime d c s)), cmdStart := some (nowMs s),
      repeatAt := some (deadline s 1) } := by
  obtain ⟨a, ha⟩ := Option.ne_none_iff_exists'.1 ha
  change (s.devs.get d).addr = some a at ha
  unfold takeCommand sendCommand commandFrame
  cases c <;> simp_all [State.dev, State.updDev, placeClaim, State.updRing, deadline]

/-- Ending a command touches the device's record and its claim slot. -/
theorem endCommand_eq (d : Device) (s : State) : endCommand d s =
    { s with devs := (endCommand d s).devs, ring := (endCommand d s).ring } := rfl

@[simp] theorem endCommand_same (d : Device) (s : State) : (endCommand d s).dev d = { s.dev d with
    cmd := .none, requester := none, cmdTimer := none, cmdStart := none, repeatAt := none } :=
  PerDevice.get_set_same s.devs d _

theorem endCommand_other (d e : Device) (s : State) (h : e ≠ d) : (endCommand d s).dev e = s.dev e :=
  PerDevice.get_set_ne s.devs _ h

/-- R56: the guard acts only when FMf has CLOSE outstanding with FTf not at rest in OPEN. -/
theorem guardMain_of_safe (f : Fin 8) (s : State)
    (h : (s.dev (.fm f)).cmd = .toClose → openAtRest (s.dev (.ft f)) = true) : guardMain f s = s := by
  unfold guardMain
  rw [if_neg]
  simp only [Bool.and_eq_true, decide_eq_true_eq, Bool.not_eq_true', not_and, Bool.not_eq_false]
  exact h

/-- R57: the guard of an FMf change acts only when FMf was then in CLOSED or TRAVEL with FTf closed or about to close. -/
theorem guardPosition_main_of_safe (f : Fin 8) (changed s : State)
    (h : (changed.dev (.fm f)).pos ≠ .closed ∧ (changed.dev (.fm f)).pos ≠ .travel) :
    guardPosition (.fm f) changed s = s := by
  simp [guardPosition, testExposed, h.1, h.2]

/-- R57: an exposed test contactor is given OPEN, and the sequence is locked out. -/
theorem guardPosition_main_of_exposed (f : Fin 8) (changed s : State) (h : testExposed f changed = true) :
    guardPosition (.fm f) changed s = openTest f s := by
  simp [guardPosition, h]

/-- R56: the guard of an FTf change is that of the FMf CLOSE. -/
@[simp] theorem guardPosition_test (f : Fin 8) (changed s : State) :
    guardPosition (.ft f) changed s = guardMain f s := rfl

@[simp] theorem guardPosition_dcm (changed s : State) : guardPosition .dcm changed s = s := rfl

@[simp] theorem guardPosition_acm (changed s : State) : guardPosition .acm changed s = s := rfl

/-- The four ways in which an OPEN request is taken (R49). -/
theorem requestOpen_cases (d : Device) (by_ : Requester) (s : State) :
    ((s.dev d).addr = none ∧ requestOpen d by_ s = (false, s)) ∨
    ((s.dev d).addr ≠ none ∧ (s.dev d).cmd = .toOpen ∧ requestOpen d by_ s = (true, s)) ∨
    ((s.dev d).addr ≠ none ∧ (s.dev d).cmd = .none ∧
      requestOpen d by_ s = (true, guardCommand d (takeCommand d .toOpen (some by_) s))) ∨
    ((s.dev d).addr ≠ none ∧ (s.dev d).cmd = .toClose ∧
      requestOpen d by_ s = (true, guardCommand d (takeCommand d .toOpen (some by_) (reportWithdrawn d s)))) := by
  unfold requestOpen
  by_cases ha : (s.dev d).addr = none
  · exact .inl ⟨ha, if_pos ha⟩
  · simp only [ha, if_false]
    cases hc : (s.dev d).cmd <;> simp_all

/-- The three ways in which a CLOSE request is taken (R50). -/
theorem requestClose_cases (d : Device) (by_ : Requester) (s : State) :
    (closeRefused d s = true ∧ requestClose d by_ s = (false, s)) ∨
    (closeRefused d s = false ∧ (s.dev d).cmd = .toClose ∧ requestClose d by_ s = (true, s)) ∨
    (closeRefused d s = false ∧ (s.dev d).cmd = .none ∧
      requestClose d by_ s = (true, takeCommand d .toClose (some by_) s)) := by
  unfold requestClose
  cases hr : closeRefused d s
  · cases hc : (s.dev d).cmd
    · simp
    · simp [closeRefused, hc] at hr
    · simp
  · simp

/-- A CLOSE that is not refused finds an assigned record. -/
theorem assigned_of_not_refused {d : Device} {s : State} (h : closeRefused d s = false) : (s.dev d).addr ≠ none := by
  intro ha
  simp [closeRefused, ha] at h

end Sys2Proof.Machine
end

