-- ==== Sys2Proof/Laws/Rectifier.lean ====
section
/-! SUPPORT. What the rectifier's state changes and a trip can do, and what filing one instant does to a channel. -/

namespace Sys2Proof.Machine

/-- R112: a state change touches the rectifier alone. -/
theorem rectGo_eq (st : RectState) (s : State) : rectGo st s = { s with rect := (rectGo st s).rect } := rfl

@[simp] theorem rectGo_state (st : RectState) (s : State) : (rectGo st s).rect.state = st := by
  simp only [rectGo, State.updRect_rect]
  split <;> rfl

/-- R112: GATE_EN follows the state entered. -/
@[simp] theorem rectGo_gateEn (st : RectState) (s : State) : (rectGo st s).rect.gateEn = firing st := by
  simp only [rectGo, State.updRect_rect]
  split
  · next h => exact h.symm
  · next h => exact (Bool.not_eq_true _ ▸ h : firing st = false).symm

/-- R112: a state change out of the firing states keeps the gates safe, from any state. -/
theorem rectGo_safe {st : RectState} (h : firing st = false) (s : State) : GatesSafe (rectGo st s) := by
  refine ⟨by simp, fun _ => ?_⟩
  simp [rectGo, h]

/-- The gates stay safe wherever the rectifier is left as it was. -/
theorem gatesSafe_of_rect {s t : State} (h : t.rect = s.rect) (hs : GatesSafe s) : GatesSafe t := by
  unfold GatesSafe
  rw [h]
  exact hs

/-- In OFF and TRIPPED a trip changes nothing (R123). -/
theorem rectTrip_idle {s : State} (h : s.rect.state = .off ∨ s.rect.state = .tripped) (cause : Cause) (value : Int) :
    rectTrip cause value s = s := by
  unfold rectTrip
  rcases h with h | h <;> rw [h]

@[simp] theorem takeCommand_rect (d : Device) (c : Command) (by_ : Option Requester) (s : State) :
    (takeCommand d c by_ s).rect = s.rect := by rw [takeCommand_eq]

@[simp] theorem reportWithdrawn_rect (d : Device) (s : State) : (reportWithdrawn d s).rect = s.rect := rfl

/-- The guard of an FMf CLOSE leaves the rectifier. -/
@[simp] theorem guardCommand_rect (d : Device) (s : State) : (guardCommand d s).rect = s.rect := by
  unfold guardCommand
  split
  · unfold guardMain
    split <;> simp
  · rfl

/-- An OPEN request leaves the rectifier. -/
@[simp] theorem askOpen_rect (d : Device) (by_ : Requester) (s : State) : (askOpen d by_ s).rect = s.rect := by
  unfold askOpen
  rcases requestOpen_cases d by_ s with ⟨_, e⟩ | ⟨_, _, e⟩ | ⟨_, _, e⟩ | ⟨_, _, e⟩ <;> rw [e] <;> simp

/-- R123, R124: the rectifier after a trip from any other state. -/
theorem rectTrip_rect {s : State} (h : s.rect.state ≠ .off) (h' : s.rect.state ≠ .tripped) (cause : Cause)
    (value : Int) : (rectTrip cause value s).rect =
      { (rectGo .tripped s).rect with
        stopStep := 0, window := StopWindow.cleared, wait := .none, lastTrip := some (cause, value) } := by
  unfold rectTrip
  split
  · next ht => exact absurd ht h
  · next ht => exact absurd ht h'
  · simp only []
    rw [submit_eq, trigger_eq]
    split
    · rw [askOpen_rect]
      rfl
    · rfl

/-- R7: filing keeps eight instants. -/
theorem fileInstant_hist (d : Nat) (k : Channel) (i : Instant) : (fileInstant d k i).hist = k.hist.drop 1 ++ [i] := by
  unfold fileInstant stateRule recordInstant
  cases i.mark <;> simp only [] <;> split <;> (try split) <;> (try split) <;> rfl

end Sys2Proof.Machine
end

