-- ==== Sys2Proof/Laws/Requests.lean ====
section
/-! SUPPORT. How a management request reaches the Responder and how its answer takes its place. -/

namespace Sys2Proof.Machine

/-- R183: a good frame touches the ring and the reports alone. -/
theorem goodFrame_eq (s : State) :
    goodFrame s = { s with ring := (goodFrame s).ring, reports := (goodFrame s).reports } := by
  unfold goodFrame
  simp only []
  split <;> rfl

/-- R183, R186: the ring after a good frame. -/
theorem goodFrame_ring (s : State) : (goodFrame s).ring = { s.ring with
    ring := .up, downAt := some (deadline s 5), counters := { s.ring.counters with good := bump s.ring.counters.good } } := by
  unfold goodFrame
  simp only []
  split <;> rfl

@[simp] theorem goodFrame_time (s : State) : (goodFrame s).time = s.time := by rw [goodFrame_eq]
@[simp] theorem goodFrame_matcher (s : State) : (goodFrame s).matcher = s.matcher := by rw [goodFrame_eq]
@[simp] theorem goodFrame_chans (s : State) : (goodFrame s).chans = s.chans := by rw [goodFrame_eq]
@[simp] theorem goodFrame_evs (s : State) : (goodFrame s).evs = s.evs := by rw [goodFrame_eq]
@[simp] theorem goodFrame_devs (s : State) : (goodFrame s).devs = s.devs := by rw [goodFrame_eq]
@[simp] theorem goodFrame_line (s : State) : (goodFrame s).line = s.line := by rw [goodFrame_eq]
@[simp] theorem goodFrame_seqs (s : State) : (goodFrame s).seqs = s.seqs := by rw [goodFrame_eq]
@[simp] theorem goodFrame_rect (s : State) : (goodFrame s).rect = s.rect := by rw [goodFrame_eq]
@[simp] theorem goodFrame_banks (s : State) : (goodFrame s).banks = s.banks := by rw [goodFrame_eq]
@[simp] theorem goodFrame_capture (s : State) : (goodFrame s).capture = s.capture := by rw [goodFrame_eq]
@[simp] theorem goodFrame_freeCount (s : State) : (goodFrame s).freeCount = s.freeCount := by rw [goodFrame_eq]
@[simp] theorem goodFrame_pending (s : State) : (goodFrame s).pending = s.pending := by rw [goodFrame_eq]
@[simp] theorem goodFrame_own (s : State) : (goodFrame s).ring.own = s.ring.own := by rw [goodFrame_ring]
@[simp] theorem goodFrame_mgmt (s : State) : (goodFrame s).ring.mgmt = s.ring.mgmt := by rw [goodFrame_ring]
@[simp] theorem goodFrame_answers (s : State) : (goodFrame s).ring.answers = s.ring.answers := by rw [goodFrame_ring]
@[simp] theorem goodFrame_out (s : State) : (goodFrame s).ring.out = s.ring.out := by rw [goodFrame_ring]
@[simp] theorem goodFrame_relay (s : State) : (goodFrame s).ring.relay = s.ring.relay := by rw [goodFrame_ring]
@[simp] theorem goodFrame_claims (s : State) : (goodFrame s).ring.claims = s.ring.claims := by rw [goodFrame_ring]

/-- A request that reaches the Responder is processed on the state after its frame (R188). -/
theorem onRequest_of_reaches {src : Byte} {s : State} (h : Reaches src s) (tag : Byte) (request : State → Reply) :
    onRequest src tag request s = placeReply src tag (request (goodFrame s)) := by
  obtain ⟨h0, h1, h2⟩ := h
  rw [onRequest, if_neg h0, if_neg h1, respond, if_pos (by simpa using h2)]

/-- R188: a request that finds four places is lost as an overrun. -/
theorem onRequest_overrun {src : Byte} {s : State} (h0 : s.ring.own ≠ 0) (h1 : src ≠ s.ring.own)
    (h4 : 4 ≤ s.ring.answers.length) (tag : Byte) (request : State → Reply) : onRequest src tag request s =
      updRingCounters (fun k => { k with overruns := bump k.overruns }) (goodFrame s) := by
  rw [onRequest, if_neg h0, if_neg h1, respond, if_neg (by simpa using h4)]
  rfl

/-- The answer of a request that answers now. -/
@[simp] theorem placeReply_done (src tag : Byte) (data : List Byte) (s : State) :
    placeReply src tag (done data s) = answered src tag .done .none data s := rfl

@[simp] theorem placeReply_refuse (src tag : Byte) (r : Reason) (s : State) :
    placeReply src tag (refuse r s) = answered src tag .refused r [] s := rfl

@[simp] theorem placeReply_busy (src tag : Byte) (s : State) :
    placeReply src tag (busy s) = answered src tag .busy .none [] s := rfl

/-- An answer touches the Ring Port alone. -/
theorem answered_eq (src tag : Byte) (o : ReplyOutcome) (r : Reason) (data : List Byte) (s : State) :
    answered src tag o r data s = { s with ring := (answered src tag o r data s).ring } := rfl

/-- R189: a request from a source that may make it, with its length, is served. -/
theorem checked_passes (fromManager : Bool) (len : Nat) (src : Byte) (params : List Byte) (serve_ : State → Reply)
    (s : State) (hs : fromManager = true → src = s.ring.mgmt) (hl : params.length = len) :
    checked fromManager len src params serve_ s = serve_ s := by
  unfold checked
  rw [if_neg, if_neg (not_not.2 hl)]
  cases fromManager
  · simp
  · simp [hs rfl]

end Sys2Proof.Machine
end

