-- ==== Sys2Proof/Tests/Slice0.lean ====
section
/-! SUPPORT. Tests: the well-formedness smoke test, values worked out by hand from the manual, and for each statement
with hypotheses a witness, named witness_<statement>, of a concrete state and operands that meet them, clause by
clause. -/

namespace Sys2Proof.Tests

open Sys2Proof Sys2Proof.Machine

-- One theorem at a time: each decide runs in its own thread, and the threads' stacks would add up.
set_option Elab.async false

/-! ## Helpers -/

/-- A predicate of all 18 devices, checked on the list of them. -/
theorem forall_device {p : Device → Prop} (h : ∀ d ∈ deviceList, p d) (d : Device) : p d := h d (mem_deviceList d)

/-- The part after reset: own address 1, management source 0xF0. -/
abbrev base : State := State.reset

/-- A feeder's settings: FM and FT are elements 0 and 1 of unit 0x40, channels 0 and 1. -/
def feeder : FeederSettings :=
  { inService := true, chan := 0, lineChan := 1, lossAction := .hold, captureOnRising := false,
    mainUnit := 0x40, mainElem := 0, testUnit := 0x40, testElem := 1, iMax := 8000, dStart := 400, dStop := 150,
    deltaISet := 1800, tDelay := 24, tMax := 400, stopHold := 8, iDt := 3000, tDt := 200, bfTime := 200,
    closeTime := 500 }

/-- A reclose plan with two attempts. -/
def plan : Plan :=
  { limit := 2, dead := [500, 1000], reclaim := 5, rTest := 1000, rMin := 200, uTestMin := 6000, uLive := 3000,
    settle := 100, hold := 30, busWait := 60 }

/-- Rectifier settings: bus, current and U_ab on channels 2, 3 and 4. -/
def rectSet : RectSettings :=
  { busChan := 2, curChan := 3, uabChan := 4, dcmUnit := 0x50, dcmElem := 0, acmUnit := 0x51, acmElem := 0, gain := 16,
    uSet := 7500, droop := 100, alphaMin := 300, alphaMax := 7500, delta := 500, iLim := 4000, iRMax := 8000,
    dcFail := 80 }

/-- An enabled intertrip table: feeders 1 and 2 in section 0x0C, the others in none. -/
def lineTable : LineTable :=
  { enable := true, busFree := 8, retry := 1, sections := #v[0x0C, 0x0C, 0, 0, 0, 0, 0, 0] }

/-- A GOOD instant. -/
def good (v : Int) : Instant := ⟨BitVec.ofInt 16 v, .good⟩

/-- A SATURATED instant. -/
def saturated (v : Int) : Instant := ⟨BitVec.ofInt 16 v, .saturated⟩

/-- A history that ends in an instant, with another four steps before the end. -/
def history (older newest : Instant) : List Instant :=
  [missingInstant, missingInstant, missingInstant, older, missingInstant, missingInstant, missingInstant, newest]

/-- A copy of an arrival with no missing instants on a channel that stays VALID. -/
def copy (c : Fin 24) (older own : Instant) : Copy :=
  { chan := c, missing := 0, own := own, before := .valid, after := .valid, hist := history older own }

/-- An assigned record with a position and no command. -/
def device (unit elem : Byte) (pos : Position) : DevRecord :=
  { DevRecord.initial with addr := some (unit, elem), pos := pos }

/-- The record with a command outstanding whose timers run. -/
def commanded (c : Command) (r : DevRecord) : DevRecord :=
  { r with cmd := c, requester := some .sequencer, cmdTimer := some 640000000, cmdStart := some 0, repeatAt := some 6400000 }

/-- Put a record. -/
def withDev (d : Device) (r : DevRecord) (s : State) : State := s.updDev d fun _ => r

/-- Feeder 1 in service with its plan, FM in a position, FT open, DCM and ACM closed. -/
def fed (fm : Position) : State :=
  ((base.updEv 0 fun e => { e with settings := some feeder, chanView := .valid, posView := fm, state := .quiet }).updSeq 0
      fun q => { q with plan := some plan, state := .idleClosed, limit := 2 })
    |> withDev (.fm 0) (device 0x40 0 fm) |> withDev (.ft 0) (device 0x40 1 .opened)
    |> withDev .dcm (device 0x50 0 .closed) |> withDev .acm (device 0x51 0 .closed)
    |> (·.updLine fun l => { l with table := some lineTable })
    |> (·.updRect fun r => { r with settings := some rectSet, state := .blocked })

/-- Feeder 1 with the evaluator in a state and an arrival handed to it. -/
def evaluating (st : EvState) (k : Copy) : State := (fed .closed).updEv 0 fun e => { e with state := st, inbox := [k] }

/-- A channel that is VALID with a last usable value. -/
def validChan (v : Int) : Channel :=
  { Channel.initial with
    state := .valid, last := good v, hist := List.replicate 8 (good v), goodRun := 32, staleAt := some 12800000 }

/-- Feeder 1 with the bus and line channels VALID at voltages and the sequence in a state with its timer running. -/
def sequencing (st : SeqState) (bus line : Int) : State :=
  (((fed .opened).updChan 2 fun _ => validChan bus).updChan 1 fun _ => validChan line).updSeq 0 fun q => { q with
    state := st, timerAt := some 6400000, holdAt := some 6400000, busWaitAt := some 6400000 }

/-- The rectifier in a state with the tracker LOCKED at 50 Hz and the current channel VALID. -/
def rectifying (st : RectState) : State :=
  ((fed .closed).updChan 3 fun _ => validChan 1000).updRect fun r => { r with
    state := st, gateEn := firing st, tracker := ⟨.locked, 1000, some ⟨BitVec.ofNat 40 (256 * 900), 900⟩, 4, 40960⟩ }

/-- Ring-out busy with a frame. -/
def busyRing (s : State) : State := s.updRing fun p => { p with out := some ⟨0x30, 1, 3, 0, [0, 1]⟩ }

/-- A frame's bytes from a body, with the CRC of the body. -/
def rawBytes (body : List Byte) : List Byte := 0xA5 :: body ++ bytesOf 2 (crc16 body).toNat

/-- A broadcast frame. -/
def broadcast (unit : Byte) (type : BitVec 4) (payload : List Byte) : Frame := ⟨0xFF, unit, type, 0, payload⟩

/-- A report with a code. -/
def entry (code : ReportCode) : Report := ⟨code, .part, none, none, none, 0, 0, true⟩

/-- Zero bytes. -/
def zeros (n : Nat) : List Byte := List.replicate n 0

/-- A feeder record in a bank: out of service, every quantity in range. -/
def bankFeeder (f : Nat) : List Byte :=
  [0, 0, 1, 0, 0, byteOf (0x40 + f), 0, byteOf (0x40 + f), 1, 0] ++ bytesOf 2 8000 ++ bytesOf 2 400 ++ bytesOf 2 150 ++
    bytesOf 2 1800 ++ bytesOf 2 24 ++ bytesOf 2 400 ++ bytesOf 2 8 ++ bytesOf 2 3000 ++ bytesOf 2 200 ++ bytesOf 2 200 ++
    bytesOf 2 500

/-- A reclose plan in a bank: two attempts. -/
def bankPlan : List Byte :=
  [2, 2] ++ bytesOf 2 500 ++ bytesOf 2 1000 ++ zeros 4 ++ bytesOf 2 5 ++ bytesOf 2 1000 ++ bytesOf 2 200 ++
    bytesOf 2 6000 ++ bytesOf 2 3000 ++ bytesOf 2 100 ++ bytesOf 2 30 ++ bytesOf 2 60 ++ zeros 6

/-- A bank without a structural fault; `uSet` is its U_set. -/
def soundBank (uSet : Nat) : List Byte :=
  zeros 144 ++ (List.range 8).flatMap bankFeeder ++ (List.range 8).flatMap (fun _ => bankPlan) ++
    ([2, 3, 4, 0x50, 0, 0x51, 0, 16] ++ bytesOf 2 uSet ++ bytesOf 2 100 ++ bytesOf 2 300 ++ bytesOf 2 7500 ++
      bytesOf 2 500 ++ bytesOf 2 4000 ++ bytesOf 2 8000 ++ bytesOf 2 80 ++ zeros 8) ++
    ([1, 0, 1, 0x0C] ++ zeros 12) ++ ([0xFF, 1, 2] ++ zeros 13)

/-- A validation runs on bank A. -/
def validating (bank : List Byte) : State :=
  busyRing { base with
    banks := { base.banks with bankA := bank, stateA := .validating, validator := some ⟨0xF0, 9⟩ }
    ring := { base.ring with answers := [⟨0xF0, 9, none, 0⟩] } }

/-- Bank A is VALID and none is active. -/
def bankReady : State := { base with banks := { base.banks with bankA := soundBank 7500, stateA := .valid } }

/-- Bank A is ACTIVE and a switch-over to B is pending. -/
def switching : State :=
  { base with banks := { base.banks with
      bankA := soundBank 7500, bankB := soundBank 7400, stateA := .active, stateB := .valid, active := some .a,
      target := some .b, mask := (Vector.replicate 13 false).set 1 true } }

/-- Four places of the answer queue are taken. -/
def fullAnswers : State :=
  { base with ring := { base.ring with answers := List.replicate 4 ⟨0xF0, 1, some ⟨.done, .none, 0, []⟩, 0⟩ } }

/-- Capture settings are adopted for channels 0 and 1. -/
def capturing (overwrite : Bool) (slots : Vector Slot 4) (order : List (Fin 4)) : State :=
  { base with capture := { base.capture with settings := some ⟨[0, 1], overwrite⟩, slots := slots, order := order } }

/-- A slot in a state with 320 pre-trigger instants and n post-trigger ones at both positions. -/
def slotAt (st : SlotState) (n : Nat) : Slot :=
  { state := st, positions := [0, 1].map fun c => ⟨c, 320, n, List.replicate (320 + n) (good 5)⟩,
    triggers := [⟨.rising, .feeder 0, 0, 0, true, 320⟩], extra := 0, truncated := false,
    fillAt := if st = .filling then some 960000000 else none }

/-! ## Well-formedness (the smoke test) -/

theorem test_wellFormed_frame : (Instr.sampleFrame (broadcast 0x20 1 (zeros 64))).wellFormed = true := by decide
theorem test_illFormed_payload : (Instr.sampleFrame (broadcast 0x20 1 (zeros 65))).wellFormed = false := by decide
theorem test_illFormed_sample_type : (Instr.sampleFrame (broadcast 0x20 2 [0, 1])).wellFormed = false := by decide
theorem test_illFormed_position_type : (Instr.positionFrame (broadcast 0x20 1 [0, 1])).wellFormed = false := by decide
theorem test_illFormed_position_payload : (Instr.positionFrame (broadcast 0x20 2 (zeros 65))).wellFormed = false := by
  decide
theorem test_illFormed_delimiter : (Instr.ringFrame [0xA4, 1, 2]).wellFormed = false := by decide
theorem test_illFormed_params : (Instr.writeTable 0xF0 1 (zeros 63)).wellFormed = false := by decide
theorem test_illFormed_extra : (Instr.operateOpen 0xF0 1 1 (zeros 61)).wellFormed = false := by decide
theorem test_illFormed_code : (Instr.unknownRequest 0xF0 1 0x11 []).wellFormed = false := by decide
theorem test_illFormed_reception : (Instr.intertripMessageReceived (.sample true) true).wellFormed = false := by decide
theorem test_wellFormed_code : (Instr.unknownRequest 0xF0 1 0x12 []).wellFormed = true := by decide

/-! ## Values from the manual -/

/-- The state after a command. -/
def after (c : Instr) (s : State) : State :=
  match exec c s with
  | .next t => t
  | _ => s

/-- Section 4.3, the table of checks. -/
theorem test_check_values : messageCheck 12 0 = 12 ∧ messageCheck 9 1 = 10 ∧ messageCheck 200 2 = 6 := by decide

/-- Section 4.3: TRIP 12 is 0000 1100, 00, 1100. -/
theorem test_trip12_bits : messageBits 0x0C .trip =
    [false, false, false, false, true, true, false, false, false, false, true, true, false, false] := by decide

/-- Section 11.1's generator and preset give the catalogue's check value for the digits 1 to 9 (PRESUMED). -/
theorem test_crc_catalogue : crc16 [0x31, 0x32, 0x33, 0x34, 0x35, 0x36, 0x37, 0x38, 0x39] = 0x29B1 := by decide +kernel

/-- Chapter 1's worked example, one stream through a gap: entry 3, unit 0x21, stream 2, channels 4 and 5, last count 17. -/
def worked : State :=
  ({ base with matcher := { base.matcher with entries := base.matcher.entries.set 2 { StreamEntry.unused with
      unit := 0x21, stream := 2, assign := [some 4, some 5, none, none], last := some 17 } } }).updChan 4
    fun _ => validChan 600

/-- A frame of that stream. -/
def workedFrame (seq : Byte) (v : Nat) (mark : Byte) : Instr :=
  .sampleFrame (broadcast 0x21 1 ([2, seq, 2] ++ bytesOf 2 v ++ [mark] ++ bytesOf 2 0 ++ [0]))

/-- Steps 1 and 2: the entry's count and counters, and channel 4's history after both arrivals are filed. -/
def twoSteps : State :=
  after (.channelArrival 4) (after (.channelArrival 4) (after (workedFrame 21 760 0) (after (workedFrame 18 640 0) worked)))

theorem test_sampleFrame_gap : twoSteps.matcher.entries[2].last = some 21 ∧ twoSteps.matcher.entries[2].accepted = 2 ∧
    twoSteps.matcher.entries[2].gaps = 1 := by decide +kernel

theorem test_channelArrival_gap : (twoSteps.chan 4).hist =
    [good 600, good 600, good 600, good 600, good 640, missingInstant, missingInstant, good 760] ∧
    (twoSteps.chan 4).goodRun = 1 ∧ (twoSteps.chan 4).missing = 2 ∧ (twoSteps.chan 4).state = .valid := by decide +kernel

/-- Step 4: out of order. -/
theorem test_sampleFrame_outOfOrder : (after (workedFrame 20 720 0) twoSteps).matcher.entries[2].run = 1 := by
  decide +kernel

/-- The channel goes to STALE 2 ms after its last usable instant (Chapter 1's worked example). -/
theorem test_staleness : ((after (.stalenessTimerExpiry 4) twoSteps).chan 4).state = .stale ∧
    ((after (.stalenessTimerExpiry 4) twoSteps).chan 4).staleMoves = 1 := by decide +kernel

/-- Section 5.5, a sound line: U_B 7520, U_L 3010, R 1668, HEALTHY. The last line reading brings the sum to 192680. -/
def soundLine : State :=
  ((sequencing .measuring 7520 3010).updSeq 0 fun q => { q with
    plan := some { plan with rTest := 2500, rMin := 500 }
    busSum := 481300, busCount := 64, lineSum := 192680 - 3010, lineCount := 63, inbox := [copy 1 (good 3010) (good 3010)] })

theorem test_sequencerArrival_sound : ((after (.sequencerArrival 0) soundLine).seq 0).lastTest =
    some ⟨.healthy, some 1668, some 7520, some 3010, 0, 0, true⟩ := by decide +kernel

/-- Section 5.5, a line with almost no load: R saturates at 65535. -/
theorem test_resistance_saturates : min (2500 * 7400 % 4294967296 / (7520 - 7400)) 65535 = 65535 := by decide

/-- Chapter 6's worked figures, one schedule: P256 40960, α 2500, δ 0. -/
theorem test_schedule : (List.range 12).map (fun k => firingTime (firingAngle 2500 0 k) 40960) =
    [2844, 6258, 9671, 13084, 16498, 19911, 23324, 26738, 30151, 33564, 36978, 40391] := by decide +kernel

/-- Chapter 6's worked figures, at the wrap: G12 at α 3250 and 3400 with δ 300. -/
theorem test_schedule_wrap : firingTime (firingAngle 3250 300 11) 40960 = 40903 ∧
    firingTime (firingAngle 3400 300 11) 40960 = 114 := by decide +kernel

/-- The settings of Chapter 6's worked regulator steps. -/
def worked67 : RectSettings := { rectSet with uSet := 7500, droop := 200, gain := 32, alphaMin := 1000, alphaMax := 6000 }

/-- Chapter 6's worked regulator steps: a steady step, a small overshoot, and the current limit with the bus high and low. -/
theorem test_regulator_figures : newAlpha worked67 false 2400 6980 2200 = 2180 ∧
    alphaStep worked67 false 2400 7065 = 22 ∧ alphaStep worked67 false 4100 6800 = 60 ∧
    alphaStep worked67 false 4100 6580 = 50 := by decide +kernel

/-- Section 7.3's example: D_start 6000, D_stop 5200, T_delay 500 and T_max 300 clamp to 5000, 5000, 400 and 401,
four clamps, the first at D_start of entry 2; here over the fields of that entry. -/
def clampExample : Clamping :=
  (feederRanges 2).foldl clampField ⟨noLimit, splice (splice (soundBank 7500) (entryBase 2 2 + 12)
    (bytesOf 2 6000 ++ bytesOf 2 5200)) (entryBase 2 2 + 18) (bytesOf 2 500 ++ bytesOf 2 300), 0, none⟩

theorem test_clamp_example : clampExample.clamps = 4 ∧ clampExample.first = some ⟨2, 2, 12⟩ ∧
    field16 clampExample.bank 2 2 12 = 5000 ∧ field16 clampExample.bank 2 2 14 = 5000 ∧
    field16 clampExample.bank 2 2 18 = 400 ∧ field16 clampExample.bank 2 2 20 = 401 := by decide +kernel

/-- Chapter 8's worked example, a queue under pressure: 2 SUPERVISION and 62 INFO entries, accepted 130, read 66. -/
def pressed : State :=
  { base with reports := { base.reports with
      queue := List.replicate 2 (entry .feederDegraded) ++ List.replicate 62 (entry .eventEnd), accepted := 130, read := 66 } }

/-- FEEDER_TRIP displaces the oldest EVENT_END; then an EVENT_END is dropped. -/
def pressedOn : State := report .eventEnd (.feeder 1) none none (report .feederTrip (.feeder 5) none none pressed)

theorem test_queue_pressure : pressedOn.reports.queue.length = 64 ∧ pressedOn.reports.accepted = 131 ∧
    pressedOn.reports.displaced = 1 ∧ pressedOn.reports.dropped = 1 := by decide +kernel

/-- READ_REPORTS 4 (Chapter 8's worked example). -/
theorem test_readReports : (after (.readReports 0xF0 1 [4]) pressedOn).reports.queue.length = 60 ∧
    (after (.readReports 0xF0 1 [4]) pressedOn).reports.read = 70 := by decide +kernel

/-- Chapter 10's worked sequence, a busy ring-out: FM2 served last, so FM5's command is sent before DCM's. -/
theorem test_ringOutFrameEnd_turn : (after .ringOutFrameEnd (busyRing { base with ring := { base.ring with
      turn := 2, claims := (base.ring.claims.set (.fm 4) (some ⟨0x44, 1, 3, 0, [0, 1]⟩)).set .dcm
        (some ⟨0x50, 1, 3, 0, [0, 1]⟩) } })).ring.out = some ⟨0x44, 1, 3, 0, [0, 1]⟩ := by decide +kernel

/-- The line in a state, with feeders 1 and 2 in service in section 0x0C. -/
def online (st : LineState) : State :=
  (((fed .closed).updEv 1 fun e => { e with settings := some feeder, chanView := .valid, posView := .closed, state := .quiet }).updSeq
    1 fun q => { q with plan := some plan, state := .idleClosed }).updLine fun l => LineCtl.timed 0 { l with
      state := st, freeSince := none, dtLow := st = .receiving }

/-- Chapter 4's worked sequence, arbitration between two stations: lost at clock 6, the bits 0000 10 are read and the entry stays. -/
def losing : State :=
  { base with line := { base.line with
      table := some lineTable, state := .sending, queue := [⟨0x0C, .trip, 0, false⟩], inFlight := messageBits 0x0C .trip,
      freeSince := none, lowAt := some 12800000, dtLow := true, driveDt := true } }

theorem test_arbitrationLost : (after (.arbitrationLost 5) losing).line.heard = [false, false, false, false, true, false] ∧
    (after (.arbitrationLost 5) losing).line.counters.losses = 1 := by decide +kernel

/-- A message that nobody answers is retried once with retry count 1 (Chapter 4's worked sequence, a message nobody answers). -/
theorem test_sendAttemptEnd : (after (.sendAttemptEnd false) losing).line.queue = [⟨0x0C, .trip, 1, false⟩] ∧
    (after (.sendAttemptEnd true) losing).line.queue = [] := by decide +kernel

/-- The line receives TRIP 12 (section 4.3) up to the fall of CK that begins clock 14. -/
def lastClock : State :=
  (online .receiving).updLine fun l => { l with
    clocks := 14, heard := (messageBits 0x0C .trip).take 13, ckLow := true, dtLow := false, lowAt := some 12800000 }

/-- Clock 15 has been sampled in TRIP 12, accepted at its clock 14. -/
def slotRead : State := after (.intertripMessageReceived (.sample false) false)
  (after (.lineLowEvent .ck) (after (.intertripMessageReceived (.sample false) false) lastClock))

/-- R71, R72: at the sample of clock 14 the message is judged and accepted, with no effect on feeder 1 yet; the fall of CK
that begins clock 15 drives DT low. -/
theorem test_sample_judged :
    (after (.intertripMessageReceived (.sample false) false) lastClock).line.accepted = some (0x0C, .trip) ∧
    (after (.intertripMessageReceived (.sample false) false) lastClock).evs = lastClock.evs ∧
    slotRead.line.driveDt = true ∧ (slotRead.ev 0).state = .quiet := by decide +kernel

/-- R72, R73: at the next fall of CK DT is released and feeder 1 trips, the line still in RECEIVING. -/
theorem test_accepted_applied : (after (.lineLowEvent .ck) slotRead).line.driveDt = false ∧
    ((after (.lineLowEvent .ck) slotRead).ev 0).state = .tripping ∧
    (after (.lineLowEvent .ck) slotRead).line.state = .receiving := by decide +kernel

/-- R67, R71: DT falls with CK high: a start, and the line is RECEIVING. -/
theorem test_lineLow_start : (after (.lineLowEvent .dt) (online .waiting)).line.state = .receiving ∧
    (after (.lineLowEvent .dt) (online .waiting)).line.lowAt = some 12800000 := by decide +kernel

/-- R74 step 3: the sender drives CK low for clock 1, and DT for its bit, the 0 that TRIP 12 begins with. -/
theorem test_lineLow_clock : (after (.lineLowEvent .ck) losing).line.driveCk = true ∧
    (after (.lineLowEvent .ck) losing).line.driveDt = true ∧ (after (.lineLowEvent .ck) losing).line.clocks = 1 := by
  decide +kernel

/-- SET_TIME takes day 258 and 86399999999 µs; the next rollover begins day 259 (R193). -/
theorem test_setTime_rollover :
    (after (.setTime 0xF0 1 [1, 2, 0x14, 0x1D, 0xD7, 0x5F, 0xFF]) base).time.micros = 86399999999 ∧
    (after .dayRollover (after (.setTime 0xF0 1 [1, 2, 0x14, 0x1D, 0xD7, 0x5F, 0xFF]) base)).time.day = 259 := by
  decide +kernel

/-- R122: four overcurrent instants in a row trip; here the fourth. -/
theorem test_rectCurrent_fourth : (after .rectCurrentArrival ((rectifying .running).updRect fun r => { r with
    overCount := 3, curIn := [copy 3 (good 0) (good 8000)] })).rect.state = .tripped := by decide +kernel

/-- FM1 is reported CLOSED in a dead time with FT1 CLOSED, while a switch-over to bank B waits that re-addresses FM1. -/
def readdressing : State :=
  { (sequencing .deadTime 6000 0).updDev (.ft 0) fun r => { r with pos := .closed } with banks := { switching.banks with
      bankB := splice (soundBank 7400) 149 [0x48] } }

/-- R57, R149: the notice takes the sequence to IDLE_CLOSED, feeder 1 adopts and FM1 is re-addressed; the change to CLOSED
still opens FT1 and locks the sequence out. -/
theorem test_positionFrame_readdressed :
    ((after (.positionFrame (broadcast 0x40 2 [0, 2])) readdressing).dev (.fm 0)).addr = some (0x48, 0) ∧
    ((after (.positionFrame (broadcast 0x40 2 [0, 2])) readdressing).dev (.ft 0)).cmd = .toOpen ∧
    ((after (.positionFrame (broadcast 0x40 2 [0, 2])) readdressing).seq 0).lockCause = some .testContactor := by
  decide +kernel


/-! ## Witnesses: the machine as a whole -/

theorem witness_StepTakesFrontCommand :
    ({ base with pending := [.firingDue] } : State).pending = [.firingDue] ∧ base.pending = [] := by decide

/-- An attempt with this part's own time as a contender running up to a time, CK low by this part or high. -/
def ownTime (low : Bool) (ends : Nat) : State :=
  losing.updLine fun l => { l with ckLow := low, driveCk := low, phaseAt := some ends }

/-- A time that ends with the cycle that the step passes, and one that ends a unit of time after it. -/
theorem witness_StepTakesFrontCommand_ownTimes : (ownTime true 256).pending = [] ∧ (ownTime true 256).time.now = 0 ∧
    (ownTime true 256).line.state = .sending ∧ (ownTime true 256).line.phaseAt = some 256 ∧
    ((ownTime true 256).line.driveCk = true ∧ (ownTime true 256).line.ckLow = true) ∧
    (ownTime false 256).line.driveCk = false ∧ (ownTime true 257).line.phaseAt = some 257 := by decide

/-- R66: at the end of its own low time this part releases CK, which stays low until the last contender has released it;
at the end of its own high time it drives CK low and begins the next clock. -/
theorem test_step_ownTimes : (idleCycle (ownTime true 257)).line.driveCk = true ∧
    (idleCycle (ownTime true 256)).line.driveCk = false ∧ (idleCycle (ownTime true 256)).line.ckLow = true ∧
    (idleCycle (ownTime false 256)).line.driveCk = true ∧ (idleCycle (ownTime false 256)).line.clocks = 1 := by
  decide +kernel

/-- FM1 has CLOSE outstanding with FT1 open, and reports CLOSED. -/
def closing : State :=
  ((withDev (.fm 0) (commanded .toClose (device 0x40 0 .opened)) (fed .opened)).updSeq 0 fun q => { q with
    state := .closing, attempts := 1 })

theorem witness_InterlockKept : Interlocked { closing with pending := [.positionFrame (broadcast 0x40 2 [0, 2])] } ∧
    ∃ t, step { closing with pending := [.positionFrame (broadcast 0x40 2 [0, 2])] } = .next t :=
  ⟨⟨forall_device (by decide +kernel), by unfold MainGuarded; decide +kernel, by unfold TestGuarded; decide +kernel⟩,
    _, rfl⟩

/-- RUNNING with two firings pending and gate output G1 high. -/
def firingState : State :=
  (rectifying .running).updRect fun r => { r with
    schedule := [⟨1, 5000, false⟩, ⟨2, 4000, false⟩], gates := r.gates.set 0 (some 3000) }

theorem witness_GatesKept : GatesSafe { firingState with pending := [.firingDue] } ∧
    ∃ t, step { firingState with pending := [.firingDue] } = .next t :=
  ⟨by unfold GatesSafe; decide +kernel, _, rfl⟩

theorem witness_AttemptsKept : SequencesInLimit { sequencing .deadTime 7000 0 with pending := [.deadTimeExpiry 0] } ∧
    ∃ t, step { sequencing .deadTime 7000 0 with pending := [.deadTimeExpiry 0] } = .next t := by
  refine ⟨fun f => ?_, _, rfl⟩
  fin_cases f
  · exact Nat.zero_lt_two
  all_goals rfl

theorem witness_ReportsKept : ReportsAccounted { pressed with pending := [.readReports 0xF0 1 [4]] } ∧
    ∃ t, step { pressed with pending := [.readReports 0xF0 1 [4]] } = .next t :=
  ⟨by unfold ReportsAccounted; decide +kernel, _, rfl⟩

/-- The banks' invariant is a fact about two banks and thirteen marks. -/
theorem forall_bank {p : BankId → Prop} (ha : p .a) (hb : p .b) (k : BankId) : p k := by cases k <;> assumption

theorem banksConsistent_of {s : State} (h0 : s.banks.bankA.length = 720 ∧ s.banks.bankB.length = 720)
    (h1 : s.banks.stateA = .active ↔ s.banks.active = some .a) (h2 : s.banks.stateB = .active ↔ s.banks.active = some .b)
    (h3 : s.banks.stateA = .validating ↔ BankId.a = standby s ∧ s.banks.validator ≠ none)
    (h4 : s.banks.stateB = .validating ↔ BankId.b = standby s ∧ s.banks.validator ≠ none)
    (h5 : ∀ k, s.banks.target = some k → k = standby s ∧ bankState k s = .valid ∧
      s.banks.mask[0] = false ∧ s.banks.mask[11] = false ∧ ∃ m : Fin 13, s.banks.mask[m] = true)
    (h6 : s.banks.target = none → ∀ k : Fin 13, s.banks.mask[k] = false) : BanksConsistent s :=
  ⟨h0, forall_bank h1 h2, forall_bank h3 h4, h5, h6⟩

theorem witness_BanksKept_settled : (BanksConsistent (validating (soundBank 7500)) ∧
    RingBounded (validating (soundBank 7500))) ∧ ∃ t, step (validating (soundBank 7500)) = .next t :=
  ⟨⟨banksConsistent_of (by decide +kernel) (by decide) (by decide) (by decide) (by decide) (fun k h => by cases h) (by decide),
    by unfold RingBounded; decide⟩, _, rfl⟩

theorem witness_BanksKept_pending : (BanksConsistent switching ∧ RingBounded switching) ∧
    ∃ t, step switching = .next t :=
  ⟨⟨banksConsistent_of (by decide +kernel) (by decide) (by decide) (by decide) (by decide)
    (forall_bank (fun h => by revert h; decide) fun _ => ⟨by decide, by decide, by decide, by decide, 1, by decide⟩)
    (fun h => by revert h; decide), by unfold RingBounded; decide⟩, _, rfl⟩

/-- Slot 0 FILLING one instant short of its end, slot 1 ARMED. -/
def fillingState : State := capturing false #v[slotAt .filling 959, slotAt .armed 0, Slot.initial, Slot.initial] [0]

theorem witness_SlotsKept : SlotsConsistent { fillingState with pending := [.captureArrival] } ∧
    ∃ t, step { fillingState with pending := [.captureArrival] } = .next t :=
  ⟨by unfold SlotsConsistent; decide +kernel, _, rfl⟩

theorem witness_TransmitKept : TransmitConsistent { losing with pending := [.sendAttemptEnd false] } ∧
    ∃ t, step { losing with pending := [.sendAttemptEnd false] } = .next t :=
  ⟨by unfold TransmitConsistent WiresWatched; decide +kernel, _, rfl⟩

theorem witness_ChannelsKept : ChannelsConsistent { worked with pending := [workedFrame 18 640 0] } ∧
    ∃ t, step { worked with pending := [workedFrame 18 640 0] } = .next t := by
  refine ⟨fun c => ?_, _, rfl⟩
  have h : ∀ c, worked.chan c = Channel.initial ∨ worked.chan c = validChan 600 := by decide +kernel
  show ChannelConsistent (worked.chan c)
  rcases h c with h | h <;> rw [h]
  · exact ⟨rfl, by decide, rfl, rfl⟩
  · exact ⟨rfl, by decide, Option.some_ne_none _⟩

/-! ## Witnesses: frames and requests -/

theorem witness_FrameBytesRoundTrip :
    (broadcast 0x20 1 []).wellFormed = true ∧ (broadcast 0x20 1 (zeros 64)).wellFormed = true := by decide

theorem witness_RequestIsItsFrame : base.ring.own ≠ 0 ∧ base.ring.own ≠ 0xFF ∧
    ((Instr.status 0xF0 7 []).wellFormed = true ∧
      frameOfInstr base.ring.own (.status 0xF0 7 []) = some ⟨1, 0xF0, 4, 0, [0x01, 7]⟩) ∧
    ((Instr.sampleFrame (broadcast 0x20 1 [0])).wellFormed = true ∧
      frameOfInstr base.ring.own (.sampleFrame (broadcast 0x20 1 [0])) = some (broadcast 0x20 1 [0])) := by decide

/-- A frame for unit 0x30, addressed past this part. -/
def through : Frame := ⟨0x30, 0x21, 1, 0, [1, 2, 3]⟩

theorem witness_FramesAtRingIn_judged : crcMatches [0xA5, 1, 2] = false ∧
    (crcMatches (rawBytes ([1, 0x20, 0x10, 65] ++ zeros 65)) = true ∧
      64 < u8 (rawBytes ([1, 0x20, 0x10, 65] ++ zeros 65)) 4) ∧
    (crcMatches (rawBytes [1, 0x20, 0x10, 2, 0]) = true ∧
      (rawBytes [1, 0x20, 0x10, 2, 0]).length ≠ 7 + u8 (rawBytes [1, 0x20, 0x10, 2, 0]) 4) ∧
    (crcMatches (rawBytes [0, 0x20, 0x10, 0]) = true ∧ byteAt (rawBytes [0, 0x20, 0x10, 0]) 1 = 0) := by decide +kernel

theorem witness_FramesAtRingIn_own : crcMatches (rawBytes ([2, 1, 0x10, 64] ++ zeros 64)) = true ∧
    u8 (rawBytes ([2, 1, 0x10, 64] ++ zeros 64)) 4 ≤ 64 ∧
    (rawBytes ([2, 1, 0x10, 64] ++ zeros 64)).length = 7 + u8 (rawBytes ([2, 1, 0x10, 64] ++ zeros 64)) 4 ∧
    byteAt (rawBytes ([2, 1, 0x10, 64] ++ zeros 64)) 1 ≠ 0 ∧
    byteAt (rawBytes ([2, 1, 0x10, 64] ++ zeros 64)) 2 = base.ring.own := by decide +kernel

theorem witness_FramesAtRingIn_relayed : crcMatches (frameBytes through) = true ∧
    frameOf (frameBytes through) = some through ∧ through.dst ≠ 0 ∧ through.dst ≠ 0xFF ∧ through.dst ≠ base.ring.own ∧
    through.src ≠ base.ring.own ∧ base.ring.relay = [] ∧ base.ring.out = none ∧
    (∀ d ∈ deviceList, base.ring.claims.get d = none) ∧
    ((busyRing base).updRing fun p => { p with relay := List.replicate 3 through }).ring.relay.length < 4 ∧
    ((busyRing base).updRing fun p => { p with relay := List.replicate 3 through }).ring.out ≠ none ∧
    4 ≤ ((busyRing base).updRing fun p => { p with relay := List.replicate 4 through }).ring.relay.length := by
  decide +kernel

/-- Frames of each use: broadcast ones that nobody uses, and ones for unit 1 itself of every type that R184 tells apart. -/
def ownFrames : List Frame :=
  [⟨0xFF, 0x21, 0, 0, []⟩, ⟨0xFF, 0x21, 3, 0, [0]⟩, ⟨0xFF, 0xF0, 4, 0, [1, 7]⟩, ⟨1, 0x21, 15, 0, []⟩, ⟨1, 0x21, 3, 0, [0]⟩,
    ⟨1, 0x21, 1, 0, [2, 0, 1, 0, 9, 0]⟩, ⟨1, 0x40, 2, 0, [0, 2]⟩, ⟨1, 0xF0, 4, 0, [1, 7]⟩]

theorem witness_FramesAtRingIn_used : (∀ fr ∈ ownFrames, crcMatches (frameBytes fr) = true ∧
    frameOf (frameBytes fr) = some fr ∧ fr.dst ≠ 0 ∧ fr.src ≠ base.ring.own) ∧ base.ring.own = 1 ∧ Settled base := by
  unfold Settled
  decide +kernel

theorem witness_RingStateMoves : base.ring.ring = .up ∧ base.ring.downAt = some 32000000 ∧
    (base.updRing fun p => { p with ring := .down }).ring.ring = .down := by decide

/-- Ring-out ends a frame; the turn is DCM's but one, FM1 and FM2 hold a claim, one frame waits in the relay buffer,
and an unready place stands before a ready answer. -/
def arbiter (claims : PerDevice (Option Frame)) (relay : List Frame) (answers : List AnswerPlace) : State :=
  busyRing { base with ring := { base.ring with turn := 17, claims := claims, relay := relay, answers := answers } }

def noClaims : PerDevice (Option Frame) := PerDevice.replicate none
def unready : AnswerPlace := ⟨0xF0, 2, none, 0⟩
def ready : AnswerPlace := ⟨0xF0, 3, some ⟨.done, .none, 0, zeros 61⟩, 1⟩
def finished : AnswerPlace := ⟨0xF0, 4, some ⟨.done, .none, 0, zeros 61⟩, 2⟩

theorem witness_ArbiterServes_claim :
    let s := arbiter ((noClaims.set (.fm 0) (some through)).set (.fm 1) (some through)) [through] [unready, ready]
    s.ring.out = some ⟨0x30, 1, 3, 0, [0, 1]⟩ ∧ s.ring.turn < 18 ∧ deviceList[0]? = some (.fm 0) ∧
      s.ring.claims.get (.fm 0) = some through ∧
      (∀ j : Fin 18, (j.val + 18 - s.ring.turn) % 18 < (0 + 18 - s.ring.turn) % 18 →
        ∀ e ∈ deviceList[j.val]?, s.ring.claims.get e = none) := by decide +kernel

theorem witness_ArbiterServes_rest : (∀ d ∈ deviceList, (arbiter noClaims [through] []).ring.claims.get d = none) ∧
    (arbiter noClaims [through] []).ring.relay = [through] ∧
    ((arbiter noClaims [] [finished, unready, ready]).ring.answers.filter fun a => !a.allBegun) = [unready] ++ ready :: [] ∧
    (∀ q ∈ [unready], q.answer = none) ∧ ready.answer = some ⟨.done, .none, 0, zeros 61⟩ ∧
    (∀ q ∈ ((arbiter noClaims [] [finished, unready]).ring.answers.filter fun a => !a.allBegun), q.answer = none) := by
  decide +kernel

theorem witness_AnswerPlaces : (busyRing base).ring.out ≠ none ∧ base.ring.out = none ∧
    (∀ d ∈ deviceList, base.ring.claims.get d = none) ∧ base.ring.relay = [] ∧ base.ring.answers = [] ∧
    (∃ fr, frameOfInstr fullAnswers.ring.own (.status 0xF0 1 []) = some fr ∧ fr.type = 4 ∧
      fr.src ≠ fullAnswers.ring.own) ∧ fullAnswers.ring.own ≠ 0 ∧ fullAnswers.ring.own ≠ 0xFF ∧
    fullAnswers.ring.answers.length = 4 :=
  ⟨by decide, by decide, by decide +kernel, by decide, by decide, ⟨_, rfl, by decide, by decide⟩, by decide, by decide,
    by decide⟩

/-- Any source other than the part's own reaches the Responder after reset. -/
theorem reaches_base : Reaches 0x05 base ∧ Manages 0xF0 base := by
  unfold Manages Reaches
  decide

theorem witness_RequestChecks : Reaches 0x05 base ∧
    (frameOfInstr base.ring.own (.unknownRequest 0x05 1 0x12 [3]) = some ⟨1, 0x05, 4, 0, [0x12, 1, 3]⟩ ∧
      definedCode 0x12 = false ∧ definedCode 0 = false) ∧
    (frameOfInstr base.ring.own (.restart 0x05 1 []) = some ⟨1, 0x05, 4, 0, [0x11, 1]⟩ ∧ definedCode 0x11 = true ∧
      (0x11 : Byte).toNat ∉ anySourceCodes ∧ (0x05 : Byte) ≠ base.ring.mgmt) ∧
    (frameOfInstr base.ring.own (.status 0x05 1 [0]) = some ⟨1, 0x05, 4, 0, [0x01, 1, 0]⟩ ∧ definedCode 1 = true ∧
      (1 : Byte).toNat ∈ anySourceCodes ∧ [(0 : Byte)].length ≠ requiredLength 1) :=
  ⟨reaches_base.1, by decide, by decide, by decide⟩

theorem witness_RequestChecks_range : Reaches 0x05 base ∧ Manages 0xF0 base ∧ 8 < (9 : Byte).toNat ∧
    24 ≤ (24 : Byte).toNat ∧ 1 < (2 : Byte).toNat ∧ 6 < (7 : Byte).toNat ∧ (8 : Byte) ≠ 9 ∧ base.ring.own ≠ 0xFF :=
  ⟨reaches_base.1, reaches_base.2, by decide⟩

theorem witness_ReadsAnswered : Reaches 0x05 base ∧ (0 : Byte).toNat ≤ 1 ∧ (1 : Byte).toNat ≤ 1 ∧
    (24 : Byte).toNat = (23 : Fin 24).val + 1 ∧ 24 < (25 : Byte).toNat := ⟨reaches_base.1, by decide⟩

theorem witness_TableRequests_write : Manages 0xF0 base ∧ Manages 0xF0 switching ∧
    Manages 0xF0 (validating (soundBank 7500)) ∧
    (48 < (49 : Byte).toNat ∧ tableLength 6 < 16 + (1 : Byte).toNat ∧ ¬ tableLength 6 < 15 + (1 : Byte).toNat) ∧
    switching.banks.target ≠ none ∧
    (validating (soundBank 7500)).banks.target = none ∧
    bankState (standby (validating (soundBank 7500))) (validating (soundBank 7500)) = .validating ∧
    base.banks.target = none ∧ bankState (standby base) base ≠ .validating := by
  unfold Manages Reaches
  decide +kernel

theorem witness_TableRequests_read : Reaches 0x05 base ∧ ((3 : Byte) ≠ 1 ∧ (3 : Byte) ≠ 2) ∧
    bankOfCode (1 : Byte).toNat = some .a ∧ tableLength 1 < 97 + (48 : Byte).toNat ∧
    ¬ tableLength 1 < 96 + (48 : Byte).toNat ∧ bankState .a (validating (soundBank 7500)) = .validating ∧
    bankState .a base ≠ .validating := ⟨reaches_base.1, by decide +kernel⟩

theorem witness_ValidateTaken : Manages 0xF0 switching ∧ switching.banks.target ≠ none ∧
    Manages 0xF0 (validating (soundBank 7500)) ∧ (validating (soundBank 7500)).banks.target = none ∧
    bankState (standby (validating (soundBank 7500))) (validating (soundBank 7500)) = .validating ∧
    Manages 0xF0 base ∧ base.banks.target = none ∧ bankState (standby base) base ≠ .validating := by
  unfold Manages Reaches
  decide +kernel

/-- An all-zero bank has a fault at FM1's unit address; the sound bank has none. -/
theorem witness_ValidationCompletes : (validating (zeros 720)).banks.validator = some ⟨0xF0, 9⟩ ∧
    (validating (zeros 720)).ring.out ≠ none ∧ firstFault (zeros 720) = some ⟨2, 1, 5⟩ ∧
    (validating (soundBank 4999)).banks.validator = some ⟨0xF0, 9⟩ ∧ firstFault (soundBank 4999) = none ∧
    (soundBank 4999).length = 720 := by decide +kernel

/-- A bank whose only faults are of a line of R144's table, with the place where each is found. -/
theorem test_firstFault :
    -- unit address above 0xEF; stream above 15; a channel assigned twice; two devices at one address; count not A;
    -- α_min above α_max; bus-free selection 4; capture count 9
    firstFault (splice (soundBank 7500) 0 [0xF0]) = some ⟨1, 1, 0⟩ ∧ firstFault (splice (soundBank 7500) 0 [1, 16, 0, 1, 2, 3]) =
      some ⟨1, 1, 1⟩ ∧ firstFault (splice (soundBank 7500) 6 [1, 0, 0, 1, 2, 0]) = some ⟨1, 2, 5⟩ ∧
    firstFault (splice (soundBank 7500) 659 [0x40, 0]) = some ⟨4, 1, 4⟩ ∧
    firstFault (splice (soundBank 7500) 400 [3]) = some ⟨3, 1, 1⟩ ∧
    firstFault (splice (soundBank 7500) 668 (bytesOf 2 7501)) = some ⟨4, 1, 14⟩ ∧
    firstFault (splice (soundBank 7500) 689 [4]) = some ⟨5, 1, 1⟩ ∧
    firstFault (splice (soundBank 7500) 705 [9]) = some ⟨6, 1, 1⟩ := by decide +kernel


/-- The same with ring-out idle and nothing else waiting. -/
def validatingIdle (bank : List Byte) : State := (validating bank).updRing fun p => { p with out := none }

theorem witness_ValidationCompletes_idle : ∀ bank ∈ [zeros 720, soundBank 4999],
    (validatingIdle bank).banks.validator = some ⟨0xF0, 9⟩ ∧ (validatingIdle bank).ring.out = none ∧
    (∀ d ∈ deviceList, (validatingIdle bank).ring.claims.get d = none) ∧ (validatingIdle bank).ring.relay = [] ∧
    (validatingIdle bank).ring.answers = [⟨0xF0, 9, none, 0⟩] := by decide +kernel

theorem witness_FirstActivation : Manages 0xF0 switching ∧ switching.banks.target ≠ none ∧ Manages 0xF0 base ∧
    base.banks.target = none ∧ bankState (standby base) base ≠ .valid ∧ Manages 0xF0 bankReady ∧
    bankReady.banks.active = none ∧ bankReady.banks.target = none ∧ bankReady.banks.stateA = .valid := by
  unfold Manages Reaches
  decide +kernel

/-- Bank A is ACTIVE and bank B VALID, with feeder 1, the rectifier, the line and a capture away from their safe points
when `busy`. -/
def activating (busy : Bool) : State :=
  let s : State := { online .free with banks := { switching.banks with target := none, mask := Vector.replicate 13 false } }
  if busy then
    (((s.updEv 0 fun e => { e with state := .rising }).updRect fun r => { r with state := .running, gateEn := true }).updLine
      fun l => { l with queue := [⟨0x0C, .trip, 0, false⟩] }).updCapture fun c => { c with
        settings := some ⟨[0, 1], false⟩, slots := #v[slotAt .filling 1, slotAt .armed 0, Slot.initial, Slot.initial],
        order := [0] }
  else s

theorem witness_FirstActivation_switch : (Manages 0xF0 (activating true) ∧ (activating true).banks.target = none ∧
      bankState (standby (activating true)) (activating true) = .valid ∧ Drained (activating true)) ∧
    (Manages 0xF0 (activating false) ∧ (activating false).banks.target = none ∧
      bankState (standby (activating false)) (activating false) = .valid ∧ Drained (activating false)) := by
  unfold Manages Reaches Drained
  decide +kernel

/-- R148, R149, R150: the busy consumers keep their marks and the switch-over is pending; with none busy it completes. -/
theorem test_activate_marks :
    (after (.activate 0xF0 3 []) (activating true)).banks.mask.toList =
      [false, true, false, false, false, false, false, false, false, true, true, false, true] ∧
    (after (.activate 0xF0 3 []) (activating true)).banks.target = some .b ∧
    (after (.activate 0xF0 3 []) (activating false)).banks.active = some .b := by decide +kernel

/-- The line makes the last attempt of its last entry, and is the last consumer that a switch-over to B waits for. -/
def lastMark : State :=
  { switching with
    line := { losing.line with queue := [⟨0x0C, .trip, 1, false⟩] }
    banks := { switching.banks with mask := (Vector.replicate 13 false).set 10 true } }

theorem witness_FirstActivation_last : lastMark.banks.target = some .b ∧
    lastMark.banks.mask = (Vector.replicate 13 false).set 10 true ∧ lastMark.line.state = .sending ∧
    lastMark.line.queue = [⟨0x0C, .trip, 1, false⟩] := by decide +kernel

theorem witness_StationTime : Manages 0xF0 base ∧ [(0x14 : Byte), 0x1D, 0xD7, 0x60, 0].length = 5 ∧
    numberOf [0x14, 0x1D, 0xD7, 0x60, 0] = 86400000000 ∧ numberOf [0x14, 0x1D, 0xD7, 0x5F, 0xFF] = 86399999999 ∧
    base.time.micros < 86400000000 ∧ base.time.day < 65536 := ⟨reaches_base.2, by decide⟩

theorem witness_Restart : (rectifying .running).rect.state ≠ .off ∧ (rectifying .running).rect.state ≠ .blocked ∧
    Manages 0xF0 (rectifying .running) ∧ Manages 0xF0 (validating (soundBank 7500)) ∧
    (validating (soundBank 7500)).rect.state = .off ∧
    (∀ f, ((validating (soundBank 7500)).ev f).state ≠ .tripping) ∧ BanksConsistent (validating (soundBank 7500)) := by
  refine ⟨by decide +kernel, by decide +kernel, ?_, ?_, by decide, by decide +kernel, witness_BanksKept_settled.1.1⟩ <;>
    unfold Manages Reaches <;> decide +kernel

/-! ## Witnesses: streams and channels -/

/-- Entry 3 for unit 0x21, stream 2, in the state that a sequence check finds. -/
def entryAt (last : Option Byte) (resynced : Bool) (run : Nat) : State :=
  { base with matcher := { base.matcher with entries := base.matcher.entries.set 2 { StreamEntry.unused with
      unit := 0x21, stream := 2, assign := [some 4, some 5, none, none], last := last, resynced := resynced, run := run } } }

/-- A SAMPLE frame of that stream with one value. -/
def sample (seq : Byte) : Frame := broadcast 0x21 1 [2, seq, 1, 2, 0x58, 0]

theorem witness_SampleFrames_frame : (sample 18).dst = 0xFF ∧ (sample 18).type = 1 ∧ (sample 18).src ≠ base.ring.own ∧
    sampleWellFormed (sample 18).payload = true ∧ sampleWellFormed [2, 18, 0] = false ∧
    sampleWellFormed ([2, 18, 5] ++ zeros 15) = false ∧
    (∀ k : Fin 24, ¬ (base.matcher.entries[k].unit ≠ 0)) := by decide +kernel

theorem witness_SampleFrames_sequence :
    (∀ j : Fin 24, j < 2 → ¬ ((entryAt (some 17) false 0).matcher.entries[j].unit ≠ 0)) ∧
    ((entryAt (some 17) false 0).matcher.entries[2].unit = 0x21 ∧ (entryAt (some 17) false 0).matcher.entries[2].stream = 2) ∧
    ((17 : Byte) - 17).toNat = 0 ∧ 129 ≤ ((146 : Byte) - 17).toNat ∧
    (entryAt (some 17) false 2).matcher.entries[2].run + 1 ≠ 4 ∧
    (entryAt (some 17) false 3).matcher.entries[2].run + 1 = 4 ∧
    (entryAt none true 0).matcher.entries[2].last = none ∧ (entryAt none true 0).matcher.entries[2].resynced = true ∧
    (entryAt none false 0).matcher.entries[2].resynced = false ∧
    (entryAt (some 17) false 0).matcher.entries[2].last = some 17 ∧
    1 ≤ ((18 : Byte) - 17).toNat ∧ ((145 : Byte) - 17).toNat ≤ 128 := by decide +kernel

/-- A RECOVERING channel one good instant short of VALID. -/
def recovering31 : Channel := { validChan 600 with state := .recovering, goodRun := 31 }

theorem witness_InstantFiled : ChannelConsistent Channel.initial ∧ ChannelConsistent recovering31 ∧
    ChannelConsistent (validChan 600) ∧ usable (saturated 32767) = true ∧ usable ⟨0, .invalid⟩ = false ∧
    usable missingInstant = false :=
  ⟨⟨rfl, by decide, rfl, rfl⟩, ⟨rfl, by decide, Option.some_ne_none _, by decide⟩,
    ⟨rfl, by decide, Option.some_ne_none _⟩, rfl, rfl, rfl⟩

/-- Channel 4 has an arrival waiting and two consumers. -/
def waitingChan : State :=
  worked.updChan 4 fun k => { k with waiting := [⟨2, good 760⟩], consumers := [.evaluator 2, .rectifier] }

theorem witness_ArrivalFiled : (waitingChan.chan 4).waiting = [⟨2, good 760⟩] ∧
    (waitingChan.chan 4).consumers.Nodup := by decide +kernel

theorem witness_ChannelGoesStale : (worked.chan 4).staleAt = some 12800000 ∧ (worked.chan 4).state = .valid ∧
    (worked.chan 4).consumers = [] ∧ Settled worked ∧ (waitingChan.chan 4).staleAt = some 12800000 ∧
    (waitingChan.chan 4).consumers ≠ [] :=
  ⟨by decide +kernel, by decide +kernel, by decide +kernel, rfl, by decide +kernel, by decide +kernel⟩

/-- Feeder 1's channel is VALID with consumers, and nothing waits. -/
def watched : State :=
  (fed .closed).updChan 0 fun _ => { validChan 600 with consumers := [.evaluator 0, .capture] }

theorem witness_ChannelGoesStale_consumers : (watched.chan 0).staleAt = some 12800000 ∧ (watched.chan 0).state = .valid ∧
    (watched.chan 0).consumers ≠ [] ∧ Settled watched ∧ Drained watched := by
  unfold Drained Settled
  decide +kernel

/-- Feeder 1's settings with the channel-loss action TRIP. -/
def tripping : FeederSettings := { feeder with lossAction := .trip }

theorem witness_ChannelGoesStale_evaluator :
    (((fed .closed).ev 0).settings = some feeder ∧ ((fed .closed).ev 0).state = .quiet ∧ feeder.lossAction = .hold ∧
      (ChanState.stale : ChanState) ≠ .valid) ∧
    ((((fed .closed).updEv 0 fun e => { e with settings := some tripping, state := .rising }).ev 0).state = .rising ∧
      tripping.lossAction = .trip) ∧
    ((((fed .opened).updEv 0 fun e => { e with state := .off }).ev 0).chanView = .valid ∧ feeder.inService = true) := by
  decide +kernel

theorem witness_ChannelGoesStale_others :
    (((sequencing .measuring 7520 3010).seq 0).state = .measuring ∧ busChannel (sequencing .measuring 7520 3010) = some 2 ∧
      ((sequencing .measuring 7520 3010).dev (.ft 0)).addr ≠ none) ∧
    ((rectifying .running).rect.settings = some rectSet ∧ rectSet.uabChan = 4 ∧ rectSet.curChan = 3 ∧
      (rectifying .running).rect.tracker.state = .locked ∧ firing (rectifying .running).rect.state = true ∧
      firing (rectifying .blocked).rect.state = false ∧ (rectifying .blocked).rect.wait = .none) := by decide +kernel

/-! ## Witnesses: evaluators -/

/-- A copy after which the channel is STALE. -/
def lostCopy : Copy := { copy 0 (good 600) (good 600) with after := .stale }

theorem witness_EvaluatorOutsideProtection :
    (Settled (evaluating .tripping lostCopy) ∧ ((evaluating .tripping lostCopy).ev 0).inbox = [lostCopy] ∧
      ((evaluating .tripping lostCopy).ev 0).settings = some feeder ∧ feeder.chan = lostCopy.chan) ∧
    lostCopy.after ≠ .valid ∧ (copy 0 (good 600) (good 600)).after = .valid ∧ feeder.inService = true ∧
    ((evaluating .tripping lostCopy).ev 0).state = .tripping ∧ ((evaluating .degraded lostCopy).ev 0).state = .degraded ∧
    ((evaluating .off lostCopy).ev 0).state = .off ∧ ((evaluating .off lostCopy).ev 0).chanView = .valid :=
  ⟨⟨rfl, by decide +kernel, by decide +kernel, by decide⟩, by decide +kernel⟩

theorem witness_EvaluatorOutsideProtection_loss :
    ((evaluating .quiet lostCopy).ev 0).state = .quiet ∧ ((evaluating .rising lostCopy).ev 0).state = .rising ∧
    feeder.lossAction = .hold ∧ tripping.lossAction = .trip ∧ tripping.chan = lostCopy.chan ∧
    (((evaluating .rising lostCopy).updEv 0 fun e => { e with settings := some tripping }).ev 0).settings = some tripping ∧
    Settled ((evaluating .rising lostCopy).updEv 0 fun e => { e with settings := some tripping }) := by
  unfold Settled
  decide +kernel

/-- FM1 is in TRAVEL after a trip. -/
def tripped1 : State :=
  ((fed .travel).updEv 0 fun e => { e with state := .tripping, pendingTrip := some .deltaI }).updDev (.fm 0) fun r =>
    commanded .toOpen r

theorem witness_EvaluatorOutsideProtection_opened : Settled tripped1 ∧ (broadcast 0x40 2 [0, 1]).payload = [0, 1] ∧
    (tripped1.dev (.fm 0)).addr = some (0x40, 0) ∧
    (∀ e ∈ deviceList, e ≠ .fm 0 → (tripped1.dev e).addr ≠ some (0x40, 0)) ∧ (tripped1.dev (.fm 0)).pos ≠ .opened ∧
    (tripped1.ev 0).state = .tripping ∧ (tripped1.ev 0).settings = some feeder ∧
    (broadcast 0x40 2 [0, 1]).src ≠ tripped1.ring.own ∧ (tripped1.ev 0).chanView = .valid ∧
    ((tripped1.updEv 0 fun e => { e with chanView := .stale }).ev 0).chanView ≠ .valid := by
  unfold Settled
  decide +kernel

/-- RESTART with an evaluator in TRIPPING and FM1's breaker assigned (R42). -/
theorem witness_Restart_tripping : Manages 0xF0 tripped1 ∧ tripped1.rect.state = .blocked ∧ BanksConsistent tripped1 ∧
    (tripped1.ev 0).state = .tripping ∧ (tripped1.ev 0).pendingTrip = some .deltaI ∧ (tripped1.dev (.fm 0)).addr ≠ none ∧
    (tripped1.ev 1).state ≠ .tripping := by
  refine ⟨by unfold Manages Reaches; decide +kernel, by decide +kernel, ?_, by decide +kernel⟩
  exact banksConsistent_of (by decide +kernel) (by decide) (by decide) (by decide) (by decide) (fun k h => by cases h)
    (by decide)

/-- R42: its OPEN is asked for again and its cause told again. -/
theorem test_restart_tripping : ((after (.restart 0xF0 6 []) tripped1).dev (.fm 0)).cmd = .toOpen ∧
    ((after (.restart 0xF0 6 []) tripped1).seq 0).noted = some .deltaI ∧
    ((after (.restart 0xF0 6 []) tripped1).ev 0).state = .tripping := by decide +kernel

/-- Feeder 1 in QUIET with its counts, and a copy. -/
def quietAt (inst dt : Nat) (k : Copy) : State :=
  (evaluating .quiet k).updEv 0 fun e => { e with instCount := inst, dtCount := dt }

theorem witness_EvaluatorInQuiet :
    (Settled (quietAt 1 0 (copy 0 (good 600) (good 8000))) ∧
      ((quietAt 1 0 (copy 0 (good 600) (good 8000))).ev 0).inbox = [copy 0 (good 600) (good 8000)] ∧
      ((quietAt 1 0 (copy 0 (good 600) (good 8000))).ev 0).settings = some feeder ∧
      ((quietAt 1 0 (copy 0 (good 600) (good 8000))).ev 0).state = .quiet ∧
      (copy 0 (good 600) (good 8000)).after = .valid ∧ (copy 0 (good 600) (good 8000)).missing = 0) ∧
    (usable (good 8000) = true ∧ (feeder.iMax : Int) ≤ signed (good 8000) ∧
      1 ≤ ((quietAt 1 0 (copy 0 (good 600) (good 8000))).ev 0).instCount) ∧
    (usable (good 3000) = true ∧ (feeder.iDt : Int) ≤ signed (good 3000) ∧ signed (good 3000) < feeder.iMax ∧
      8 * feeder.tDt ≤ ((quietAt 0 1599 (copy 0 (good 3000) (good 3000))).ev 0).dtCount + 1) ∧
    (usable (good 799) = true ∧ signed (good 799) < feeder.iDt ∧
      2 * (signed (good 799) - signed (good 600)) < feeder.dStart ∧ (copy 0 (good 600) (good 799)).hist.getD 3 ⟨0, .missing⟩ = good 600) ∧
    ((feeder.dStart : Int) ≤ 2 * (signed (good 800) - signed (good 600)) ∧ feeder.captureOnRising = false) :=
  ⟨⟨rfl, by decide +kernel, by decide +kernel, by decide +kernel, rfl, rfl⟩, by decide +kernel⟩

/-- The settings with Capture on RISING, and a copy with missing instants. -/
def capturingFeeder : FeederSettings := { feeder with captureOnRising := true }
def gapCopy (m : Nat) : Copy := { copy 0 (good 600) (good 800) with missing := m }

theorem witness_EvaluatorInQuiet_more :
    (capturingFeeder.captureOnRising = true ∧
      ((feeder.dStart : Int) ≤ 2 * (signed (good 800) - signed (good 600)))) ∧
    (Settled (quietAt 1 1598 (gapCopy 1)) ∧ ((quietAt 1 1598 (gapCopy 1)).ev 0).inbox = [gapCopy 1] ∧
      ((quietAt 1 1598 (gapCopy 1)).ev 0).settings = some feeder ∧ ((quietAt 1 1598 (gapCopy 1)).ev 0).state = .quiet ∧
      (gapCopy 1).after = .valid ∧ 0 < (gapCopy 1).missing) := by
  unfold Settled
  decide +kernel

/-- Feeder 1 in RISING from 600 A with an event of some instants behind it. -/
def risingAt (elapsed hold : Nat) (k : Copy) : State :=
  (evaluating .rising k).updEv 0 fun e => { e with iBase := 600, elapsed := elapsed, hold := hold, peak := 100 }

theorem witness_EvaluatorInRising :
    (Settled (risingAt 23 0 (copy 0 (good 2300) (good 2400))) ∧
      ((risingAt 23 0 (copy 0 (good 2300) (good 2400))).ev 0).inbox = [copy 0 (good 2300) (good 2400)] ∧
      ((risingAt 23 0 (copy 0 (good 2300) (good 2400))).ev 0).settings = some feeder ∧
      ((risingAt 23 0 (copy 0 (good 2300) (good 2400))).ev 0).state = .rising) ∧
    (signed (good 2400) < feeder.iMax ∧ signed (good 2400) < feeder.iDt) ∧
    ((feeder.deltaISet : Int) ≤ signed (good 2400) - 600 ∧ feeder.tDelay ≤ 23 + 1) ∧
    (¬ (feeder.deltaISet : Int) ≤ signed (good 2399) - 600 ∧ 2 * (signed (good 2399) - signed (good 2399)) < feeder.dStop ∧
      feeder.stopHold ≤ 7 + 1) ∧
    ((feeder.dStop : Int) ≤ 2 * (signed (good 1075) - signed (good 1000)) ∧ feeder.tMax ≤ 399 + 1 ∧ 398 + 1 < feeder.tMax ∧
      (0 : Nat) < feeder.stopHold) :=
  ⟨⟨rfl, by decide +kernel, by decide +kernel, by decide +kernel⟩, by decide +kernel⟩

/-- Section 2.5's worked case, a close-in fault at the sensor's rail: the second instant of 12000 SATURATED. -/
def rail : State := (risingAt 0 0 (copy 0 (good 600) (saturated 12000))).updEv 0 fun e => { e with instCount := 1, dtCount := 1 }

theorem test_evaluatorArrival_rail : ((after (.evaluatorArrival 0) rail).ev 0).lastTrip = some (.instant, 12000) := by
  decide +kernel

/-- The other instants of RISING: INSTANT on a saturated one, DEFINITE at the last count, and an INVALID and a SATURATED one
below zero that meet nothing, before the stop test, at it, and at the lapse test. -/
theorem witness_EvaluatorInRising_more : Settled rail ∧ (rail.ev 0).state = .rising ∧ 1 ≤ (rail.ev 0).instCount ∧
    ((saturated 12000).mark = .saturated ∧ 0 < signed (saturated 12000)) ∧
    (usable (good 3000) = true ∧ (feeder.iDt : Int) ≤ signed (good 3000) ∧ 8 * feeder.tDt ≤ 1599 + 1 ∧
      ¬ (feeder.iMax : Int) ≤ signed (good 3000) ∧ ¬ feeder.tDelay ≤ 22 + 1) ∧
    (usable ⟨9000, .invalid⟩ = false ∧ (⟨9000, .invalid⟩ : Instant).mark ≠ .saturated) ∧
    (usable (saturated (-3)) = true ∧ signed (saturated (-3)) < 0) ∧
    (6 + 1 < feeder.stopHold ∧ feeder.stopHold ≤ 7 + 1 ∧ feeder.tMax ≤ 399 + 1 ∧ 398 + 1 < feeder.tMax) ∧
    ((risingAt 398 6 (copy 0 (good 600) ⟨9000, .invalid⟩)).ev 0).inbox = [copy 0 (good 600) ⟨9000, .invalid⟩] := by
  unfold Settled
  decide +kernel

theorem witness_EvaluatorInRising_missing : Settled (risingAt 398 6 (gapCopy 1)) ∧
    ((risingAt 398 6 (gapCopy 1)).ev 0).inbox = [gapCopy 1] ∧ ((risingAt 398 6 (gapCopy 1)).ev 0).state = .rising ∧
    (gapCopy 1).missing = 0 + 1 ∧ 1 ≤ feeder.dStop ∧
    -- stop test at 7 + 1, lapse test at 399 + 1, neither
    feeder.stopHold ≤ 7 + 1 ∧ (6 + 1 < feeder.stopHold ∧ feeder.tMax ≤ 399 + 1) ∧ 398 + 1 < feeder.tMax := by
  unfold Settled
  decide +kernel

/-! ## Witnesses: switchgear -/

theorem witness_PositionFrames_lost : (broadcast 0x99 2 [1, 4]).dst = 0xFF ∧ (broadcast 0x99 2 [1, 4]).type = 2 ∧
    (broadcast 0x99 2 [1, 4]).src ≠ (fed .opened).ring.own ∧ Settled (fed .opened) ∧
    (∀ d ∈ deviceList, ((fed .opened).dev d).addr ≠ some (0x99, 1)) ∧
    (1 < u8 [2, 1] 0 ∧ u8 [0, 0] 1 = 0 ∧ 4 < u8 [0, 5] 1 ∧ [(0 : Byte), 1, 0].length ≠ 2) := by
  refine ⟨by decide, by decide, by decide +kernel, rfl, by decide +kernel, by decide⟩

theorem witness_PositionFrames_repeated : framePosition 1 = some ((fed .opened).dev (.fm 0)).pos ∧
    ((fed .opened).dev (.fm 0)).addr = some (0x40, 0) ∧
    (∀ e ∈ deviceList, e ≠ .fm 0 → ((fed .opened).dev e).addr ≠ some (0x40, 0)) ∧
    ((fed .opened).dev (.fm 0)).cmd = .none := by decide +kernel

theorem witness_CloseCompletes : Settled closing ∧ (broadcast 0x40 2 [0, 2]).payload = [0, 2] ∧
    (closing.dev (.fm 0)).addr = some (0x40, 0) ∧
    (∀ e ∈ deviceList, e ≠ .fm 0 → (closing.dev e).addr ≠ some (0x40, 0)) ∧ (closing.dev (.fm 0)).cmd = .toClose ∧
    (closing.dev (.ft 0)).pos = .opened ∧ (closing.dev (.ft 0)).cmd = .none ∧ (closing.seq 0).state = .closing :=
  ⟨rfl, by decide +kernel⟩

theorem witness_PositionFrames_changed : Settled (fed .opened) ∧ framePosition 2 = some .closed ∧
    framePosition 4 = some .faulty ∧ ((fed .opened).dev (.fm 0)).pos ≠ .closed ∧ ((fed .opened).dev (.fm 0)).pos ≠ .faulty ∧
    ((fed .opened).dev (.fm 0)).pos ≠ .unknown ∧ ((fed .unknown).dev (.fm 0)).pos = .unknown ∧
    ((fed .opened).dev (.fm 0)).addr = some (0x40, 0) ∧ ((fed .opened).dev (.fm 0)).cmd = .none := by
  unfold Settled
  decide +kernel

/-- A device with a command outstanding, the others at rest. -/
def outstanding (d : Device) (c : Command) (pos : Position) : State :=
  withDev d (commanded c { (fed .opened).dev d with pos := pos }) (fed .opened)

theorem witness_PositionFrames_commanded : Settled (outstanding (.fm 0) .toOpen .closed) ∧ framePosition 3 = some .travel ∧
    framePosition 2 = some .closed ∧ framePosition 1 = some .opened ∧
    (((outstanding (.fm 0) .toOpen .closed).dev (.fm 0)).cmd = .toOpen ∧
      ((outstanding (.fm 0) .toOpen .closed).dev (.fm 0)).pos ≠ .travel ∧
      ((outstanding (.fm 0) .toOpen .closed).dev (.fm 0)).addr = some (0x40, 0) ∧
      (∀ e ∈ deviceList, e ≠ .fm 0 → ((outstanding (.fm 0) .toOpen .closed).dev e).addr ≠ some (0x40, 0))) ∧
    (((outstanding .dcm .toClose .closed).dev .dcm).cmd = .toClose ∧ (outstanding .dcm .toClose .closed).rect.wait ≠ .crossing) := by
  unfold Settled
  decide +kernel

/-- FT1 in a position with a command, its feeder's sequence in a state with its timer running or stopped. -/
def contactor (pos : Position) (st : SeqState) (timer : Bool) : State :=
  ((sequencing st 7520 3010).updDev (.ft 0) fun r => { r with pos := pos }).updSeq 0 fun q => { q with
    timerAt := if timer then some 6400000 else none }

theorem witness_PositionFrames_contactor :
    (Settled closing ∧ (closing.dev (.ft 0)).pos = .opened ∧ (closing.dev (.ft 0)).addr = some (0x40, 1) ∧
      (∀ e ∈ deviceList, e ≠ .ft 0 → (closing.dev e).addr ≠ some (0x40, 1)) ∧ (closing.dev (.ft 0)).cmd = .none ∧
      (closing.seq 0).state ≠ .measuring ∧ (closing.seq 0).state ≠ .testing ∧ (closing.dev (.fm 0)).cmd = .toClose ∧
      (closing.dev (.fm 0)).addr ≠ none) ∧
    ((contactor .opened .idleOpen false).dev (.fm 0)).cmd ≠ .toClose ∧
    (((contactor .closed .measuring false).seq 0).state = .measuring ∧
      ((contactor .closed .measuring false).dev (.ft 0)).pos = .closed) ∧
    (((contactor .closed .testing true).seq 0).timerAt ≠ none ∧ ((contactor .closed .testing false).seq 0).timerAt = none) ∧
    Settled (contactor .closed .testing true) := by
  unfold Settled
  decide +kernel

/-- FT1 or DCM under a command that TRAVEL neither completes nor fails; DCM in the wait for the crossing. -/
def crossed (c : Command) (pos : Position) : State :=
  (outstanding .dcm c pos).updRect fun r => { r with wait := .crossing }

theorem witness_PositionFrames_underCommand : framePosition 3 = some .travel ∧
    (∀ c ∈ [Command.toOpen, .toClose], ∀ st ∈ [SeqState.measuring, .testing, .testClear],
      let s := ((contactor .closed st true).updDev (.ft 0) fun r => commanded c r)
      Settled s ∧ (s.dev (.ft 0)).pos = .closed ∧ (s.dev (.ft 0)).cmd = c ∧ (s.dev (.ft 0)).addr = some (0x40, 1) ∧
      (∀ e ∈ deviceList, e ≠ .ft 0 → (s.dev e).addr ≠ some (0x40, 1)) ∧ (s.dev (.fm 0)).cmd ≠ .toClose ∧
      (s.seq 0).state = st ∧ (s.seq 0).timerAt ≠ none) ∧
    (let s := closing.updDev (.ft 0) fun r => commanded .toOpen r
     Settled s ∧ (s.dev (.fm 0)).cmd = .toClose ∧ (s.dev (.fm 0)).addr ≠ none ∧ (s.seq 0).state = .closing) ∧
    (∀ c ∈ [Command.toOpen, .toClose], ∀ pos ∈ [Position.closed, .unknown],
      Settled (crossed c pos) ∧ ((crossed c pos).dev .dcm).addr = some (0x50, 0) ∧ ((crossed c pos).dev .dcm).cmd = c ∧
      (∀ e ∈ deviceList, e ≠ .dcm → ((crossed c pos).dev e).addr ≠ some (0x50, 0)) ∧
      ((crossed c pos).dev .dcm).pos = pos ∧ ((crossed c pos).dev .dcm).flag = .none ∧
      (crossed c pos).rect.wait = .crossing ∧ (crossed c pos).rect.stopStep = 0 ∧
      firing (crossed c pos).rect.state = false) := by
  unfold Settled
  decide +kernel

theorem witness_PositionFrames_faulty : framePosition 4 = some .faulty ∧
    (∀ d ∈ [Device.fm 0, .ft 0, .dcm, .acm], ∀ c ∈ [Command.toOpen, .toClose],
      Settled (outstanding d c .travel) ∧ ((outstanding d c .travel).dev d).pos ≠ .faulty ∧
      ((outstanding d c .travel).dev d).addr ≠ none ∧ ((outstanding d c .travel).dev d).cmd = c ∧
      ((outstanding d c .travel).dev d).cmdTimer ≠ none ∧ (outstanding d c .travel).rect.wait ≠ .crossing) ∧
    (((outstanding (.ft 0) .toClose .travel).seq 0).timerAt = none ∧
      ((outstanding (.ft 0) .toClose .travel).seq 0).state ≠ .measuring ∧
      ((outstanding (.ft 0) .toClose .travel).dev (.fm 0)).cmd ≠ .toClose) ∧
    (((outstanding (.fm 0) .toOpen .closed).updDev (.fm 0) fun r => { r with cmdTimer := none }).dev (.fm 0)).cmdTimer = none := by
  unfold Settled
  decide +kernel

/-- R52: a FAULTY position, code 4 (section 11.1), fails an outstanding OPEN at once; for FM1 it is a breaker failure and DCM
is asked to open. -/
theorem test_positionFrame_faulty :
    ((after (.positionFrame (broadcast 0x40 2 [0, 4])) (outstanding (.fm 0) .toOpen .travel)).dev (.fm 0)).pos = .faulty ∧
    ((after (.positionFrame (broadcast 0x40 2 [0, 4])) (outstanding (.fm 0) .toOpen .travel)).dev (.fm 0)).flag = .openFail ∧
    ((after (.positionFrame (broadcast 0x40 2 [0, 4])) (outstanding (.fm 0) .toOpen .travel)).dev .dcm).cmd = .toOpen := by
  decide +kernel

/-- FT1 has a command outstanding in a state of its sequence. -/
def testing (c : Command) (st : SeqState) : State :=
  (outstanding (.ft 0) c .travel).updSeq 0 fun q => { q with state := st, attempts := 1, purpose := some .hold }

theorem witness_CloseCompletes_contactor :
    (Settled (testing .toClose .testing) ∧ ((testing .toClose .testing).dev (.ft 0)).addr = some (0x40, 1) ∧
      (∀ e ∈ deviceList, e ≠ .ft 0 → ((testing .toClose .testing).dev e).addr ≠ some (0x40, 1)) ∧
      ((testing .toClose .testing).dev (.ft 0)).cmd = .toClose ∧
      ((testing .toClose .testing).dev (.fm 0)).cmd ≠ .toClose ∧ ((testing .toClose .testing).seq 0).state = .testing) ∧
    (Settled (testing .toOpen .testClear) ∧ ((testing .toOpen .testClear).dev (.ft 0)).cmd = .toOpen ∧
      ((testing .toOpen .testClear).dev (.ft 0)).cmdStart = some 0 ∧ ((testing .toOpen .testClear).seq 0).state = .testClear ∧
      ((testing .toOpen .testClear).seq 0).purpose = some .hold ∧ ((testing .toOpen .testClear).seq 0).hold = false ∧
      ((testing .toOpen .testClear).seq 0).attempts + 1 = ((testing .toOpen .testClear).seq 0).limit) := by
  unfold Settled
  decide +kernel

theorem witness_CloseCompletes_entry : busChannel (sequencing .testClear 6000 0) = some 2 ∧
    ((sequencing .testClear 6000 0).chan 2).state = .valid ∧
    (planFor 0 (sequencing .testClear 6000 0)).uTestMin ≤ ((sequencing .testClear 6000 0).chan 2).last.value.toNat ∧
    ¬ (planFor 0 (sequencing .testClear 5999 0)).uTestMin ≤ ((sequencing .testClear 5999 0).chan 2).last.value.toNat ∧
    ((sequencing .testClear 6000 0).ev 0).state ≠ .degraded ∧ ((sequencing .testClear 6000 0).seq 0).hold = false ∧
    closeRefused (.fm 0) (sequencing .testClear 6000 0) = false ∧
    closeRefused (.fm 0) ((sequencing .testClear 6000 0).updDev (.fm 0) fun r => { r with flag := .openFail }) = true := by
  decide +kernel

theorem witness_CloseCompletes_mains : (outstanding .dcm .toClose .travel).rect.state = .blocked ∧
    ((outstanding .dcm .toClose .travel).dev .dcm).addr = some (0x50, 0) ∧
    (∀ e ∈ deviceList, e ≠ .dcm → ((outstanding .dcm .toClose .travel).dev e).addr ≠ some (0x50, 0)) ∧
    ((outstanding .dcm .toClose .travel).dev .dcm).cmd = .toClose ∧
    ((outstanding .dcm .toOpen .travel).dev .dcm).cmd = .toOpen ∧ (outstanding .dcm .toOpen .travel).rect.wait = .none ∧
    ((outstanding .dcm .toOpen .travel).dev .acm).addr ≠ none ∧
    ((outstanding .acm .toOpen .travel).dev .acm).cmd = .toOpen ∧
    ((outstanding .acm .toOpen .travel).dev .acm).pos ≠ .opened ∧
    ((outstanding .acm .toOpen .travel).dev .acm).cmdStart = some 0 := by decide +kernel

/-- FM1's OPEN is outstanding with a flag, the sequence in CLOSING and backing off or not. -/
def opening (flag : FailFlag) (backing hold : Bool) (pos : Position) : State :=
  ((outstanding (.fm 0) .toOpen pos).updDev (.fm 0) fun r => { r with flag := flag }).updSeq 0 fun q => { q with
    state := .closing, backingOff := backing, hold := hold, attempts := 1 }

theorem witness_CloseCompletes_opened : ∀ flag ∈ [FailFlag.none, .openFail], ∀ backing ∈ [true, false], ∀ hold ∈ [true, false],
    ∀ pos ∈ [Position.opened, .travel],
    let s := opening flag backing hold pos
    Settled s ∧ (s.dev (.fm 0)).addr = some (0x40, 0) ∧ (∀ e ∈ deviceList, e ≠ .fm 0 → (s.dev e).addr ≠ some (0x40, 0)) ∧
    (s.dev (.fm 0)).cmd = .toOpen ∧ (s.dev (.fm 0)).cmdStart = some 0 ∧ (s.dev (.fm 0)).flag = flag ∧
    (s.seq 0).state = .closing ∧ (s.seq 0).backingOff = backing ∧ (s.seq 0).hold = hold := by
  unfold Settled
  decide +kernel

/-- The same with FM1's position ageing. -/
def ageing (d : Device) : State := closing.updDev d fun r => { r with ageAt := some 320000000 }

theorem witness_DeviceTimers : Settled (ageing (.fm 0)) ∧ ((ageing (.fm 0)).dev (.fm 0)).ageAt = some 320000000 ∧
    ((ageing .dcm).dev .dcm).ageAt = some 320000000 ∧ ((ageing (.ft 0)).dev (.ft 0)).ageAt = some 320000000 ∧
    ((ageing .acm).dev .acm).ageAt = some 320000000 ∧
    ((busyRing closing).dev (.fm 0)).repeatAt = some 6400000 ∧ ((busyRing closing).dev (.fm 0)).cmd ≠ .none ∧
    ((busyRing closing).dev (.fm 0)).addr = some (0x40, 0) ∧ (busyRing closing).ring.out ≠ none :=
  ⟨rfl, by decide +kernel⟩

theorem witness_DeviceRequests_open : (base.dev (.fm 0)).addr = none ∧ ((fed .opened).dev (.fm 0)).addr ≠ none ∧
    ((fed .opened).dev (.fm 0)).cmd = .none ∧ (closing.dev (.fm 0)).addr ≠ none ∧ (closing.dev (.fm 0)).cmd = .toClose ∧
    ((withDev (.ft 0) (commanded .toOpen (device 0x40 1 .closed)) closing).dev (.ft 0)).cmd = .toOpen ∧
    ((withDev (.ft 0) (commanded .toOpen (device 0x40 1 .closed)) closing).dev (.ft 0)).addr ≠ none := by decide +kernel

theorem witness_DeviceRequests_close :
    (((fed .opened).dev (.fm 0)).addr ≠ none ∧ ((fed .opened).dev (.fm 0)).cmd = .none ∧
      ((fed .opened).dev (.fm 0)).flag = .none ∧ ((fed .opened).dev (.fm 0)).pos = .opened ∧
      ((fed .opened).dev (.ft 0)).pos = .opened ∧ ((fed .opened).dev (.ft 0)).cmd = .none) ∧
    (((fed .closed).dev (.ft 0)).addr ≠ none ∧ ((fed .closed).dev (.fm 0)).pos ≠ .opened) ∧
    ((closing.dev (.fm 0)).cmd = .toClose ∧ (closing.dev (.fm 0)).flag = .none ∧ (closing.dev (.fm 0)).pos = .opened) := by
  decide +kernel

theorem witness_CommandFailures_open : Settled (outstanding (.fm 0) .toOpen .closed) ∧
    (((outstanding (.fm 0) .toOpen .closed).dev (.fm 0)).cmd = .toOpen ∧
      ((outstanding (.fm 0) .toOpen .closed).dev (.fm 0)).cmdTimer = some 640000000 ∧
      ((outstanding (.fm 0) .toOpen .closed).dev .dcm).addr ≠ none ∧
      ((outstanding (.fm 0) .toOpen .closed).dev .dcm).cmd ≠ .toOpen ∧
      (outstanding (.fm 0) .toOpen .closed).rect.state ≠ .off) ∧
    ((outstanding (.ft 0) .toOpen .closed).dev (.ft 0)).cmdTimer = some 640000000 ∧
    (((outstanding .dcm .toOpen .closed).dev .dcm).cmdTimer = some 640000000 ∧
      (outstanding .dcm .toOpen .closed).rect.stopStep = 0 ∧
      ((outstanding .dcm .toOpen .closed).updRect fun r => { r with stopStep := 3 }).rect.stopStep ≠ 0 ∧
      ((outstanding .dcm .toOpen .closed).dev .acm).addr ≠ none) ∧
    (((outstanding .acm .toOpen .closed).dev .acm).cmdTimer = some 640000000 ∧
      (outstanding .acm .toOpen .closed).rect.stopStep ≠ 4 ∧ (outstanding .acm .toOpen .closed).rect.state ≠ .off ∧
      ((outstanding .acm .toOpen .closed).updRect fun r => { r with stopStep := 4 }).rect.stopStep = 4) :=
  ⟨rfl, by decide +kernel⟩

/-- R58: FM1's breaker failure: a TRIP is enqueued, which the lockout's HOLD leaves, and OPEN_FAIL is reported with 200 ms. -/
theorem test_openTimerExpiry_reports :
    (after (.openTimerExpiry (.fm 0)) (outstanding (.fm 0) .toOpen .closed)).line.queue = [⟨0x0C, .trip, 0, false⟩] ∧
    (after (.openTimerExpiry (.fm 0)) (outstanding (.fm 0) .toOpen .closed)).reports.queue.any
      (fun r => r.code = .openFail && r.cause = some 1 && r.value = some 200) = true := by decide +kernel

theorem witness_CommandFailures_close :
    (Settled (outstanding (.fm 0) .toClose .opened) ∧
      ((outstanding (.fm 0) .toClose .opened).dev (.fm 0)).cmd = .toClose ∧
      ((outstanding (.fm 0) .toClose .opened).dev (.fm 0)).cmdTimer = some 640000000 ∧
      ((outstanding (.fm 0) .toClose .opened).dev (.fm 0)).addr ≠ none) ∧
    (((outstanding (.ft 0) .toClose .opened).dev (.ft 0)).cmd = .toClose ∧
      ((outstanding (.ft 0) .toClose .opened).dev (.fm 0)).cmd ≠ .toClose) ∧
    (((outstanding .dcm .toClose .opened).dev .dcm).cmd = .toClose ∧
      ((outstanding .dcm .toClose .opened).updRect fun r => { r with wait := .dcm }).rect.wait = .dcm ∧
      (outstanding .dcm .toClose .opened).rect.state = .blocked) ∧
    ((outstanding .acm .toClose .opened).dev .acm).cmd = .toClose := by
  refine ⟨⟨rfl, ?_⟩, ?_⟩ <;> decide +kernel

/-! ## Witnesses: the intertrip line -/

theorem witness_MessageNotAccepted : Settled (online .free) ∧ (online .free).line.state = .free ∧
    (online .waiting).line.state = .waiting ∧
    (1#14).toNat % 16 ≠ ((1#14).toNat / 64 / 16 + (1#14).toNat / 64 % 16 + (1#14).toNat / 16 % 4) % 16 ∧
    (BitVec.ofNat 14 (12 * 64 + 3 * 16 + 15)).toNat % 16 = (12 / 16 + 12 % 16 + 3) % 16 ∧
    (BitVec.ofNat 14 0).toNat % 16 = 0 ∧ (0x0D : Byte).toNat = 13 ∧
    (∀ f : Fin 8, inService ((online .free).ev f) = true → lineTable.sections[f].toNat ≠ 13) ∧
    (online .free).line.table = some lineTable := ⟨rfl, by decide +kernel⟩

theorem witness_MessageNotAccepted_sample : Settled lastClock ∧ lastClock.line.state = .receiving ∧
    lastClock.line.clocks = 14 ∧ lastClock.line.heard.length = 13 ∧
    -- TRIP 12 with its last bit 1 has a wrong check
    numberOfBits ((lastClock.line.heard ++ [true]).drop 10) ≠ (12 / 16 + 12 % 16 + 0) % 16 := by
  unfold Settled
  decide +kernel

/-- A HOLD or TRIP for section 12 accepted at its clock 14, with CK high after a clock. -/
def accepted (k : Kind) (clocks : Nat) : State :=
  (online .receiving).updLine fun l => { l with
    clocks := clocks, accepted := some (0x0C, k), driveDt := clocks = 15, dtLow := clocks = 15 }

theorem witness_MessagesAccepted_acknowledge : (accepted .hold 14).line.state = .receiving ∧
    (accepted .hold 14).line.ckLow = false ∧ (accepted .hold 14).line.driveCk = false ∧
    (accepted .hold 14).line.clocks = 14 ∧ (accepted .hold 14).line.driveDt = false ∧
    (let s := (accepted .hold 15).updLine fun l => { l with accepted := none }
     s.line.ckLow = false ∧ s.line.clocks = 15 ∧ s.line.accepted = none) := by decide +kernel

theorem witness_MessagesAccepted_judged : Settled lastClock ∧ lastClock.line.state = .receiving ∧
    lastClock.line.clocks = 14 ∧ lastClock.line.heard.length = 13 ∧
    lastClock.line.heard ++ [false] = messageBits 0x0C .trip ∧ lastClock.line.table = some lineTable ∧
    lineTable.enable = true ∧ (∃ f : Fin 8, lineTable.sections[f] = 0x0C ∧ inService (lastClock.ev f) = true) :=
  ⟨rfl, by decide +kernel⟩

theorem witness_MessagesAccepted : Settled (online .free) ∧ (online .free).line.table = some lineTable ∧
    lineTable.enable = true ∧ (0x0C : Byte) ≠ 0 ∧
    (∃ f : Fin 8, lineTable.sections[f] = 0x0C ∧ inService ((online .free).ev f) = true) ∧
    (∀ f : Fin 8, lineTable.sections[f] = 0x0C → seqIdle ((online .free).seq f).state = true) ∧
    (∀ f : Fin 8, lineTable.sections[f] = 0x0C → inService ((online .free).ev f) = true →
      ((online .free).ev f).state = .quiet ∧ ((online .free).ev f).posView ≠ .opened ∧
        ((online .free).seq f).state = .idleClosed) := ⟨rfl, by decide +kernel⟩

theorem witness_MessagesAccepted_applied : ∀ k : Fin 2, (let s := accepted (if k = 0 then .hold else .trip) 15
    Settled s ∧ s.line.table = some lineTable ∧ s.line.state = .receiving ∧ s.line.clocks = 15 ∧
    s.line.accepted = some (0x0C, if k = 0 then .hold else .trip) ∧ s.line.ckLow = false ∧ s.line.driveCk = false ∧
    (∀ f : Fin 8, lineTable.sections[f] = 0x0C → seqIdle (s.seq f).state = true) ∧
    (∀ f : Fin 8, lineTable.sections[f] = 0x0C → inService (s.ev f) = true →
      (s.ev f).state = .quiet ∧ (s.ev f).posView ≠ .opened ∧ (s.seq f).state = .idleClosed)) := by
  unfold Settled
  decide +kernel

/-- Feeders 1 and 2 of section 12 in a state of their sequences, with an evaluator state of feeder 1. -/
def inSection (st : SeqState) (ev : EvState) (fm : Position) : State :=
  (((online .free).updSeq 0 fun q => { q with state := st, attempts := 1 }).updEv 0 fun e => { e with
    state := ev, posView := fm }).updDev (.fm 0) fun r => { r with pos := fm }

theorem witness_MessagesAccepted_every : (∀ st ∈ [SeqState.deadTime, .waitBus, .held, .testing, .closing, .lockout],
      let s := inSection st .off .opened
      Settled s ∧ s.line.table = some lineTable ∧ s.line.state = .free ∧ (s.seq 0).state = st ∧
      (∃ f : Fin 8, lineTable.sections[f] = 0x0C ∧ inService (s.ev f) = true) ∧ (s.dev (.fm 0)).pos = .opened ∧
      (s.seq 0).backingOff = false ∧ (s.dev (.fm 0)).cmd ≠ .toClose ∧ (s.dev (.fm 0)).addr ≠ none ∧
      (s.dev (.ft 0)).addr ≠ none) ∧
    lineTable.enable = true ∧
    (∀ ev ∈ [EvState.quiet, .rising, .degraded, .off, .tripping], ((inSection .reclaim ev .closed).ev 0).state = ev ∧
      ((inSection .reclaim ev .closed).ev 0).posView ≠ .opened ∧ ((inSection .reclaim ev .opened).ev 0).posView = .opened) ∧
    (∀ k ∈ [Kind.trip, .hold, .release], (accepted k 15).line.accepted = some (0x0C, k) ∧ (accepted k 15).line.clocks = 15 ∧
      (accepted k 15).line.ckLow = false ∧ (accepted k 15).line.driveCk = false) := by
  unfold Settled
  decide +kernel

/-- R91: a HOLD for section 12 takes a dead time to HELD; R101: it withdraws a close while FM1 is reported OPEN. -/
theorem test_hold_waits :
    ((holdNotice 0 (inSection .deadTime .off .opened)).seq 0).state = .held ∧
    ((holdNotice 0 (inSection .deadTime .off .opened)).seq 0).timerAt = none ∧
    ((holdNotice 0 closing).dev (.fm 0)).cmd = .toOpen ∧ ((holdNotice 0 closing).seq 0).attempts = 0 := by decide +kernel

/-- The line in a state with the low timer running and CK low. -/
def lineLowAt (st : LineState) : State :=
  (online st).updLine fun l => LineCtl.timed 0 { l with ckLow := true }

theorem witness_LineEvents : ((online .free).line.state = .free ∧ (online .free).line.ckLow = false ∧ (online .free).line.dtLow = false) ∧
    (lineLowAt .waiting).line.ckLow = true ∧
    ((online .waiting).line.state = .waiting ∧ (online .waiting).line.freeSince = some 0) ∧
    ((online .fault).line.state = .fault ∧ (online .fault).line.freeSince = some 0) ∧
    ((lineLowAt .waiting).line.state = .waiting ∧ (lineLowAt .waiting).line.lowAt = some 12800000) ∧
    (online .receiving).line.state ≠ .sending ∧ (online .receiving).line.state ≠ .fault ∧ Settled (lineLowAt .waiting) := by
  refine ⟨by decide +kernel, by decide +kernel, by decide +kernel, by decide +kernel, by decide +kernel, by decide +kernel,
    by decide +kernel, rfl⟩

theorem witness_LineEvents_message : Settled (online .receiving) ∧ (online .receiving).line.state = .receiving ∧
    (online .receiving).line.ckLow = false ∧ (online .receiving).line.driveCk = false ∧
    (online .receiving).line.clocks ≠ 14 ∧ (online .receiving).line.dtLow = true ∧
    (online .receiving).line.driveDt = false ∧
    ((accepted .hold 3).line.heard.length < (accepted .hold 3).line.clocks ∧ (accepted .hold 3).line.heard.length ≠ 13) ∧
    15 ≤ (accepted .hold 15).line.clocks ∧ (lastClock.line.ckLow = true ∧ lastClock.line.dtLow = false) := by
  unfold Settled
  decide +kernel

/-- The head entry in flight, with attempts made and perhaps changed. -/
def inFlight (attempts : Nat) (changed : Bool) : State :=
  losing.updLine fun l => { l with queue := [⟨0x0C, .trip, attempts, changed⟩, ⟨3, .hold, 0, false⟩] }

/-- The line is FREE with two entries waiting. -/
def queued : State :=
  (online .free).updLine fun l => { l with queue := [⟨0x0C, .trip, 0, false⟩, ⟨3, .hold, 0, false⟩] }

theorem witness_SendingAttempts : Settled (inFlight 0 false) ∧
    (inFlight 0 false).line.queue = ⟨0x0C, .trip, 0, false⟩ :: [⟨3, .hold, 0, false⟩] ∧
    (inFlight 0 false).line.state = .sending ∧ queued.line.state = .free ∧ queued.line.ckLow = false ∧ queued.line.lowAt = none ∧
    queued.line.queue = ⟨0x0C, .trip, 0, false⟩ :: [⟨3, .hold, 0, false⟩] ∧
    (inFlight 1 true).line.queue = ⟨0x0C, .trip, 1, true⟩ :: [⟨3, .hold, 0, false⟩] ∧
    (inFlight 0 false).line.table = some lineTable ∧ 0 + 1 < 1 + lineTable.retry ∧ 1 + lineTable.retry ≤ 1 + 1 :=
  ⟨rfl, by decide +kernel⟩

theorem witness_SendingAttempts_clocks : Settled losing ∧ losing.line.state = .sending ∧ losing.line.ckLow = false ∧
    losing.line.clocks ≤ 0 + 1 ∧ losing.line.inFlight.length = 14 ∧
    (let s := after (.lineLowEvent .ck) losing
     s.line.state = .sending ∧ 1 ≤ s.line.clocks ∧ s.line.clocks = 0 + 1 ∧
      s.line.driveDt = !(s.line.inFlight.getD (s.line.clocks - 1) true) ∧
      0 + 1 < (after (.lineLowEvent .ck) (s.updLine fun l => { l with ckLow := false })).line.clocks) := by
  unfold Settled
  decide +kernel

/-- Clock 5 of TRIP 12, whose bit is 1: CK is low by this part and DT is released. -/
def oneBit : State := after (.lineLowEvent .ck) (losing.updLine fun l => { l with clocks := 4, dtLow := false, driveDt := false })

theorem witness_SendingAttempts_rise : oneBit.line.state = .sending ∧ oneBit.line.ckLow = true ∧ oneBit.line.driveDt = false ∧
    oneBit.line.clocks = 5 ∧ oneBit.line.clocks < 16 ∧ oneBit.line.inFlight.length = 14 := by decide +kernel

/-- R66, R70: the first clock is due 50 µs after the start; CK's low time is 50 µs, and its high time 50 µs from its rise, which a
sample shows 25 µs later. -/
theorem test_ownTimes : (after .intertripMessageStart queued).line.phaseAt = some 320000 ∧
    oneBit.line.phaseAt = some 320000 ∧ (after .bothWiresHigh oneBit).line.phaseAt = some 320000 ∧
    (after (.intertripMessageReceived (.sample true) false) oneBit).line.phaseAt = some 160000 := by decide +kernel

theorem witness_Enqueues : base.line.table = none ∧ (online .free).line.table = some lineTable ∧
    lineTable.sections[(2 : Fin 8)] = 0 ∧ lineTable.sections[(0 : Fin 8)] ≠ 0 ∧ lineTable.enable = true ∧
    (∀ e ∈ (online .free).line.queue, e.code ≠ lineTable.sections[(0 : Fin 8)]) ∧
    (inFlight 0 false).line.queue = [] ++ ⟨0x0C, .trip, 0, false⟩ :: [⟨3, .hold, 0, false⟩] ∧
    lineTable.sections[(0 : Fin 8)] = 0x0C := by decide +kernel

/-! ## Witnesses: sequences -/

/-- FM1 has opened after a trip with a noted cause. -/
def tripped (cause : Cause) (limit : Nat) (hold : Bool) : State :=
  (fed .closed).updSeq 0 fun q => { q with
    plan := some { plan with limit := limit }, noted := some cause, hold := hold }

theorem witness_SequenceStarts : seqIdle ((tripped .deltaI 2 false).seq 0).state = true ∧
    ((tripped .deltaI 2 false).seq 0).noted = some .deltaI ∧ inService ((tripped .deltaI 2 false).ev 0) = true ∧
    ((tripped .deltaI 2 false).seq 0).plan = some { plan with limit := 2 } ∧
    ((tripped .channelLoss 2 false).seq 0).noted = some .channelLoss ∧
    ((tripped .instant 0 false).seq 0).plan = some { plan with limit := 0 } ∧ ((tripped .instant 1 true).seq 0).hold = true ∧
    ((tripped .instant 1 true).seq 0).plan = some { plan with limit := 1 } := by decide +kernel

theorem witness_SequenceStarts_retrip : ((sequencing .reclaim 6000 0).seq 0).state = .reclaim ∧
    (((sequencing .closing 6000 0).updSeq 0 fun q => { q with noted := some .deltaI }).seq 0).noted = some .deltaI ∧
    ((sequencing .closing 6000 0).seq 0).state = .closing ∧ ((sequencing .closing 6000 0).seq 0).plan = some plan ∧
    -- a at the limit, and one below it
    ((sequencing .closing 6000 0).seq 0).limit ≤ 2 ∧ 1 < ((sequencing .closing 6000 0).seq 0).limit ∧
    ((sequencing .waitBus 6000 0).seq 0).state = .waitBus := by decide +kernel

/-- An idle feeder 1, without a noted trip, in service or not. -/
def idleAt (st : SeqState) (noted : Option Cause) (served : Bool) : State :=
  ((fed .closed).updSeq 0 fun q => { q with state := st, noted := noted }).updEv 0 fun e => { e with
    settings := some { feeder with inService := served } }

theorem witness_SequenceStarts_followed : ∀ st ∈ [SeqState.idleOpen, .idleClosed], ∀ noted ∈ [none, some Cause.deltaI],
    ∀ served ∈ [true, false], let s := idleAt st noted served
    seqIdle (s.seq 0).state = true ∧ (s.seq 0).state = st ∧ (s.seq 0).plan = some plan ∧ (s.seq 0).noted = noted ∧
    inService (s.ev 0) = served ∧ plan.limit ≠ 0 ∧ (s.seq 0).hold = false ∧
    ((s.updSeq 0 fun q => { q with plan := none }).seq 0).plan = none := by decide +kernel

/-- R86, R88: an uncommanded OPEN starts a sequence with cause EXTERNAL, 5, and the plan's limit; one of an operator does not. -/
theorem test_external_start :
    (mainNotice 0 .closed .opened true (idleAt .idleClosed none true)).reports.queue.map (fun r => (r.code, r.cause, r.value)) =
      [(.sequenceStart, some 5, some 2)] ∧
    ((mainNotice 0 .closed .opened true (idleAt .idleClosed none true)).seq 0).state = .deadTime ∧
    ((mainNotice 0 .closed .opened false (idleAt .idleClosed none true)).seq 0).state = .idleOpen := by decide +kernel

/-- The end of a dead time, by the hold flag, the evaluator's state and FT's flag. -/
def deadTimeAt (bus line : Int) (hold : Bool) (st : EvState) (flag : FailFlag) : State :=
  (((sequencing .deadTime bus line).updSeq 0 fun q => { q with hold := hold }).updEv 0 fun e => { e with state := st }).updDev
    (.ft 0) fun r => { r with flag := flag }

theorem witness_DeadTimeEnds : (Settled (deadTimeAt 6000 2999 false .off .none) ∧
      ((deadTimeAt 6000 2999 false .off .none).seq 0).state = .deadTime ∧
      ((deadTimeAt 6000 2999 false .off .none).seq 0).timerAt = some 6400000 ∧
      busChannel (deadTimeAt 6000 2999 false .off .none) = some 2 ∧
      lineChannel 0 (deadTimeAt 6000 2999 false .off .none) = some 1 ∧
      ((deadTimeAt 6000 2999 false .off .none).chan 2).state = .valid ∧
      (planFor 0 (deadTimeAt 6000 2999 false .off .none)).uTestMin ≤
        ((deadTimeAt 6000 2999 false .off .none).chan 2).last.value.toNat ∧
      ¬ (planFor 0 (deadTimeAt 6000 2999 false .off .none)).uLive ≤
        ((deadTimeAt 6000 2999 false .off .none).chan 1).last.value.toNat ∧
      closeRefused (.ft 0) (deadTimeAt 6000 2999 false .off .none) = false) ∧
    ((deadTimeAt 6000 2999 true .off .none).seq 0).hold = true ∧
    ¬ (planFor 0 (deadTimeAt 5999 0 false .off .none)).uTestMin ≤ ((deadTimeAt 5999 0 false .off .none).chan 2).last.value.toNat ∧
    ((deadTimeAt 6000 0 false .degraded .none).ev 0).state = .degraded ∧
    closeRefused (.ft 0) (deadTimeAt 6000 2999 false .off .closeFail) = true := by
  refine ⟨⟨rfl, ?_⟩, ?_⟩ <;> decide +kernel

theorem witness_DeadTimeEnds_live : Settled (deadTimeAt 6000 3000 false .off .none) ∧
    ((deadTimeAt 6000 3000 false .off .none).chan 1).state = .valid ∧
    (planFor 0 (deadTimeAt 6000 3000 false .off .none)).uLive ≤
      ((deadTimeAt 6000 3000 false .off .none).chan 1).last.value.toNat ∧
    ((deadTimeAt 6000 3000 false .off .none).seq 0).hold = false ∧
    ((deadTimeAt 6000 3000 false .off .none).ev 0).state ≠ .degraded := by
  unfold Settled
  decide +kernel

theorem witness_SequenceTimers : Settled (sequencing .testing 6000 0) ∧
    ((sequencing .testing 6000 0).seq 0).state = .testing ∧ ((sequencing .testing 6000 0).seq 0).timerAt = some 6400000 ∧
    channelValid (busChannel (sequencing .testing 6000 0)) (sequencing .testing 6000 0) = true ∧
    channelValid (lineChannel 0 (sequencing .testing 6000 0)) (sequencing .testing 6000 0) = true ∧
    channelValid (busChannel ((sequencing .testing 6000 0).updChan 2 fun _ => Channel.initial))
      ((sequencing .testing 6000 0).updChan 2 fun _ => Channel.initial) = false ∧
    ((sequencing .held 6000 0).seq 0).holdAt = some 6400000 ∧ ((sequencing .reclaim 6000 0).seq 0).timerAt = some 6400000 ∧
    ((sequencing .waitBus 6000 0).seq 0).busWaitAt = some 6400000 := ⟨rfl, by decide +kernel⟩

/-- R103: the lockout of the bus wait's end reports its cause, BUS_LOW 4, and the attempt count, and enqueues a HOLD. -/
theorem test_busWaitExpiry_lockout : (let t := after (.busWaitExpiry 0) ((sequencing .waitBus 5000 0).updSeq 0 fun q =>
      { q with attempts := 1, hold := true })
    t.reports.queue.map (fun r => (r.code, r.cause, r.value)) = [(.lockout, some 4, some 1)] ∧
    t.line.queue = [⟨0x0C, .hold, 0, false⟩] ∧ (t.seq 0).busWaitAt = none ∧ (t.seq 0).hold = true) := by decide +kernel

/-- The 64th line reading of a measurement with 64 bus readings. -/
def measured (busSum lineSum : Nat) (last : Int) : State :=
  (sequencing .measuring 7520 3010).updSeq 0 fun q => { q with
    busSum := busSum, busCount := 64, lineSum := lineSum, lineCount := 63, inbox := [copy 1 (good last) (good last)] }

theorem witness_MeasurementWorkedOut : Settled (measured 481300 189670 3010) ∧
    ((measured 481300 189670 3010).seq 0).inbox = [copy 1 (good 3010) (good 3010)] ∧
    ((measured 481300 189670 3010).seq 0).state = .measuring ∧ busChannel (measured 481300 189670 3010) = some 2 ∧
    lineChannel 0 (measured 481300 189670 3010) = some 1 ∧ (2 : Fin 24) ≠ 1 ∧
    usable (copy 1 (good 3010) (good 3010)).own = true ∧ ((measured 481300 189670 3010).seq 0).busCount = 64 ∧
    ((measured 481300 189670 3010).seq 0).lineCount = 63 ∧ ((measured 481300 189670 3010).dev (.ft 0)).addr ≠ none ∧
    ((measured 481300 189670 3010).dev (.ft 0)).cmd = .none ∧ ((measured 481300 189670 3010).dev (.fm 0)).cmd ≠ .toClose ∧
    -- BUS_LOW at 5999, LIVE at equal voltages, FAULTED at R = 27, HEALTHY
    (383999 / 64 < plan.uTestMin ∧ 384000 / 64 ≤ (378000 + 6000) / 64 ∧
      1000 * ((10071 + 160) / 64) % 4294967296 / (384000 / 64 - (10071 + 160) / 64) < plan.rMin ∧
      plan.rMin ≤ 1000 * ((189670 + 3010) / 64) % 4294967296 / (481300 / 64 - (189670 + 3010) / 64)) :=
  ⟨rfl, by decide +kernel⟩

/-- A measurement with counts, and a copy of one of its channels. -/
def measuringAt (busCount lineCount : Nat) (k : Copy) : State :=
  (measured 481300 189670 3010).updSeq 0 fun q => { q with busCount := busCount, lineCount := lineCount, inbox := [k] }

/-- WAIT_BUS with a step, and a copy of the bus channel. -/
def busWaiting (step : WaitingStep) (v : Int) : State :=
  (sequencing .waitBus v 2999).updSeq 0 fun q => { q with waitStep := some step, inbox := [copy 2 (good v) (good v)] }

theorem witness_MeasurementWorkedOut_more :
    (∀ k ∈ [copy 2 (good 7520) (good 7520), copy 1 (good 3010) (good 3010), { copy 2 (good 0) (good 0) with after := .stale },
        copy 1 (good 0) ⟨5, .invalid⟩, copy 9 (good 0) (good 0)], ∀ n ∈ [0, 62, 63, 64],
      Settled (measuringAt n 64 k) ∧ ((measuringAt n 64 k).seq 0).inbox = [k] ∧
      ((measuringAt n 64 k).seq 0).state = .measuring ∧ ((measuringAt n 64 k).seq 0).busCount = n ∧
      ((measuringAt 64 n k).seq 0).lineCount = n ∧ ((measuringAt n 64 k).dev (.fm 0)).cmd ≠ .toClose) ∧
    busChannel (measuringAt 63 64 (copy 2 (good 7520) (good 7520))) = some 2 ∧
    lineChannel 0 (measuringAt 63 64 (copy 2 (good 7520) (good 7520))) = some 1 := by
  unfold Settled
  decide +kernel

theorem witness_MeasurementWorkedOut_bus : ∀ step ∈ [WaitingStep.test, .close],
    Settled (busWaiting step 6000) ∧ ((busWaiting step 6000).seq 0).state = .waitBus ∧
    ((busWaiting step 6000).seq 0).waitStep = some step ∧ busChannel (busWaiting step 6000) = some 2 ∧
    usable (copy 2 (good 6000) (good 6000)).own = true ∧
    (planFor 0 (busWaiting step 6000)).uTestMin ≤ (copy 2 (good 6000) (good 6000)).own.value.toNat ∧
    ¬ (planFor 0 (busWaiting step 5999)).uTestMin ≤ (copy 2 (good 5999) (good 5999)).own.value.toNat ∧
    -- the TESTING entry check: taken, refused, live, without protection
    lineChannel 0 (busWaiting step 6000) = some 1 ∧ closeRefused (.ft 0) (busWaiting step 6000) = false ∧
    closeRefused (.ft 0) ((busWaiting step 6000).updDev (.ft 0) fun r => { r with flag := .closeFail }) = true ∧
    ((busWaiting step 6000).ev 0).state ≠ .degraded ∧
    ¬ (planFor 0 (busWaiting step 6000)).uLive ≤ ((busWaiting step 6000).chan 1).last.value.toNat ∧
    (planFor 0 (sequencing .waitBus 6000 3000)).uLive ≤ ((sequencing .waitBus 6000 3000).chan 1).last.value.toNat := by
  unfold Settled
  decide +kernel

/-- R95: the bus reading that comes last gives the result, and an arrival that loses its channel MEASUREMENT_LOST; R92: a bus
arrival at U_test_min ends WAIT_BUS. -/
theorem test_sequencerArrival_last : (let t := after (.sequencerArrival 0) (measuringAt 63 64 (copy 2 (good 7520) (good 7520)))
      (t.seq 0).busCount = 64 ∧ (t.seq 0).state = .testClear) ∧
    ((after (.sequencerArrival 0) (measuringAt 5 5 { copy 2 (good 0) (good 0) with after := .stale })).seq 0).purpose =
      some (.outcome .measurementLost) ∧
    ((after (.sequencerArrival 0) (busWaiting .test 6000)).seq 0).state = .testing ∧
    ((after (.sequencerArrival 0) (busWaiting .test 5999)).seq 0).state = .waitBus := by decide +kernel

theorem witness_OperatorOnFeeder : Manages 0xF0 base ∧ Settled base ∧ (base.dev (.fm 0)).addr = none ∧
    (Manages 0xF0 (fed .opened) ∧ Settled (fed .opened) ∧ ((fed .opened).dev (.fm 0)).addr ≠ none ∧
      ((fed .opened).seq 0).state ≠ .lockout ∧ ((fed .opened).dev (.fm 0)).cmd ≠ .toOpen) ∧
    (Manages 0xF0 (sequencing .idleOpen 7000 0) ∧ ((sequencing .idleOpen 7000 0).seq 0).state = .idleOpen ∧
      ((sequencing .idleOpen 7000 0).seq 0).hold = false ∧ inService ((sequencing .idleOpen 7000 0).ev 0) = true) ∧
    (Manages 0xF0 (sequencing .lockout 7000 0) ∧ ((sequencing .lockout 7000 0).seq 0).state = .lockout ∧
      ((sequencing .lockout 7000 0).dev (.fm 0)).pos = .opened) := by
  refine ⟨reaches_base.2, rfl, by decide, ⟨?_, rfl, by decide +kernel⟩, ⟨?_, by decide +kernel⟩, ⟨?_, by decide +kernel⟩⟩ <;>
    unfold Manages Reaches <;> decide +kernel

/-! ## Witnesses: the rectifier group -/

/-- The tracker in a state with a U_ab arrival after an instant. -/
def tracking (st : TrackState) (goodCount : Nat) (last : Option Crossing) (count : BitVec 32) (old own : Int) : State :=
  (rectifying .blocked).updRect fun r => { r with
    tracker := ⟨st, count, last, goodCount, 40960⟩
    uabIn := [{ copy 4 (good 0) (good own) with hist := List.replicate 6 missingInstant ++ [good old, good own] }] }

/-- A crossing at instant 900. -/
def crossing900 : Option Crossing := some ⟨BitVec.ofNat 40 (256 * 900), 900⟩

theorem witness_TrackerArrivals_crossing : Settled (tracking .unlocked 0 none 1059 (-1) 0) ∧
    (tracking .unlocked 0 none 1059 (-1) 0).rect.settings = some rectSet ∧
    (signed (good (-1)) < 0 ∧ 0 ≤ signed (good 0) ∧ usable (good (-1)) = true) ∧
    (tracking .locking 3 crossing900 1059 (-1) 0).rect.tracker.state = .locking ∧
    -- 160 instants after the crossing at 900: the period is good, and 100 have passed
    100 ≤ ((1059 : BitVec 32) + 1 - 900).toNat ∧
    (37237 ≤ 256 * 1060 - 256 + 256 - 256 * 900 ∧ 256 * 1060 - 256 + 256 - 256 * 900 ≤ 45511) ∧
    -- 100 instants after it: taken, and out of range
    100 ≤ ((999 : BitVec 32) + 1 - 900).toNat ∧ ¬ 37237 ≤ 256 * 1000 - 256 * 900 :=
  ⟨rfl, by decide +kernel⟩

/-- A U_ab arrival 0 whose only usable slot before it lies some instants back. -/
def farBack (st : TrackState) (back : Nat) (old own : Int) : State :=
  (tracking st 0 crossing900 1059 (-1) 0).updRect fun r => { r with
    uabIn := [{ copy 4 (good 0) (good own) with
      hist := List.replicate (7 - back) missingInstant ++ [good old] ++ List.replicate (back - 1) missingInstant ++ [good own] }] }

theorem witness_TrackerArrivals_lookBack : Settled (farBack .locked 7 (-32768) 0) ∧
    ((farBack .locked 7 (-32768) 0).rect.uabIn.map fun k => k.hist.take 7) = [[good (-32768)] ++ List.replicate 6 missingInstant] ∧
    ((farBack .locked 2 (-1) 0).rect.uabIn.map fun k => (k.hist[5]?, k.hist[6]?)) = [(some (good (-1)), some missingInstant)] ∧
    usable missingInstant = false ∧ usable (good (-32768)) = true ∧ signed (good (-32768)) < 0 := by
  unfold Settled
  decide +kernel

/-- R125: over two intervals the crossing lies 256 · 2 · 100 / 400 units after the older instant, at 128 of 512. -/
theorem test_trackerArrival_lookBack : (after .trackerArrival (farBack .locking 2 (-100) 300)).rect.tracker.last =
    some ⟨BitVec.ofNat 40 (256 * 1060 - 512 + 128), 1060⟩ := by decide +kernel

theorem witness_TrackerArrivals_locked : Settled (tracking .locked 4 crossing900 1059 (-1) 0) ∧
    (tracking .locked 4 crossing900 1059 (-1) 0).rect.tracker.state = .locked ∧
    (tracking .locked 4 crossing900 999 (-1) 0).rect.wait = .none ∧
    firing (tracking .locked 4 crossing900 999 (-1) 0).rect.state = false ∧
    firing ((tracking .locked 4 crossing900 999 (-1) 0).updRect fun r => { r with state := .running }).rect.state = true := by
  unfold Settled
  decide +kernel

theorem witness_TrackerArrivals_none : Settled (tracking .locked 4 crossing900 1098 5 (-1)) ∧
    (tracking .locked 4 crossing900 1098 5 (-1)).rect.tracker.state = .locked ∧
    (tracking .locked 4 crossing900 1098 5 (-1)).rect.tracker.last = crossing900 ∧ signed (good (-1)) < 0 ∧
    -- at instant 1100, 200 instants are 51200 units, 1.25 periods; one more is past it
    256 * 1100 - 256 * 900 ≤ 40960 + 40960 / 4 ∧ 40960 + 40960 / 4 < 256 * 1101 - 256 * 900 ∧
    (tracking .locked 4 crossing900 1100 5 (-1)).rect.wait = .none ∧
    firing (tracking .locked 4 crossing900 1100 5 (-1)).rect.state = false ∧
    firing ((tracking .locked 4 crossing900 1100 5 (-1)).updRect fun r => { r with state := .running }).rect.state = true :=
  ⟨rfl, by decide +kernel⟩

/-- LOCKING at the last instant within its timeout and one past it; an arrival at or above 0 whose older instant is not below 0,
a crossing 99 instants after the last one, and no usable slot before it. -/
theorem witness_TrackerArrivals_more : (256 * 1122 - 256 * 900 ≤ 56888 ∧ 56888 < 256 * 1123 - 256 * 900) ∧
    (tracking .locking 0 crossing900 1121 5 (-1)).rect.tracker.state = .locking ∧
    (tracking .unlocked 0 crossing900 1121 5 (-1)).rect.tracker.last = crossing900 ∧
    ((998 : BitVec 32) + 1 - 900).toNat < 100 ∧ (0 ≤ signed (good 0) ∧ usable (good 0) = true) ∧
    (∀ b : Fin 8, 1 ≤ b.val → usable ((List.replicate 8 missingInstant).getD (7 - b.val) ⟨0, .missing⟩) = false) := by
  decide +kernel

/-- A U_ab arrival after which its channel is STALE, in a rectifier state. -/
def uabLost (st : TrackState) (rect : RectState) : State :=
  (tracking st 4 crossing900 1059 (-1) 0).updRect fun r => { r with
    state := rect, uabIn := r.uabIn.map fun k => { k with after := .stale } }

theorem witness_TrackerArrivals_lost : ∀ st ∈ [TrackState.unlocked, .locking, .locked], ∀ rect ∈ [RectState.blocked, .running],
    Settled (uabLost st rect) ∧ (uabLost st rect).rect.tracker.state = st ∧ (uabLost st rect).rect.wait = .none ∧
    ((uabLost st rect).rect.uabIn.map fun k => (k.chan, k.after)) = [(4, .stale)] ∧
    (uabLost st rect).rect.settings = some rectSet ∧ rectSet.uabChan = 4 ∧
    firing RectState.blocked = false ∧ firing RectState.running = true := by
  unfold Settled
  decide +kernel

/-- RUNNING with a cycle's sums and the bus channel VALID. -/
def cycle : State :=
  ((rectifying .running).updChan 2 fun _ => validChan 7000).updRect fun r => { r with
    sums := ⟨1120000, 160, 384000, 160⟩, schedule := [⟨11, 5000, false⟩] }

theorem witness_RegulatorAndSchedule : cycle.rect.state = .running ∧ cycle.rect.sums.busCount ≠ 0 ∧
    (cycle.chan rectSet.busChan).state = .valid ∧ rectSet.alphaMin ≤ rectSet.alphaMax ∧ Settled cycle ∧
    cycle.rect.settings = some rectSet := by
  refine ⟨by decide +kernel, by decide +kernel, by decide +kernel, by decide, rfl, by decide +kernel⟩

theorem witness_RegulatorAndSchedule_hold :
    (cycle.updRect fun r => { r with sums := { r.sums with busCount := 0 } }).rect.sums.busCount = 0 ∧
    ((cycle.updChan 2 fun _ => recovering31).chan rectSet.busChan).state ≠ .valid ∧ cycle.rect.holdFlag = false ∧
    (cycle.updRect fun r => { r with holdFlag := true }).rect.holdFlag = true := by decide +kernel

/-- A deblock wait for the next crossing, with DCM in a position. -/
def waitingCross (dcm : Position) : State :=
  ((rectifying .blocked).updDev .dcm fun r => { r with pos := dcm }).updRect fun r => { r with wait := .crossing }

theorem witness_RegulatorAndSchedule_wait : Settled (waitingCross .closed) ∧
    (waitingCross .closed).rect.settings = some rectSet ∧ firing (waitingCross .closed).rect.state = false ∧
    (waitingCross .closed).rect.state = .blocked ∧ (waitingCross .closed).rect.wait = .crossing ∧
    ((waitingCross .closed).dev .dcm).pos = .closed ∧ ((waitingCross .closed).chan rectSet.curChan).state = .valid ∧
    ((waitingCross .opened).dev .dcm).pos ≠ .closed ∧ ((waitingCross .opened).dev .dcm).cmd ≠ .toClose ∧
    (rectifying .blocked).rect.wait ≠ .crossing ∧ (rectifying .starting).rect.state = .starting := by
  unfold Settled
  decide +kernel

/-- A firing pending on G2 behind a later one on G3, with G2's last firing in its record. -/
def dueAt (st : RectState) (last : Option Int) (gate : Option Nat) : State :=
  (rectifying st).updRect fun r => { r with
    schedule := [⟨2, 40000000, false⟩, ⟨1, 32000000, true⟩], lineRec := r.lineRec.set 1 last, gates := r.gates.set 1 gate }

theorem witness_Firings : Settled (dueAt .running (some 1) none) ∧
    ((dueAt .running (some 1) none).rect.schedule = [⟨2, 40000000, false⟩] ++ ⟨1, 32000000, true⟩ :: [] ∧
      (∀ y ∈ [(⟨2, 40000000, false⟩ : Firing)], (32000000 : Int) < y.due)) ∧
    -- a quarter of 40960 is 10240 P256 units of 3125: one less is too close
    ((32000000 : Int) - 1 < ((40960 / 4 * 3125 : Nat) : Int) ∧ ¬ (32000000 : Int) - 0 < ((40960 / 4 * 3125 : Nat) : Int)) ∧
    (dueAt .running none (some 33600000)).rect.gates[(1 : Fin 12)] = some 33600000 ∧
    (dueAt .running none none).rect.gates[(1 : Fin 12)] = none ∧ (dueAt .running none none).rect.lineRec[(1 : Fin 12)] = none ∧
    (dueAt .stopping none none).rect.state = .stopping ∧ (dueAt .stopping none none).rect.stopStep ≠ 1 ∧
    ((dueAt .stopping none none).updRect fun r => { r with stopStep := 1 }).rect.stopStep = 1 :=
  ⟨rfl, by decide +kernel⟩

/-- A rectifier state with an arrival on its current channel. -/
def loaded (st : RectState) (count : Nat) (k : Copy) : State :=
  (rectifying st).updRect fun r => { r with overCount := count, curIn := [k], busIn := [{ k with chan := 2 }] }

theorem witness_RectifierCopies : Settled (loaded .running 3 (copy 3 (good 0) (good 8000))) ∧
    ((loaded .running 3 (copy 3 (good 0) (good 8000))).rect.curIn = [copy 3 (good 0) (good 8000)] ∧
      (loaded .running 3 (copy 3 (good 0) (good 8000))).rect.settings = some rectSet ∧
      (loaded .running 3 (copy 3 (good 0) (good 8000))).rect.stopStep ≠ 2 ∧ firing .running = true ∧
      usable (good 8000) = true ∧ (rectSet.iRMax : Int) ≤ signed (good 8000)) ∧
    (loaded .running 2 (copy 3 (good 0) (good 8000))).rect.overCount + 1 < 4 ∧
    ¬ (rectSet.iRMax : Int) ≤ signed (good 7999) ∧ firing (loaded .blocked 0 (copy 3 (good 0) (good 1))).rect.state = false ∧
    ((loaded .running 3 (copy 3 (good 0) (good 8000))).rect.busIn = [{ copy 3 (good 0) (good 8000) with chan := 2 }] ∧
      rectSet.busChan = 2) := ⟨rfl, by decide +kernel⟩

theorem witness_RectifierCopies_lost :
    let s := loaded .running 0 { copy 3 (good 0) (good 0) with after := .recovering }
    Settled s ∧ s.rect.curIn = [{ copy 3 (good 0) (good 0) with after := .recovering }] ∧ s.rect.settings = some rectSet ∧
    rectSet.curChan = 3 ∧ firing s.rect.state = true := by
  unfold Settled
  decide +kernel

/-- The rectifier in a state with DCM in a position. -/
def mains (st : RectState) (dcm acm : Position) (wait : DeblockWait) : State :=
  (((rectifying st).updDev .dcm fun r => { r with pos := dcm }).updDev .acm fun r => { r with pos := acm }).updRect
    fun r => { r with wait := wait }

theorem witness_CloseAcAndDeblock_closeAc : Manages 0xF0 (mains .off .opened .opened .none) ∧
    (mains .off .opened .opened .none).rect.settings = some rectSet ∧
    (mains .off .opened .opened .none).rect.state = .off ∧ closeRefused .acm (mains .off .opened .opened .none) = false ∧
    (mains .blocked .opened .opened .none).rect.state ≠ .off ∧ closeRefused .acm (mains .off .opened .faulty .none) = true := by
  unfold Manages Reaches
  decide +kernel

theorem witness_CloseAcAndDeblock_deblock : Manages 0xF0 (mains .blocked .closed .closed .none) ∧
    ((mains .blocked .closed .closed .none).rect.state = .blocked ∧ (mains .blocked .closed .closed .none).rect.stopStep = 0 ∧
      (mains .blocked .closed .closed .none).rect.tracker.state = .locked ∧
      ((mains .blocked .closed .closed .none).chan rectSet.curChan).state = .valid ∧
      (∀ f : Fin 8, ((mains .blocked .closed .closed .none).dev (.fm f)).flag ≠ .openFail) ∧
      ((mains .blocked .closed .closed .none).dev .dcm).flag ≠ .openFail ∧
      (mains .blocked .closed .closed .none).rect.wait = .none ∧
      ((mains .blocked .closed .closed .none).dev .dcm).pos = .closed ∧
      ((mains .blocked .closed .closed .none).dev .dcm).cmd = .none) ∧
    ((mains .blocked .opened .closed .none).dev .dcm).pos ≠ .closed ∧
    closeRefused .dcm (mains .blocked .opened .closed .none) = false ∧
    (mains .blocked .opened .closed .dcm).rect.wait ≠ .none ∧ (mains .running .closed .closed .none).rect.state ≠ .blocked := by
  unfold Manages Reaches
  decide +kernel

theorem witness_CloseAcAndDeblock_unset : Manages 0xF0 base ∧ base.rect.settings = none ∧ base.rect.state = .off ∧
    (let s := (mains .off .opened .opened .none).updRect fun r => { r with settings := none }
     Manages 0xF0 s ∧ s.rect.settings = none ∧ closeRefused .acm s = false) := by
  unfold Manages Reaches
  decide +kernel

theorem witness_CloseAcAndDeblock_notices : (mains .off .opened .opened .none).rect.state = .off ∧
    ((mains .blocked .closed .closed .crossing).rect.state = .blocked ∧
      (mains .blocked .closed .closed .crossing).rect.wait ≠ .none ∧
      ((mains .blocked .closed .closed .crossing).dev .dcm).cmd ≠ .toClose) ∧
    firing (mains .running .closed .closed .none).rect.state = true ∧
    (mains .tripped .closed .closed .none).rect.state = .tripped ∧
    (mains .blocked .faulty .closed .none).rect.wait = .none ∧ closeRefused .dcm (mains .blocked .faulty .closed .none) = true := by
  decide +kernel

theorem witness_StopAndReset_requests : (Manages 0xF0 (mains .running .closed .closed .none) ∧
      GatesSafe (mains .running .closed .closed .none) ∧ (mains .running .closed .closed .none).rect.state = .running ∧
      (mains .running .closed .closed .none).rect.stopStep = 0) ∧
    (GatesSafe (mains .stopping .closed .closed .none) ∧ (mains .stopping .closed .closed .none).rect.state = .stopping) ∧
    (GatesSafe (mains .blocked .closed .closed .none) ∧ (mains .blocked .closed .closed .none).rect.state = .blocked ∧
      (mains .blocked .closed .closed .none).rect.wait = .none) ∧
    ((mains .off .closed .closed .none).rect.state = .off) ∧
    (Manages 0xF0 (mains .tripped .opened .closed .none) ∧ (mains .tripped .opened .closed .none).rect.state = .tripped) := by
  unfold Manages Reaches GatesSafe
  decide +kernel

/-- Stop step 2 with its timer running. -/
def stopStep2 : State :=
  (mains .blocked .closed .closed .none).updRect fun r => { r with stopStep := 2, window := ⟨0, 0, 0, some 6400000000⟩ }

/-- Stop step 2 with an arrival that takes the current channel out of VALID. -/
def stopLost : State := stopStep2.updRect fun r => { r with curIn := [{ copy 3 (good 0) (good 0) with after := .stale }] }

theorem witness_StopAndReset_more : (mains .blocked .closed .closed .crossing).rect.wait ≠ .none ∧
    (mains .blocked .closed .closed .crossing).rect.stopStep = 0 ∧ GatesSafe (mains .blocked .closed .closed .crossing) ∧
    (Settled stopLost ∧ stopLost.rect.curIn = [{ copy 3 (good 0) (good 0) with after := .stale }] ∧
      stopLost.rect.settings = some rectSet ∧ rectSet.curChan = 3 ∧ stopLost.rect.stopStep = 2 ∧
      stopLost.rect.state = .blocked) := by
  unfold Settled GatesSafe
  decide +kernel

/-- Stop step 2 with a window and an arrival of 1 A after some missing instants. -/
def stopWindow (sum : Int) (usable count missing : Nat) : State :=
  stopStep2.updRect fun r => { r with
    curIn := [{ copy 3 (good 0) (good 1) with missing := missing }], window := ⟨sum, usable, count, some 6400000000⟩ }

/-- Windows that the arrival leaves one short of full, fills, and fills with its missing instants; I_lim / 50 is 80 A, and a window
may lie just below it, at it, or hold no usable value. -/
theorem witness_StopAndReset_window : (rectSet.iLim / 50 = 80 ∧ (12799 + 0 : Int).tdiv 160 < 80 ∧ ¬ (12799 + 1 : Int).tdiv 160 < 80) ∧
    (158 + 1 + 0 < 160 ∧ 159 + 1 + 0 = 160 ∧ 160 ≤ 159 + 1 ∧ 160 ≤ 1 + 159) ∧ usable (good 1) = true ∧
    (∀ w ∈ [(stopWindow 0 0 158 0), (stopWindow 12798 159 159 0), (stopWindow 12799 159 159 0), (stopWindow 79 1 1 159),
        (stopWindow 80 1 159 1), (stopWindow 0 0 159 159)],
      Settled w ∧ w.rect.settings = some rectSet ∧ rectSet.curChan = 3 ∧ w.rect.stopStep = 2 ∧ w.rect.state = .blocked ∧
      w.rect.window.count < 160 ∧ (w.rect.curIn.map fun k => (k.chan, k.after)) = [(3, .valid)] ∧
      (∀ k ∈ w.rect.curIn, k.missing < 160) ∧ (w.dev .dcm).addr ≠ none) ∧
    ((stopWindow 0 1 159 1).updDev .dcm fun r => { r with addr := none }).rect.stopStep = 2 := by
  unfold Settled
  decide +kernel

/-- R118: a window of 160 with an average below I_lim / 50 completes step 2; one at it does not. -/
theorem test_rectCurrent_window : (after .rectCurrentArrival (stopWindow 12798 159 159 0)).rect.stopStep = 3 ∧
    (after .rectCurrentArrival (stopWindow 12799 159 159 0)).rect.stopStep = 2 := by decide +kernel

theorem witness_StopAndReset_notice : stopStep2.rect.settings = some rectSet ∧
    (⟨3, .valid, .stale, .staleness⟩ : StateNotice).chan = rectSet.curChan ∧ stopStep2.rect.stopStep = 2 ∧
    stopStep2.rect.state = .blocked := by decide +kernel

theorem witness_StopAndReset_stepTimer : Settled stopStep2 ∧ stopStep2.rect.stopStep = 2 ∧
    stopStep2.rect.window.timerAt = some 6400000000 ∧ stopStep2.rect.state ≠ .off ∧ stopStep2.rect.state ≠ .tripped :=
  ⟨rfl, by decide +kernel⟩

/-! ## Witnesses: reports and capture -/

/-- The mask after an adoption that enables INFO and not SETTINGS. -/
def maskedReports : State := base.updReports fun q => { q with mask := some 0x01 }

theorem witness_SubmissionsTaken : classEnabled maskedReports.reports.mask (classOf .active) = false ∧
    classEnabled maskedReports.reports.mask (classOf .eventEnd) = true ∧ maskedReports.reports.queue.length < 64 ∧
    classEnabled pressed.reports.mask (classOf .feederTrip) = true ∧ 64 ≤ pressed.reports.queue.length ∧
    pressed.reports.queue = List.replicate 2 (entry .feederDegraded) ++ entry .eventEnd :: List.replicate 61 (entry .eventEnd) ∧
    (∀ z ∈ List.replicate 2 (entry .feederDegraded), (classRank (classOf z.code)).val < (classRank (classOf (.eventEnd))).val) ∧
    (∀ z ∈ pressed.reports.queue, (classRank (classOf z.code)).val ≤ (classRank (classOf .eventEnd)).val) := by decide +kernel

theorem witness_ReportsRead : Reaches 0x05 pressed ∧ 4 < (5 : Byte).toNat ∧ 1 ≤ (1 : Byte).toNat ∧ (4 : Byte).toNat ≤ 4 := by
  unfold Reaches
  decide +kernel

/-- Slots FILLING at its last instant but one and ARMED, with an arrival handed over. -/
def recording : State := fillingState.updCapture fun c => { c with inbox := [copy 0 (good 5) (good 6)] }

theorem witness_CaptureFilling : Settled recording ∧ recording.capture.inbox = [copy 0 (good 5) (good 6)] ∧
    recording.capture.settings = some ⟨[0, 1], false⟩ ∧ (copy 0 (good 5) (good 6)).chan ∈ [(0 : Fin 24), 1] ∧
    recording.capture.slots[(0 : Fin 4)].state = .filling ∧ recording.capture.slots[(0 : Fin 4)].fillAt = some 960000000 ∧
    recording.capture.slots[(1 : Fin 4)].state = .armed ∧ recording.capture.slots[(2 : Fin 4)].state = .free ∧
    (recording.capture.slots[(0 : Fin 4)].positions.map fun p => p.post) = [959, 959] := ⟨rfl, by decide +kernel⟩

/-- The last position of the FILLING slot is one instant short. -/
def lastInstant : State :=
  let s := capturing false #v[slotAt .filling 960, slotAt .armed 0, Slot.initial, Slot.initial] [0]
  s.updCapture fun c => { c with
    inbox := [copy 0 (good 5) (good 6)]
    slots := c.slots.set 0 { slotAt .filling 960 with
      positions := [⟨0, 320, 959, List.replicate 1279 (good 5)⟩, ⟨1, 320, 960, List.replicate 1280 (good 5)⟩] } }

theorem witness_CaptureFilling_last : Settled lastInstant ∧ lastInstant.capture.settings = some ⟨[0, 1], false⟩ ∧
    lastInstant.capture.slots[(0 : Fin 4)].state = .filling ∧
    (∀ j : Fin 4, lastInstant.capture.slots[j].state = .filling → j = 0) ∧
    (∀ i : Fin 4, (lastInstant.updCapture fun c => { c with slots := Vector.replicate 4 Slot.initial }).capture.slots[i].state ≠
      .filling) := by
  unfold Settled
  decide +kernel

/-- R174: the last position fills: HELD, the fill timer stopped, CAPTURE_DONE reported (class CAPTURE). -/
theorem test_captureArrival_last : (after .captureArrival lastInstant).capture.slots[(0 : Fin 4)].state = .held ∧
    (after .captureArrival lastInstant).capture.slots[(0 : Fin 4)].fillAt = none ∧
    (after .captureArrival lastInstant).reports.occurred[classRank (classOf .captureDone)] = 1 := by decide +kernel

/-- Four HELD slots, none ARMED. -/
def allHeld (overwrite : Bool) : State :=
  capturing overwrite #v[slotAt .held 960, slotAt .reading 960, slotAt .held 960, slotAt .held 960] [1, 2, 0, 3]

/-- Slot 0 HELD, slot 1 ARMED. -/
def armedNext : State := capturing false #v[slotAt .held 960, slotAt .armed 0, Slot.initial, Slot.initial] [0]

theorem witness_TriggersTaken_merged : SlotsConsistent fillingState ∧
    fillingState.capture.slots[(0 : Fin 4)].state = .filling := by
  unfold SlotsConsistent
  decide +kernel

theorem witness_TriggersTaken_started : SlotsConsistent armedNext ∧ armedNext.capture.slots[(1 : Fin 4)].state = .armed ∧
    ∀ j : Fin 4, armedNext.capture.slots[j].state ≠ .filling := by
  unfold SlotsConsistent
  decide +kernel

theorem witness_TriggersTaken_overwrite : SlotsConsistent (allHeld true) ∧
    (∀ j : Fin 4, (allHeld true).capture.slots[j].state ≠ .filling ∧ (allHeld true).capture.slots[j].state ≠ .armed) ∧
    (allHeld true).capture.settings = some ⟨[0, 1], true⟩ ∧
    (allHeld true).capture.order.find? (fun j => (allHeld true).capture.slots[j].state = .held) = some 2 := by
  unfold SlotsConsistent
  decide +kernel

theorem witness_TriggersTaken_missed : SlotsConsistent (allHeld false) ∧
    (allHeld false).capture.settings = some ⟨[0, 1], false⟩ ∧ SlotsConsistent base ∧
    (∀ j : Fin 4, base.capture.slots[j].state ≠ .held) := by
  refine ⟨?_, by decide +kernel, ?_, by decide⟩ <;> unfold SlotsConsistent <;> decide +kernel

theorem witness_CaptureRequests : Reaches 0x05 fillingState ∧ Manages 0xF0 (allHeld true) ∧ SlotsConsistent (allHeld true) ∧
    (4 ≤ (4 : Byte).toNat ∧ 24 < (25 : Byte).toNat ∧ 1 ≤ (1 : Byte).toNat ∧ (24 : Byte).toNat ≤ 24) ∧
    (fillingState.capture.slots[(0 : Fin 4)].state = .filling ∧ fillingState.capture.slots[(1 : Fin 4)].state = .armed ∧
      fillingState.capture.slots[(2 : Fin 4)].state = .free) ∧
    ((allHeld true).capture.slots[(0 : Fin 4)].state = .held ∧ (allHeld true).capture.slots[(1 : Fin 4)].state = .reading ∧
      (allHeld true).capture.slots[(0 : Fin 4)].positions.length = 2 ∧
      (((allHeld true).capture.slots[(0 : Fin 4)].positions[1]?).map fun p => p.pre + p.post) = some 1280) := by
  unfold Manages Reaches SlotsConsistent
  decide +kernel

end Sys2Proof.Tests
end

section
-- One proof after another: compiled together with the tests before it, the text would otherwise hold a thread for each
-- proof that waits.
set_option Elab.async false

/-! SUPPORT. What a step leaves alone. Three relations between the state before and after an operation: it is *steady*
(no settings are adopted and no channel record changes), it keeps the *setup* (no settings are adopted), or it keeps the
*records* of the Channel Store but for the consumer lists. Each operation of the model is met once here. -/

namespace Sys2Proof.Machine

/-- What holds adopted settings (R40, R44, R80, R108, R135, R179). A device holds its address. -/
inductive Holder where
  | evaluator (f : Fin 8)
  | sequencer (f : Fin 8)
  | device (d : Device)
  | rectifier
  | line
  | capture
  deriving DecidableEq

/-- What the settings in force come from is the same in both states, but for what the holders `x` have adopted: each
holder's adopted settings, the stream table, the class mask, the bank store and the commands waiting. -/
structure SetupKept (x : Set Holder) (s t : State) : Prop where
  settings : ∀ f, .evaluator f ∉ x → (t.ev f).settings = (s.ev f).settings
  plan : ∀ f, .sequencer f ∉ x → (t.seq f).plan = (s.seq f).plan
  addr : ∀ d, .device d ∉ x → (t.dev d).addr = (s.dev d).addr
  rect : .rectifier ∉ x → t.rect.settings = s.rect.settings
  table : .line ∉ x → t.line.table = s.line.table
  capture : .capture ∉ x → t.capture.settings = s.capture.settings
  mask : t.reports.mask = s.reports.mask
  matcher : t.matcher = s.matcher
  banks : t.banks = s.banks
  pending : t.pending = s.pending

/-- The setup is kept, and the Channel Store is as it was. -/
structure Steady (x : Set Holder) (s t : State) : Prop extends SetupKept x s t where
  chans : t.chans = s.chans

/-- The channel records are as they were but for their consumer lists, and so are the commands waiting. -/
structure RecordsKept (s t : State) : Prop where
  chan : ∀ c, t.chan c = { s.chan c with consumers := (t.chan c).consumers }
  pending : t.pending = s.pending

/-- What an operation that ends in, or holds, a look at the safe points keeps (R149): the channel records, and with no
switch-over pending all that a steady one does. -/
structure SteadyUnlessPending (s t : State) : Prop where
  records : RecordsKept s t
  settled : s.banks.target = none → Steady ∅ s t

variable {x y : Set Holder} {s t u : State}

/-! ## Order -/

protected theorem SetupKept.refl (x : Set Holder) (s : State) : SetupKept x s s :=
  ⟨fun _ _ => rfl, fun _ _ => rfl, fun _ _ => rfl, fun _ => rfl, fun _ => rfl, fun _ => rfl, rfl, rfl, rfl, rfl⟩

protected theorem SetupKept.trans (h : SetupKept x s t) (k : SetupKept x t u) : SetupKept x s u where
  settings f hf := (k.settings f hf).trans (h.settings f hf)
  plan f hf := (k.plan f hf).trans (h.plan f hf)
  addr d hd := (k.addr d hd).trans (h.addr d hd)
  rect hx := (k.rect hx).trans (h.rect hx)
  table hx := (k.table hx).trans (h.table hx)
  capture hx := (k.capture hx).trans (h.capture hx)
  mask := k.mask.trans h.mask
  matcher := k.matcher.trans h.matcher
  banks := k.banks.trans h.banks
  pending := k.pending.trans h.pending

/-- What keeps the setup but for some holders keeps it but for more of them. -/
protected theorem SetupKept.mono (h : SetupKept x s t) (hxy : x ⊆ y) : SetupKept y s t where
  settings f hf := h.settings f fun hx => hf (hxy hx)
  plan f hf := h.plan f fun hx => hf (hxy hx)
  addr d hd := h.addr d fun hx => hd (hxy hx)
  rect hr := h.rect fun hx => hr (hxy hx)
  table hl := h.table fun hx => hl (hxy hx)
  capture hc := h.capture fun hx => hc (hxy hx)
  mask := h.mask
  matcher := h.matcher
  banks := h.banks
  pending := h.pending

protected theorem Steady.refl (x : Set Holder) (s : State) : Steady x s s := ⟨.refl x s, rfl⟩

protected theorem Steady.trans (h : Steady x s t) (k : Steady x t u) : Steady x s u :=
  ⟨h.toSetupKept.trans k.toSetupKept, k.chans.trans h.chans⟩

protected theorem Steady.mono (h : Steady x s t) (hxy : x ⊆ y) : Steady y s t := ⟨h.toSetupKept.mono hxy, h.chans⟩

protected theorem Steady.rfl : Steady x s s := .refl x s

protected theorem Steady.chan (h : Steady x s t) (c : Fin 24) : t.chan c = s.chan c := by rw [State.chan, h.chans, State.chan]

protected theorem Steady.target (h : Steady x s t) : t.banks.target = s.banks.target := by rw [h.banks]

protected theorem Steady.ite {p : Prop} [Decidable p] (ht : Steady x s t) (hu : Steady x s u) :
    Steady x s (if p then t else u) := by split <;> assumption

/-- What each turn of a forEach leaves alone, the whole of it does. -/
protected theorem Steady.forEach {α : Type} {l : List α} {k : α → State → State} (h : Steady x s t)
    (hk : ∀ a u, Steady x s u → Steady x s (k a u)) : Steady x s (forEach l k t) :=
  forEach_keeps (Steady x s) k l (fun a _ u => hk a u) t h

protected theorem RecordsKept.refl (s : State) : RecordsKept s s := ⟨fun _ => rfl, rfl⟩

protected theorem RecordsKept.trans (h : RecordsKept s t) (k : RecordsKept t u) : RecordsKept s u where
  chan c := by rw [k.chan c, h.chan c]
  pending := k.pending.trans h.pending

protected theorem Steady.records (h : Steady x s t) : RecordsKept s t := ⟨fun c => by rw [h.chan c], h.pending⟩

protected theorem Steady.unlessPending (h : Steady ∅ s t) : SteadyUnlessPending s t := ⟨h.records, fun _ => h⟩

protected theorem SteadyUnlessPending.refl (s : State) : SteadyUnlessPending s s := Steady.rfl.unlessPending

protected theorem SteadyUnlessPending.trans (h : SteadyUnlessPending s t) (k : SteadyUnlessPending t u) :
    SteadyUnlessPending s u where
  records := h.records.trans k.records
  settled hs := (h.settled hs).trans (k.settled ((h.settled hs).target.trans hs))

/-- A steady operation follows. -/
protected theorem SteadyUnlessPending.steady (h : SteadyUnlessPending s t) (k : Steady ∅ t u) : SteadyUnlessPending s u :=
  h.trans k.unlessPending

protected theorem SteadyUnlessPending.ite {p : Prop} [Decidable p] (ht : SteadyUnlessPending s t)
    (hu : SteadyUnlessPending s u) : SteadyUnlessPending s (if p then t else u) := by split <;> assumption

protected theorem SteadyUnlessPending.forEach {α : Type} {l : List α} {k : α → State → State}
    (h : SteadyUnlessPending s t) (hk : ∀ a u, SteadyUnlessPending u (k a u)) :
    SteadyUnlessPending s (forEach l k t) :=
  forEach_keeps (SteadyUnlessPending s) k l (fun a _ u hu => hu.trans (hk a u)) t h

/-! ## Updates of one block -/

protected theorem Steady.updEv {f : Fin 8} {g : Evaluator → Evaluator} (h : Steady x s t)
    (hg : ∀ e, (g e).settings = e.settings := by intro; rfl) : Steady x s (t.updEv f g) where
  toSetupKept := { h.toSetupKept with
    settings := fun i hi => by
      by_cases hif : i = f
      · subst hif
        rw [State.updEv_ev_same, hg]
        exact h.settings i hi
      · rw [State.updEv_ev_ne _ _ hif]
        exact h.settings i hi }
  chans := h.chans

protected theorem Steady.updSeq {f : Fin 8} {g : Sequencer → Sequencer} (h : Steady x s t)
    (hg : ∀ q, (g q).plan = q.plan := by intro; rfl) : Steady x s (t.updSeq f g) where
  toSetupKept := { h.toSetupKept with
    plan := fun i hi => by
      by_cases hif : i = f
      · subst hif
        rw [State.updSeq_seq_same, hg]
        exact h.plan i hi
      · rw [State.updSeq_seq_ne _ _ hif]
        exact h.plan i hi }
  chans := h.chans

protected theorem Steady.updDev {d : Device} {g : DevRecord → DevRecord} (h : Steady x s t)
    (hg : ∀ r, (g r).addr = r.addr := by intro; rfl) : Steady x s (t.updDev d g) where
  toSetupKept := { h.toSetupKept with
    addr := fun i hi => by
      by_cases hid : i = d
      · subst hid
        rw [State.updDev_dev_same, hg]
        exact h.addr i hi
      · rw [State.updDev_dev_ne _ _ hid]
        exact h.addr i hi }
  chans := h.chans

protected theorem Steady.updRing {g : RingPort → RingPort} (h : Steady x s t) : Steady x s (t.updRing g) :=
  { h with }

protected theorem Steady.updRect {g : Rectifier → Rectifier} (h : Steady x s t)
    (hg : (g t.rect).settings = t.rect.settings := by rfl) : Steady x s (t.updRect g) :=
  { h with rect := fun hx => hg.trans (h.rect hx) }

protected theorem Steady.updLine {g : LineCtl → LineCtl} (h : Steady x s t)
    (hg : (g t.line).table = t.line.table := by rfl) : Steady x s (t.updLine g) :=
  { h with table := fun hx => hg.trans (h.table hx) }

protected theorem Steady.updReports {g : ReportQueue → ReportQueue} (h : Steady x s t)
    (hg : (g t.reports).mask = t.reports.mask) : Steady x s (t.updReports g) :=
  { h with mask := hg.trans h.mask }

protected theorem Steady.updCapture {g : CaptureUnit → CaptureUnit} (h : Steady x s t)
    (hg : (g t.capture).settings = t.capture.settings := by rfl) : Steady x s (t.updCapture g) :=
  { h with capture := fun hx => hg.trans (h.capture hx) }

protected theorem Steady.advanceTo {d : Nat} (h : Steady x s t) : Steady x s (advanceTo d t) := by
  rw [advanceTo_eq]
  exact { h with }

/-! ## Reports and the Ring Port -/

protected theorem Steady.submit {code : ReportCode} {src : Source} {cause : Option Nat} {value : Option Int}
    {slot : Option (Fin 4)} (h : Steady x s t) : Steady x s (submit code src cause value slot t) :=
  h.updReports (submit_mask code src cause value slot t)

protected theorem Steady.report {code : ReportCode} {src : Source} {cause : Option Nat} {value : Option Int}
    (h : Steady x s t) : Steady x s (report code src cause value t) := h.submit

protected theorem Steady.breakerReport {code : ReportCode} {d : Device} {value : Nat} (h : Steady x s t) :
    Steady x s (breakerReport code d value t) := h.report

protected theorem Steady.placeClaim {d : Device} {fr : Frame} (h : Steady x s t) : Steady x s (placeClaim d fr t) :=
  h.updRing

protected theorem Steady.clearClaim {d : Device} (h : Steady x s t) : Steady x s (clearClaim d t) := h.updRing

protected theorem Steady.placeAnswer {dst tag : Byte} {a : Answer} (h : Steady x s t) :
    Steady x s (placeAnswer dst tag a t) := h.updRing

protected theorem Steady.goodFrame (h : Steady x s t) : Steady x s (goodFrame t) :=
  .ite h.updRing.report h.updRing

/-! ## The Capture Unit -/

@[simp] theorem armIfPossible_settings (c : CaptureUnit) : (armIfPossible c).settings = c.settings := by
  rw [armIfPossible_eq]

protected theorem Steady.trigger {cause : Cause} {src : Source} (h : Steady x s t) :
    Steady x s (trigger cause src t).2 := by
  have hset : (trigger cause src t).2.capture.settings = t.capture.settings := by
    rcases trigger_cases cause src t with ⟨i, _, e⟩ | ⟨i, _, _, e⟩ | ⟨i, _, _, _, e⟩ | ⟨_, _, _, e⟩ <;> rw [e]
    · simp only [mergeTrigger, State.updCapture_capture]
      split <;> rfl
    · simp [startFilling]
    · simp [startFilling, overwriteSlot, freeSlot]
    · rfl
  have hmask : (trigger cause src t).2.reports.mask = t.reports.mask := by
    rcases trigger_cases cause src t with ⟨i, _, e⟩ | ⟨i, _, _, e⟩ | ⟨i, _, _, _, e⟩ | ⟨_, _, _, e⟩ <;> rw [e]
    · rfl
    · rfl
    · rfl
    · exact submit_mask ..
  rw [trigger_eq]
  exact { h with capture := fun hx => hset.trans (h.capture hx), mask := hmask.trans h.mask }

protected theorem Steady.triggerOnly {cause : Cause} {src : Source} (h : Steady x s t) :
    Steady x s (triggerOnly cause src t) := h.trigger

protected theorem Steady.endFilling {i : Fin 4} {truncated : Bool} (h : Steady x s t) :
    Steady x s (endFilling i truncated t) := h.updCapture.submit

protected theorem Steady.completeSlot {i : Fin 4} (h : Steady x s t) : Steady x s (completeSlot i t) :=
  .ite h.endFilling h

protected theorem Steady.takeCaptureCopy {k : Copy} (h : Steady x s t) : Steady x s (takeCaptureCopy k t) :=
  .ite (h.updCapture.forEach fun _ _ hu => hu.completeSlot) h

protected theorem Steady.fillExpired {i : Fin 4} (h : Steady x s t) : Steady x s (fillExpired i t) :=
  .ite h.endFilling h

/-! ## The Intertrip Controller -/

protected theorem Steady.enqueue {f : Fin 8} {k : Kind} (h : Steady x s t) : Steady x s (enqueue f k t) := by
  rw [enqueue_eq]
  exact { h with }

protected theorem Steady.updWires {g : LineCtl → LineCtl} (h : Steady x s t)
    (hg : (g t.line).table = t.line.table := by rfl) : Steady x s (updWires g t) := h.updLine hg

protected theorem Steady.goWaiting (h : Steady x s t) : Steady x s (goWaiting t) := h.updWires

protected theorem Steady.startReceive (h : Steady x s t) : Steady x s (startReceive t) := h.updWires

protected theorem Steady.becomeFree (h : Steady x s t) : Steady x s (becomeFree t) := .ite h.updLine.report h.updLine

protected theorem Steady.endMessage {b : Bool} (h : Steady x s t) : Steady x s (endMessage b t) :=
  .ite h.startReceive h.goWaiting

protected theorem Steady.abandonMessage {b : Bool} (h : Steady x s t) : Steady x s (abandonMessage b t) :=
  .ite (Steady.endMessage (.ite h h.updLine)) h

@[simp] theorem LineCtl.risen_table (d : Nat) (l : LineCtl) : (l.risen d).table = l.table := by
  unfold LineCtl.risen
  split <;> rfl

protected theorem Steady.bothHigh (h : Steady x s t) : Steady x s (bothHigh t) := by
  refine .ite h (.ite h.abandonMessage (h.updWires ?_))
  dsimp only
  split <;> simp

protected theorem Steady.lowExpired {b : Held} (h : Steady x s t) : Steady x s (lowExpired b t) := by
  unfold lowExpired whenExpired
  split <;> split
  · exact h
  · exact h.advanceTo.updLine
  · exact h
  · exact h.advanceTo.updLine.report

protected theorem Steady.busFreeExpired (h : Steady x s t) : Steady x s (busFreeExpired t) := by
  unfold busFreeExpired
  split
  · exact h
  · exact .ite h.advanceTo.becomeFree h

protected theorem Steady.startSending (h : Steady x s t) : Steady x s (startSending t) := by
  unfold startSending
  split
  · exact h.updWires
  · exact h

protected theorem Steady.loseArbitration {clock : Fin 14} (h : Steady x s t) : Steady x s (loseArbitration clock t) :=
  .ite h.updWires h

protected theorem Steady.settleHead {ack : Bool} (h : Steady x s t) : Steady x s (settleHead ack t) := by
  unfold settleHead
  split
  · exact h
  · exact .ite h.updLine (.ite h.updLine (.ite h.updLine h.updLine.report))

protected theorem Steady.endAttempt {ack : Bool} (h : Steady x s t) : Steady x s (endAttempt ack t) :=
  .ite h.updLine.settleHead.goWaiting h

protected theorem Steady.restartLine (h : Steady x s t) : Steady x s (restartLine t) := by
  unfold restartLine dropMessage
  dsimp only
  split
  · exact h.updWires.updLine
  · exact h.updWires.updLine
  · exact h.updLine

/-! ## The Switchgear Supervisor -/

protected theorem Steady.lockout {f : Fin 8} {cause : LockoutCause} (h : Steady x s t) : Steady x s (lockout f cause t) :=
  h.updSeq.report.enqueue

protected theorem Steady.tellTrip {f : Fin 8} {cause : Cause} (h : Steady x s t) : Steady x s (tellTrip f cause t) := by
  unfold tellTrip
  dsimp only
  split
  · exact h.updSeq
  · exact h.updSeq
  · exact h.updSeq
  · exact h.updSeq
  · exact .ite h h.updSeq
  · exact h

protected theorem Steady.sendCommand {d : Device} (h : Steady x s t) : Steady x s (sendCommand d t) := by
  unfold sendCommand
  split
  · exact h
  · exact h.updDev.placeClaim

protected theorem Steady.takeCommand {d : Device} {c : Command} {by_ : Option Requester} (h : Steady x s t) :
    Steady x s (takeCommand d c by_ t) := h.updDev.sendCommand

protected theorem Steady.endCommand {d : Device} (h : Steady x s t) : Steady x s (endCommand d t) := h.updDev.clearClaim

protected theorem Steady.reportWithdrawn {d : Device} (h : Steady x s t) : Steady x s (reportWithdrawn d t) :=
  h.breakerReport

protected theorem Steady.guardMain {f : Fin 8} (h : Steady x s t) : Steady x s (guardMain f t) :=
  .ite h.reportWithdrawn.takeCommand.lockout h

protected theorem Steady.guardCommand {d : Device} (h : Steady x s t) : Steady x s (guardCommand d t) := by
  unfold guardCommand
  split
  · exact h.guardMain
  · exact h

protected theorem Steady.requestOpen {d : Device} {by_ : Requester} (h : Steady x s t) :
    Steady x s (requestOpen d by_ t).2 := by
  rcases requestOpen_cases d by_ t with ⟨_, e⟩ | ⟨_, _, e⟩ | ⟨_, _, e⟩ | ⟨_, _, e⟩ <;> rw [e]
  · exact h
  · exact h
  · exact h.takeCommand.guardCommand
  · exact h.reportWithdrawn.takeCommand.guardCommand

protected theorem Steady.askOpen {d : Device} {by_ : Requester} (h : Steady x s t) : Steady x s (askOpen d by_ t) :=
  h.requestOpen

protected theorem Steady.requestClose {d : Device} {by_ : Requester} (h : Steady x s t) :
    Steady x s (requestClose d by_ t).2 := by
  rcases requestClose_cases d by_ t with ⟨_, e⟩ | ⟨_, _, e⟩ | ⟨_, _, e⟩ <;> rw [e]
  · exact h
  · exact h
  · exact h.takeCommand

protected theorem Steady.guardPosition {d : Device} {changed : State} (h : Steady x s t) :
    Steady x s (guardPosition d changed t) := by
  unfold guardPosition
  split
  · exact .ite h.askOpen.lockout h
  · exact h.guardMain
  · exact h

protected theorem Steady.repeatExpired {d : Device} (h : Steady x s t) : Steady x s (repeatExpired d t) :=
  .ite h h.sendCommand

protected theorem Steady.clearFlagAtRest {d : Device} (h : Steady x s t) : Steady x s (clearFlagAtRest d t) :=
  .ite h.updDev h

/-- The counters of POSITION frames are nobody's setup. -/
protected theorem Steady.positionCounters {m n : Nat} (h : Steady x s t) :
    Steady x s { t with unmatchedPos := m, malformedPos := n } := { h with }

protected theorem Steady.restartSwitchgear (h : Steady x s t) : Steady x s (restartSwitchgear t) :=
  (h.forEach (l := deviceList) fun _ _ hu => hu.endCommand.updDev).positionCounters

/-! ## The Feeder Evaluators -/

protected theorem Steady.reportDegraded {f : Fin 8} (h : Steady x s t) : Steady x s (reportDegraded f t) := h.report

protected theorem Steady.settle {f : Fin 8} (h : Steady x s t) : Steady x s (settle f t) :=
  .ite h.updEv.reportDegraded h.updEv

protected theorem Steady.tripDecision {f : Fin 8} {cause : Cause} {value : Int} (h : Steady x s t) :
    Steady x s (tripDecision f cause value t) := by
  unfold tripDecision
  dsimp only
  refine Steady.tellTrip ?_
  split
  · exact h.updEv.askOpen.trigger.submit
  · exact h.updEv.askOpen.trigger.submit.enqueue

protected theorem Steady.channelLoss {f : Fin 8} (h : Steady x s t) : Steady x s (channelLoss f t) := by
  unfold channelLoss
  split
  · exact h
  · split
    · exact h.updEv.reportDegraded
    · exact h.tripDecision

protected theorem Steady.viewChange {f : Fin 8} {new : ChanState} (h : Steady x s t) :
    Steady x s (viewChange f new t) := by
  unfold viewChange
  dsimp only
  split
  · exact .ite h.updEv.settle h.updEv
  · exact .ite h.updEv.settle h.updEv
  · exact h.updEv
  · exact .ite h.updEv.channelLoss h.updEv
  · exact .ite h.updEv.channelLoss h.updEv

protected theorem Steady.evaluatorNotice {f : Fin 8} {new : Position} (h : Steady x s t) :
    Steady x s (evaluatorNotice f new t) := by
  unfold evaluatorNotice
  dsimp only
  split
  · exact .ite h.updEv.settle h.updEv
  · exact .ite h.updEv.updEv h.updEv
  · exact .ite h.updEv.updEv h.updEv
  · exact .ite h.updEv.updEv.settle h.updEv
  · exact h.updEv

protected theorem Steady.intertripTrip {f : Fin 8} {code : Byte} (h : Steady x s t) :
    Steady x s (intertripTrip f code t) := by
  unfold intertripTrip
  dsimp only
  split
  · exact .ite h h.tripDecision
  · exact .ite h h.tripDecision
  · exact .ite h h.tripDecision
  · exact h
  · exact h

/-- The end tests leave the settings. -/
theorem endTests_settings (ft : FeederSettings) (slope : Int) (e : Evaluator) :
    (endTests ft slope e).2.settings = e.settings := by
  unfold endTests
  generalize (if (ft.dStop : Int) ≤ slope then 0 else e.hold + 1) = n
  dsimp only
  split
  · rfl
  · split <;> rfl

/-- Replacing an evaluator's record by one with the same settings. -/
protected theorem Steady.putEv {f : Fin 8} {e : Evaluator} (h : Steady x s t) (he : e.settings = (t.ev f).settings) :
    Steady x s (t.updEv f fun _ => e) where
  toSetupKept := { h.toSetupKept with
    settings := fun i hi => by
      by_cases hif : i = f
      · subst hif
        rw [State.updEv_ev_same, he]
        exact h.settings i hi
      · rw [State.updEv_ev_ne _ _ hif]
        exact h.settings i hi }
  chans := h.chans

protected theorem Steady.testEnd {f : Fin 8} {ft : FeederSettings} {slope : Int} (h : Steady x s t) :
    Steady x s (testEnd f ft slope t) := by
  have hp : Steady x s (t.updEv f fun _ => (endTests ft slope (t.ev f)).2) := h.putEv (endTests_settings ft slope _)
  unfold testEnd
  dsimp only
  split
  · exact hp
  · exact hp.report

protected theorem Steady.missingStep {f : Fin 8} {ft : FeederSettings} (h : Steady x s t) :
    Steady x s (missingStep f ft t) := by
  unfold missingStep
  dsimp only
  split
  · exact h.updEv.updEv.testEnd
  · exact h.updEv

protected theorem Steady.startTest {f : Fin 8} {ft : FeederSettings} {own old : Instant} (h : Steady x s t) :
    Steady x s (startTest f ft own old t) :=
  .ite (.ite h.updEv.triggerOnly h.updEv) h

protected theorem Steady.ownStep {f : Fin 8} {ft : FeederSettings} {own old : Instant} (h : Steady x s t) :
    Steady x s (ownStep f ft own old t) := by
  refine .ite h.tripDecision ?_
  dsimp only
  split
  · exact .ite h.tripDecision h.updEv.startTest
  · exact .ite h.tripDecision (.ite h.tripDecision (Steady.testEnd (h.putEv rfl)))
  · exact h

/-! ## The Reclose Sequencers -/

protected theorem Steady.enterSeq {f : Fin 8} {st : SeqState} (h : Steady x s t) : Steady x s (enterSeq f st t) := h.updSeq

protected theorem Steady.startSeqTimer {f : Fin 8} {ms : Nat} (h : Steady x s t) : Steady x s (startSeqTimer f ms t) :=
  h.updSeq

protected theorem Steady.clearSums {f : Fin 8} (h : Steady x s t) : Steady x s (clearSums f t) := h.updSeq

protected theorem Steady.enterIdle {f : Fin 8} {st : SeqState} (h : Steady x s t) : Steady x s (enterIdle f st t) :=
  h.enterSeq.updSeq

protected theorem Steady.waitDead {f : Fin 8} {k : Nat} (h : Steady x s t) : Steady x s (waitDead f k t) :=
  .ite h.enterSeq h.enterSeq.startSeqTimer

protected theorem Steady.waitBus {f : Fin 8} {w : WaitingStep} (h : Steady x s t) : Steady x s (waitBus f w t) :=
  h.enterSeq.updSeq

protected theorem Steady.closingEntry {f : Fin 8} (h : Steady x s t) : Steady x s (closingEntry f t) :=
  .ite h.lockout <| .ite h.enterSeq <| .ite h.waitBus <| .ite h.requestClose.enterSeq.updSeq h.requestClose.lockout

protected theorem Steady.testResult {f : Fin 8} {o : TestOutcome} {r uB uL : Option Nat} {value : Option Int}
    (h : Steady x s t) : Steady x s (testResult f o r uB uL value t) := h.updSeq.report

protected theorem Steady.testingEntry {f : Fin 8} (h : Steady x s t) : Steady x s (testingEntry f t) :=
  .ite h.lockout <| .ite h.testResult.closingEntry <| .ite h.requestClose.enterSeq h.requestClose.lockout

protected theorem Steady.testStart {f : Fin 8} (h : Steady x s t) : Steady x s (testStart f t) :=
  .ite h.enterSeq <| .ite h.waitBus h.testingEntry

protected theorem Steady.testOutcome {f : Fin 8} {o : TestOutcome} {r uB uL : Option Nat} {value : Option Int}
    (h : Steady x s t) : Steady x s (testOutcome f o r uB uL value t) := h.testResult.askOpen.enterSeq.updSeq

protected theorem Steady.measurementLost {f : Fin 8} (h : Steady x s t) : Steady x s (measurementLost f t) := h.testOutcome

protected theorem Steady.workOut {f : Fin 8} (h : Steady x s t) : Steady x s (workOut f t) :=
  .ite h.testOutcome <| .ite h.testOutcome h.testOutcome

protected theorem Steady.settleExpired {f : Fin 8} (h : Steady x s t) : Steady x s (settleExpired f t) :=
  .ite h.enterSeq.clearSums h.measurementLost

/-- A reading leaves the plan. -/
theorem addReading_plan (b l : Bool) (i : Instant) (q : Sequencer) : (addReading b l i q).plan = q.plan := by
  unfold addReading
  dsimp only
  split <;> split <;> rfl

protected theorem Steady.takeSequencerCopy {f : Fin 8} {k : Copy} (h : Steady x s t) :
    Steady x s (takeSequencerCopy f k t) := by
  have ha (b l : Bool) : Steady x s (t.updSeq f (addReading b l k.own)) := h.updSeq (addReading_plan b l k.own)
  unfold takeSequencerCopy
  dsimp only
  split
  · refine .ite ?_ h
    split
    · exact h.closingEntry
    · exact h.testingEntry
  · exact .ite (.ite h.measurementLost (.ite (ha _ _).workOut (ha _ _))) h
  · exact h

protected theorem Steady.sequencerStateNotice {f : Fin 8} {n : StateNotice} (h : Steady x s t) :
    Steady x s (sequencerStateNotice f n t) := .ite h.measurementLost h

protected theorem Steady.busChannelChanged {f : Fin 8} (h : Steady x s t) : Steady x s (busChannelChanged f t) :=
  .ite (.ite h.clearSums h.measurementLost) h

protected theorem Steady.interruptTest {f : Fin 8} (h : Steady x s t) : Steady x s (interruptTest f t) :=
  h.clearSums.askOpen.enterSeq.updSeq

protected theorem Steady.testCleared {f : Fin 8} (h : Steady x s t) : Steady x s (testCleared f t) := by
  unfold testCleared
  dsimp only
  split
  · exact h
  · exact h.closingEntry
  · exact h.closingEntry
  · exact .ite h.updSeq.waitDead h.updSeq.lockout
  · exact .ite h.enterSeq h.waitBus
  · exact h.lockout
  · exact .ite h.enterSeq h.testStart

protected theorem Steady.withdrawClose {f : Fin 8} (h : Steady x s t) : Steady x s (withdrawClose f t) := h.askOpen.updSeq

protected theorem Steady.holdNotice {f : Fin 8} (h : Steady x s t) : Steady x s (holdNotice f t) := by
  unfold holdNotice
  dsimp only
  split
  · exact h.updSeq.enterSeq
  · exact h.updSeq.enterSeq
  · exact h.updSeq.interruptTest
  · exact h.updSeq.interruptTest
  · exact .ite h.updSeq.withdrawClose h.updSeq
  · exact h.updSeq

protected theorem Steady.releaseHold {f : Fin 8} (h : Steady x s t) : Steady x s (releaseHold f t) :=
  .ite h.updSeq.testStart h.updSeq

protected theorem Steady.sequenceStart {f : Fin 8} (h : Steady x s t) : Steady x s (sequenceStart f t) :=
  .ite h.updSeq.enterIdle <| .ite h.updSeq.report.lockout <|
    .ite h.updSeq.report.lockout h.updSeq.report.waitDead

protected theorem Steady.retrip {f : Fin 8} (h : Steady x s t) : Steady x s (retrip f t) :=
  .ite h.updSeq.lockout <| .ite h.updSeq.waitDead h.updSeq.lockout

protected theorem Steady.mainNotice {f : Fin 8} {old new : Position} {mark : Bool} (h : Steady x s t) :
    Steady x s (mainNotice f old new mark t) := by
  have hidle : Steady x s (if new = .closed then reportAbandoned f 1 (enterIdle f .idleClosed t) else t) :=
    .ite h.enterIdle.report h
  unfold mainNotice
  dsimp only
  split
  · exact .ite h.enterIdle.updSeq (.ite h.sequenceStart h)
  · exact .ite (.ite h.sequenceStart h.enterIdle) h
  · exact hidle
  · exact hidle
  · exact hidle
  · exact .ite h.retrip h
  · exact .ite h.retrip h
  · exact .ite h.updSeq h
  all_goals exact h

protected theorem Steady.testNotice {f : Fin 8} {old new : Position} (h : Steady x s t) :
    Steady x s (testNotice f old new t) := .ite h.askOpen.lockout h

protected theorem Steady.sequencerCompletion {f : Fin 8} {isMain : Bool} {c : Command} (h : Steady x s t) :
    Steady x s (sequencerCompletion f isMain c t) := by
  unfold sequencerCompletion
  dsimp only
  split
  · exact h.startSeqTimer
  · exact h.testCleared
  · exact h.enterSeq.startSeqTimer
  · exact .ite (.ite h.enterSeq h.testStart) h
  · exact h

protected theorem Steady.reclaimExpired {f : Fin 8} (h : Steady x s t) : Steady x s (reclaimExpired f t) :=
  h.enterIdle.report.enqueue

/-- R104: the abandoned sequence, whichever record has been asked to open. -/
protected theorem Steady.abandoned {f : Fin 8} (h : Steady x s t) : Steady x s
    (if seqIdle (t.seq f).state then (enterIdle f .idleOpen (clearSums f t)).updSeq f fun q => { q with noted := none }
      else reportAbandoned f 2 ((enterIdle f .idleOpen (clearSums f t)).updSeq f fun q => { q with noted := none })) :=
  .ite h.clearSums.enterIdle.updSeq h.clearSums.enterIdle.updSeq.report

protected theorem Steady.operatorOpen {f : Fin 8} (h : Steady x s t) : Steady x s (operatorOpen f t).2 := by
  unfold operatorOpen
  dsimp only
  split
  · exact h
  · split
    · split
      · exact h.requestOpen.askOpen
      · exact h.requestOpen.askOpen.abandoned
    · split
      · exact h.requestOpen
      · exact h.requestOpen.abandoned

protected theorem Steady.operatorClose {f : Fin 8} (h : Steady x s t) : Steady x s (operatorClose f t) :=
  h.updSeq.report.testStart

protected theorem Steady.resetLockout {f : Fin 8} (h : Steady x s t) : Steady x s (resetLockout f t) :=
  h.clearFlagAtRest.clearFlagAtRest.enterIdle.updSeq.report.enqueue

protected theorem Steady.restartSequencer {f : Fin 8} (h : Steady x s t) : Steady x s (restartSequencer f t) :=
  h.clearSums.enterSeq.updSeq

protected theorem Steady.restartIdle {f : Fin 8} (h : Steady x s t) : Steady x s (restartIdle f t) := h.enterIdle

/-! ## The Rectifier Group Controller -/

@[simp] theorem rectGo_settings (st : RectState) (s : State) : (rectGo st s).rect.settings = s.rect.settings := by
  simp only [rectGo, State.updRect_rect]
  split <;> rfl

protected theorem Steady.rectGo {st : RectState} (h : Steady x s t) : Steady x s (rectGo st t) :=
  h.updRect (rectGo_settings st t)

protected theorem Steady.setStopStep {n : Nat} (h : Steady x s t) : Steady x s (setStopStep n t) := h.updRect

protected theorem Steady.rectTrip {cause : Cause} {value : Int} (h : Steady x s t) :
    Steady x s (rectTrip cause value t) := by
  unfold rectTrip
  split
  · exact h
  · exact h
  · dsimp only
    split
    · exact h.rectGo.setStopStep.updRect.askOpen.trigger.submit
    · exact h.rectGo.setStopStep.updRect.trigger.submit

protected theorem Steady.cancelWait {cause : Nat} (h : Steady x s t) : Steady x s (cancelWait cause t) :=
  .ite h <| .ite h.updRect.report.askOpen h.updRect.report

protected theorem Steady.stopFailed (h : Steady x s t) : Steady x s (stopFailed t) := .ite h.setStopStep h.rectTrip

protected theorem Steady.beginStep2 (h : Steady x s t) : Steady x s (beginStep2 t) := h.setStopStep.updRect

protected theorem Steady.beginBreakerStep {n : Nat} {d : Device} (h : Steady x s t) :
    Steady x s (beginBreakerStep n d t) := .ite h.setStopStep.requestOpen h.setStopStep.requestOpen.stopFailed

protected theorem Steady.becomeBlocked (h : Steady x s t) : Steady x s (becomeBlocked t) := .ite h.rectGo.beginStep2 h.rectGo

protected theorem Steady.stopArrival {rt : RectSettings} {k : Copy} (h : Steady x s t) :
    Steady x s (stopArrival rt k t) := .ite (.ite h.beginBreakerStep h.updRect) h

protected theorem Steady.currentLost {c : Fin 24} {left : Bool} (h : Steady x s t) :
    Steady x s (currentLost c left t) := .ite h.rectTrip <| .ite h.stopFailed h

protected theorem Steady.overcurrent {rt : RectSettings} {k : Copy} (h : Steady x s t) :
    Steady x s (overcurrent rt k t) := .ite (.ite h.rectTrip h.updRect) h

protected theorem Steady.addCurrent {i : Instant} (h : Steady x s t) : Steady x s (addCurrent i t) := .ite h.updRect h

protected theorem Steady.addBus {i : Instant} (h : Steady x s t) : Steady x s (addBus i t) := .ite h.updRect h

protected theorem Steady.takeCurrentCopy {k : Copy} (h : Steady x s t) : Steady x s (takeCurrentCopy k t) := by
  unfold takeCurrentCopy
  split
  · exact h
  · refine .ite (Steady.stopArrival (Steady.addCurrent (Steady.overcurrent ?_))) h
    exact .ite h h.currentLost

protected theorem Steady.takeBusCopy {k : Copy} (h : Steady x s t) : Steady x s (takeBusCopy k t) := .ite h.addBus h

protected theorem Steady.leftLocked (h : Steady x s t) : Steady x s (leftLocked t) := .ite h.rectTrip h.cancelWait

protected theorem Steady.trackerTo {st : TrackState} {cause value : Nat} (h : Steady x s t) :
    Steady x s (trackerTo st cause value t) := .ite h.updRect.report.leftLocked h.updRect

protected theorem Steady.trackerChannelLost (h : Steady x s t) : Steady x s (trackerChannelLost t) := h.trackerTo

protected theorem Steady.rectStateNotice {n : StateNotice} (h : Steady x s t) : Steady x s (rectStateNotice n t) := by
  unfold rectStateNotice
  split
  · exact h
  · next r _ =>
    have htracked : Steady x s (if r.uabChan = n.chan then trackerChannelLost t else t) := .ite h.trackerChannelLost h
    exact .ite (.ite htracked.currentLost htracked) h

protected theorem Steady.acNotice {new : Position} {mark : Bool} (h : Steady x s t) : Steady x s (acNotice new mark t) := by
  have hended (b : State) (hb : Steady x s b) : Steady x s (if b.rect.stopStep = 4 then b else setStopStep 0 b) :=
    .ite hb hb.setStopStep
  unfold acNotice
  dsimp only
  split
  · exact .ite h.rectGo (.ite h.report h)
  · have he := hended (cancelWait 4 (rectGo .off t)) h.rectGo.cancelWait
    exact .ite h (.ite he.report he)
  · exact .ite h.rectTrip h
  · exact .ite h.rectTrip h
  · exact .ite h.rectTrip h
  · exact h

protected theorem Steady.dcNotice {old new : Position} (h : Steady x s t) : Steady x s (dcNotice old new t) :=
  .ite h <| .ite h.becomeBlocked.report <| .ite h.cancelWait h

protected theorem Steady.rectCompletion {d : Device} {c : Command} (h : Steady x s t) :
    Steady x s (rectCompletion d c t) := by
  unfold rectCompletion
  split
  · exact .ite h.updRect h
  · exact .ite h.beginBreakerStep h
  · exact .ite h.setStopStep.report h
  · exact h

protected theorem Steady.dcCloseFailed (h : Steady x s t) : Steady x s (dcCloseFailed t) := .ite h.rectTrip h

protected theorem Steady.rectOpenFailed {d : Device} (h : Steady x s t) : Steady x s (rectOpenFailed d t) := by
  unfold rectOpenFailed
  split
  · exact .ite h h.stopFailed
  · exact .ite h.stopFailed h
  · exact h

protected theorem Steady.closeAc (h : Steady x s t) : Steady x s (closeAc t).2 := by
  unfold closeAc
  split
  · exact h.requestClose
  · exact h

protected theorem Steady.deblock (h : Steady x s t) : Steady x s (deblock t).2 := by
  unfold deblock
  split
  · exact h
  · split
    · exact h
    · dsimp only
      split
      · dsimp only
        exact h.updRect
      · split
        · dsimp only
          exact h.requestClose.updRect
        · exact h

protected theorem Steady.block (h : Steady x s t) : Steady x s (block t).2 := by
  unfold block
  split
  · exact h.rectGo
  · exact h.rectGo
  · exact h
  · exact h

protected theorem Steady.stopFull (h : Steady x s t) : Steady x s (stopFull t).2 := by
  unfold stopFull
  split
  · exact h
  · split
    · exact h.rectGo.setStopStep
    · exact h.rectGo.setStopStep
    · exact h.rectGo.setStopStep
    · exact h.cancelWait.beginStep2
    · exact h

protected theorem Steady.resetRect (h : Steady x s t) : Steady x s (resetRect t).2 := by
  unfold resetRect
  split
  · exact h.clearFlagAtRest.clearFlagAtRest.rectGo
  · exact h

protected theorem Steady.restartRect (h : Steady x s t) : Steady x s (restartRect t) := h.setStopStep.updRect

/-! ## The regulator and the firing scheduler -/

protected theorem Steady.setLimitFlag {b : Bool} (h : Steady x s t) : Steady x s (setLimitFlag b t) :=
  .ite h h.updRect.report

protected theorem Steady.testRunning {rt : RectSettings} {uTgt : Int} (h : Steady x s t) :
    Steady x s (testRunning rt uTgt t) := .ite h.rectGo.report h

protected theorem Steady.resumeRegulator (h : Steady x s t) : Steady x s (resumeRegulator t) := .ite h.updRect.report h

protected theorem Steady.regulatorStep {rt : RectSettings} (h : Steady x s t) : Steady x s (regulatorStep rt t) :=
  .ite (.ite h.updRect h.updRect.report) h.resumeRegulator.setLimitFlag.updRect.testRunning

protected theorem Steady.placeFirings {rt : RectSettings} {at_ : Int} (h : Steady x s t) :
    Steady x s (placeFirings rt at_ t) := h.updRect

protected theorem Steady.dropFirings (h : Steady x s t) : Steady x s (dropFirings t) := h.updRect

protected theorem Steady.clearCycle (h : Steady x s t) : Steady x s (clearCycle t) := h.updRect

protected theorem Steady.beginStarting {rt : RectSettings} {at_ : Int} (h : Steady x s t) :
    Steady x s (beginStarting rt at_ t) := h.updRect.rectGo.placeFirings.report

protected theorem Steady.endWait {rt : RectSettings} {at_ : Int} (h : Steady x s t) : Steady x s (endWait rt at_ t) :=
  .ite h.cancelWait <| .ite h.cancelWait h.beginStarting

protected theorem Steady.emitFiring {f : Firing} (h : Steady x s t) : Steady x s (emitFiring f t) := by
  refine h.updRect ?_
  dsimp only
  split <;> rfl

protected theorem Steady.firingFallsDue (h : Steady x s t) : Steady x s (firingFallsDue t) := by
  unfold firingFallsDue
  split
  · exact h
  · exact .ite h.advanceTo.becomeBlocked.report h.advanceTo.emitFiring

protected theorem Steady.gatePulseEnds {g : Fin 12} (h : Steady x s t) : Steady x s (gatePulseEnds g t) := h.updRect

/-! ## Positions -/

protected theorem Steady.positionReport {d : Device} {r : DevRecord} {new : Position} (h : Steady x s t) :
    Steady x s (positionReport d r new t) :=
  .ite h.breakerReport <| .ite h <| .ite h.breakerReport h

protected theorem Steady.giveNotice {d : Device} {old new : Position} {mark : Bool} (h : Steady x s t) :
    Steady x s (giveNotice d old new mark t) := by
  unfold giveNotice
  split
  · exact h.evaluatorNotice.mainNotice
  · exact h.testNotice
  · exact h.dcNotice
  · exact h.acNotice

protected theorem Steady.escalateMain {f : Fin 8} (h : Steady x s t) : Steady x s (escalateMain f t) :=
  h.askOpen.rectTrip.enqueue.trigger.submit.lockout

protected theorem Steady.escalate {d : Device} (h : Steady x s t) : Steady x s (escalate d t) := by
  unfold escalate
  split
  · exact h.escalateMain
  · exact h.breakerReport.lockout
  · exact h.askOpen.breakerReport.rectOpenFailed
  · exact h.breakerReport.rectOpenFailed

protected theorem Steady.openFailed {d : Device} (h : Steady x s t) : Steady x s (openFailed d t) := h.updDev.escalate

protected theorem Steady.tellCloseFailed {d : Device} (h : Steady x s t) : Steady x s (tellCloseFailed d t) := by
  unfold tellCloseFailed
  split
  · exact h.lockout
  · exact h.lockout
  · exact h.dcCloseFailed
  · exact h

protected theorem Steady.closeFailed {d : Device} (h : Steady x s t) : Steady x s (closeFailed d t) :=
  h.updDev.takeCommand.breakerReport.tellCloseFailed.guardCommand

protected theorem Steady.tellCompleted {d : Device} {c : Command} (h : Steady x s t) :
    Steady x s (tellCompleted d c t) := by
  unfold tellCompleted
  split
  · exact h.sequencerCompletion
  · exact h.sequencerCompletion
  · exact h.rectCompletion

protected theorem Steady.completeCommand {d : Device} (h : Steady x s t) : Steady x s (completeCommand d t) := by
  refine Steady.tellCompleted ?_
  exact .ite h.endCommand.updDev.breakerReport h.endCommand.updDev

protected theorem Steady.openTimerExpired {d : Device} (h : Steady x s t) : Steady x s (openTimerExpired d t) :=
  .ite h.openFailed h

protected theorem Steady.closeTimerExpired {d : Device} (h : Steady x s t) : Steady x s (closeTimerExpired d t) :=
  .ite h.closeFailed h

protected theorem Steady.commandChecks {d : Device} (h : Steady x s t) : Steady x s (commandChecks d t) := by
  unfold commandChecks
  dsimp only
  split
  · exact h.completeCommand
  · exact h.completeCommand
  · exact .ite h h.openFailed
  · exact h.closeFailed
  · exact h

/-! ## The phase tracker -/

protected theorem Steady.noteCrossing {time : BitVec 40} {n : BitVec 32} (h : Steady x s t) :
    Steady x s (noteCrossing time n t) := h.updRect

protected theorem Steady.rejectPeriod (h : Steady x s t) : Steady x s (rejectPeriod t) := h.updRect

protected theorem Steady.timeoutCheck (h : Steady x s t) : Steady x s (timeoutCheck t) := by
  unfold timeoutCheck
  dsimp only
  split
  · exact .ite h.trackerTo h
  · exact h

/-! ## Messages on the intertrip line -/

protected theorem Steady.applyMessage {code : Byte} {k : Kind} {f : Fin 8} (h : Steady x s t) :
    Steady x s (applyMessage code k f t) := by
  unfold applyMessage
  split
  · exact h.intertripTrip.holdNotice
  · exact h.holdNotice
  · exact h.releaseHold

protected theorem Steady.judgeBits {bits : List Bool} (h : Steady x s t) : Steady x s (judgeBits bits t) := by
  unfold judgeBits
  split
  · exact h.updLine
  · exact h.updLine
  · exact h.updLine

protected theorem Steady.applyAccepted (h : Steady x s t) : Steady x s (applyAccepted t) := by
  unfold applyAccepted
  split
  · exact h
  · exact (h.updLine.forEach fun _ _ hu => hu.applyMessage).report

protected theorem Steady.dataFalls (h : Steady x s t) : Steady x s (dataFalls t) := by
  unfold dataFalls
  dsimp only
  split
  · exact .ite h.updWires h.startReceive
  · exact .ite h.updWires h.startReceive
  · exact .ite h.updWires h.abandonMessage
  · exact h.updWires
  · exact h.updWires

protected theorem Steady.judgeRecord (h : Steady x s t) : Steady x s (judgeRecord t) := .ite h.judgeBits h

protected theorem Steady.lostArbitration {clock : Fin 14} (h : Steady x s t) : Steady x s (lostArbitration clock t) :=
  .ite h.loseArbitration.judgeRecord h

protected theorem Steady.receiveSample {bit : Bool} (h : Steady x s t) : Steady x s (receiveSample bit t) :=
  .ite h.updWires <| .ite h.updWires.judgeRecord h

protected theorem Steady.senderSample {bit : Bool} (h : Steady x s t) : Steady x s (senderSample bit t) := by
  refine .ite h ?_
  split
  · exact h.lostArbitration
  · refine h.updWires ?_
    dsimp only
    split <;> simp

protected theorem Steady.sampleLine {bit : Bool} (h : Steady x s t) : Steady x s (sampleLine bit t) := by
  unfold sampleLine
  split
  · exact h.receiveSample
  · exact h.senderSample
  all_goals exact h

protected theorem Steady.receiveWhole {bits : BitVec 14} {b : Bool} (h : Steady x s t) :
    Steady x s (receiveWhole bits b t) := by
  refine .ite (Steady.endMessage (Steady.applyAccepted ?_)) h
  exact .ite h h.judgeBits

protected theorem Steady.receiveMessage {r : Reception} {b : Bool} (h : Steady x s t) :
    Steady x s (receiveMessage r b t) := by
  unfold receiveMessage
  split
  · exact h.sampleLine
  · exact h.receiveWhole

/-! ## The Ring Port's timers -/

protected theorem Steady.updRingCounters {g : RingCounters → RingCounters} (h : Steady x s t) :
    Steady x s (updRingCounters g t) := h.updRing

protected theorem Steady.ringDown (h : Steady x s t) : Steady x s (ringDown t) := .ite h.updRing.updRing.report h.updRing

end Sys2Proof.Machine

/-! SUPPORT. Adoption (section 7.4): what each holder's adoption leaves alone, and what a look at the safe points does. -/

namespace Sys2Proof.Machine
variable {x : Set Holder} {s t u : State}

/-! ## A holder adopts -/

protected theorem Steady.adoptEv {f : Fin 8} {g : Evaluator → Evaluator} (h : Steady x s t)
    (hx : Holder.evaluator f ∈ x) : Steady x s (t.updEv f g) where
  toSetupKept := { h.toSetupKept with
    settings := fun i hi => by
      rw [State.updEv_ev_ne t g fun e : i = f => hi (e ▸ hx)]
      exact h.settings i hi }
  chans := h.chans

protected theorem Steady.adoptSeq {f : Fin 8} {g : Sequencer → Sequencer} (h : Steady x s t)
    (hx : Holder.sequencer f ∈ x) : Steady x s (t.updSeq f g) where
  toSetupKept := { h.toSetupKept with
    plan := fun i hi => by
      rw [State.updSeq_seq_ne t g fun e : i = f => hi (e ▸ hx)]
      exact h.plan i hi }
  chans := h.chans

protected theorem Steady.adoptDev {d : Device} {g : DevRecord → DevRecord} (h : Steady x s t)
    (hx : Holder.device d ∈ x) : Steady x s (t.updDev d g) where
  toSetupKept := { h.toSetupKept with
    addr := fun i hi => by
      rw [State.updDev_dev_ne t g fun e : i = d => hi (e ▸ hx)]
      exact h.addr i hi }
  chans := h.chans

protected theorem Steady.readdress {d : Device} {a : Byte × Byte} (h : Steady x s t) (hd : Holder.device d ∈ x) :
    Steady x s (readdress d a t) :=
  .ite h <| .ite (h.adoptDev hd) <| .ite (h.adoptDev hd).sendCommand (h.adoptDev hd).updDev

protected theorem Steady.takeAddress {d : Device} {a : Byte × Byte} (h : Steady x s t) (hd : Holder.device d ∈ x) :
    Steady x s (takeAddress d a t) :=
  .ite (h.readdress hd) (h.readdress hd).giveNotice.guardPosition

protected theorem Steady.evaluatorAdopt {f : Fin 8} {ft : FeederSettings} {b : Bool} (h : Steady x s t)
    (hf : Holder.evaluator f ∈ x) : Steady x s (evaluatorAdopt f ft b t) :=
  .ite (.ite (h.adoptEv hf).settle.updEv (h.adoptEv hf).settle) (h.adoptEv hf)

protected theorem Steady.sequencerAdopt {f : Fin 8} {p : Plan} (h : Steady x s t) (hf : Holder.sequencer f ∈ x) :
    Steady x s (sequencerAdopt f p t) := h.adoptSeq hf

/-- The holders that feeder f's adoption is of (R40). -/
def feederHolders (f : Fin 8) : Set Holder := {.evaluator f, .sequencer f, .device (.fm f), .device (.ft f)}

protected theorem Steady.adoptFeeder {f : Fin 8} {b : Bool} {bank : List Byte} (h : Steady x s t)
    (hx : feederHolders f ⊆ x) : Steady x s (adoptFeeder b bank f t) :=
  (((h.evaluatorAdopt (hx (by simp [feederHolders]))).sequencerAdopt (hx (by simp [feederHolders]))).takeAddress
    (hx (by simp [feederHolders]))).takeAddress (hx (by simp [feederHolders]))

/-- The holders that the rectifier's adoption is of (R135). -/
def rectHolders : Set Holder := {.rectifier, .device .dcm, .device .acm}

protected theorem Steady.clampAlpha {rt : RectSettings} (h : Steady x s t) (hx : Holder.rectifier ∈ x) :
    Steady x s (clampAlpha rt t) :=
  { h with rect := fun hr => absurd hx hr }

protected theorem Steady.currentChanged {rt : RectSettings} (h : Steady x s t) : Steady x s (currentChanged rt t) :=
  .ite h.updRect.rectTrip h.updRect

/-- R95, R135: the rectifier's channels move after its settings are in force. -/
def rectChannelsMove (old : Option RectSettings) (rt : RectSettings) (s : State) : State :=
  let bus := if old.map (fun o => o.busChan) = some rt.busChan then s else forEach feeders busChannelChanged s
  let uab := if old.map (fun o => o.uabChan) = some rt.uabChan then bus
    else trackerTo .unlocked 4 bus.rect.tracker.p256 bus
  if old.map (fun o => o.curChan) = some rt.curChan then uab else currentChanged rt uab

/-- R135: the rectifier's adoption, step by step. -/
theorem adoptRect_eq (bank : List Byte) (s : State) : adoptRect bank s =
    (rectChannelsMove s.rect.settings (rectOf bank) (clampAlpha (rectOf bank) s)
      |> takeAddress .dcm ((rectOf bank).dcmUnit, (rectOf bank).dcmElem)
      |> takeAddress .acm ((rectOf bank).acmUnit, (rectOf bank).acmElem)) := rfl

protected theorem Steady.rectChannelsMove {old : Option RectSettings} {rt : RectSettings} (h : Steady x s t) :
    Steady x s (rectChannelsMove old rt t) := by
  have hbus : Steady x s (if old.map (fun o => o.busChan) = some rt.busChan then t
      else forEach feeders busChannelChanged t) := .ite h (h.forEach fun _ _ hu => hu.busChannelChanged)
  unfold rectChannelsMove
  dsimp only
  split
  · exact .ite hbus hbus.trackerTo
  · exact Steady.currentChanged (.ite hbus hbus.trackerTo)

protected theorem Steady.adoptRect {bank : List Byte} (h : Steady x s t) (hx : rectHolders ⊆ x) :
    Steady x s (adoptRect bank t) := by
  rw [adoptRect_eq]
  exact ((h.clampAlpha (hx (by simp [rectHolders]))).rectChannelsMove.takeAddress
    (hx (by simp [rectHolders]))).takeAddress (hx (by simp [rectHolders]))

protected theorem Steady.adoptLine {bank : List Byte} (h : Steady x s t) (hx : Holder.line ∈ x) :
    Steady x s (adoptLine bank t) := by
  have ha : Steady x s (t.updLine fun l => { l with table := some (lineTableOf bank) }) :=
    { h with table := fun hl => absurd hx hl }
  unfold adoptLine adoptLineTable
  dsimp only
  split
  · exact ha
  · exact .ite ha.becomeFree ha

protected theorem Steady.adoptCapture {bank : List Byte} (h : Steady x s t) (hx : Holder.capture ∈ x) :
    Steady x s (adoptCapture bank t) :=
  { h with capture := fun hc => absurd hx hc }

/-! ## The look at the safe points -/

theorem setBankState_eq (bk : BankId) (st : BankState) (s : State) :
    setBankState bk st s = { s with banks := (setBankState bk st s).banks } := rfl

/-- R150: the completion of a switch-over touches the bank store and the reports. -/
theorem completeSwitch_eq (bk : BankId) (s : State) : completeSwitch bk s =
    { s with banks := (completeSwitch bk s).banks, reports := (completeSwitch bk s).reports } := by
  unfold completeSwitch
  split
  · exact report_eq ..
  · rw [report_eq]
    rfl

/-- R149: so does the clearing of a mark. -/
theorem clearMark_eq (k : Fin 13) (s : State) :
    clearMark k s = { s with banks := (clearMark k s).banks, reports := (clearMark k s).reports } := by
  unfold clearMark
  dsimp only
  split
  · rfl
  · split
    · rfl
    · rw [completeSwitch_eq]
      rfl

protected theorem RecordsKept.clearMark {k : Fin 13} (h : RecordsKept s t) : RecordsKept s (clearMark k t) := by
  rw [clearMark_eq]
  exact ⟨h.chan, h.pending⟩

protected theorem RecordsKept.adoptIf {k : Fin 13} {safe : State → Bool} {adopt : List Byte → State → State}
    (h : RecordsKept s t) (ha : ∀ bank u, Steady x u (adopt bank u)) : RecordsKept s (adoptIf k safe adopt t) := by
  rcases adoptIf_cases k safe adopt t with e | ⟨_, _, _, _, e⟩ <;> rw [e]
  · exact h
  · exact (h.trans (ha _ _).records).clearMark

protected theorem RecordsKept.forEach {α : Type} {l : List α} {k : α → State → State} (h : RecordsKept s t)
    (hk : ∀ a u, RecordsKept u (k a u)) : RecordsKept s (forEach l k t) :=
  forEach_keeps (RecordsKept s) k l (fun a _ u hu => hu.trans (hk a u)) t h

theorem sweepOnce_records (s : State) : RecordsKept s (sweepOnce s) :=
  ((((RecordsKept.refl s).forEach fun f u =>
    (RecordsKept.refl u).adoptIf (x := feederHolders f) fun _ _ => Steady.rfl.adoptFeeder subset_rfl).adoptIf
      (x := rectHolders) fun _ _ => Steady.rfl.adoptRect subset_rfl).adoptIf
        (x := {.line}) fun _ _ => Steady.rfl.adoptLine rfl).adoptIf
          (x := {.capture}) fun _ _ => Steady.rfl.adoptCapture rfl

theorem sweeps_records (n : Nat) (s : State) : RecordsKept s (sweeps n s) :=
  sweeps_keeps (RecordsKept s) (fun u hu => hu.trans (sweepOnce_records u)) n s (.refl s)

@[simp] theorem rebuildConsumers_chan (s : State) (c : Fin 24) : (rebuildConsumers s).chan c =
    { s.chan c with consumers := allConsumers.filter (namesChannel s c) } := by
  simp [rebuildConsumers, State.chan]

theorem rebuildConsumers_records (s : State) : RecordsKept s (rebuildConsumers s) :=
  ⟨fun c => by simp only [rebuildConsumers_chan], by unfold rebuildConsumers; rfl⟩

/-- R149: a look at the safe points keeps the channel records, and does nothing when no switch-over is pending. -/
theorem finish_kept (s : State) : SteadyUnlessPending s (finish s) where
  records := by
    unfold finish
    split
    · exact (sweeps_records 13 s).trans (rebuildConsumers_records _)
    · exact .refl s
  settled hs := by
    rw [finish_of_settled hs]
    exact .rfl

protected theorem SteadyUnlessPending.finish (h : SteadyUnlessPending s t) : SteadyUnlessPending s (finish t) :=
  h.trans (finish_kept t)

/-- R128: so does the rectifier's look at a crossing. -/
theorem adoptRectAtCrossing_kept (s : State) : SteadyUnlessPending s (adoptRectAtCrossing s) where
  records := by
    unfold adoptRectAtCrossing
    split
    · exact ((RecordsKept.refl s).adoptIf (x := rectHolders) fun _ _ => Steady.rfl.adoptRect subset_rfl).trans
        (rebuildConsumers_records _)
    · exact .refl s
  settled hs := by
    rw [adoptRectAtCrossing_of_settled hs]
    exact .rfl

/-! ## Operations that hold a look at the safe points -/

protected theorem Steady.finish (h : Steady ∅ s t) : SteadyUnlessPending s (finish t) := h.unlessPending.finish

theorem missingSteps_kept (f : Fin 8) (c : Fin 24) (n : Nat) (s : State) :
    SteadyUnlessPending s (missingSteps f c n s) := by
  induction n generalizing s with
  | zero => exact .refl s
  | succ n ih =>
    unfold missingSteps
    split
    · exact .refl s
    · exact Steady.rfl.missingStep.finish.trans (ih _)

theorem takeEvaluatorCopy_kept (f : Fin 8) (k : Copy) (s : State) :
    SteadyUnlessPending s (takeEvaluatorCopy f k s) := by
  have hview : SteadyUnlessPending s (viewChange f k.after s) := Steady.rfl.viewChange.unlessPending
  have hwork := hview.trans (missingSteps_kept f k.chan k.missing _)
  have harrive : SteadyUnlessPending s (if k.after = .valid then
      match evaluates f k.chan (missingSteps f k.chan k.missing (viewChange f k.after s)) with
      | none => missingSteps f k.chan k.missing (viewChange f k.after s)
      | some t => ownStep f t k.own (k.hist.getD 3 missingInstant)
          (missingSteps f k.chan k.missing (viewChange f k.after s))
      else viewChange f k.after s) := by
    refine .ite ?_ hview
    split
    · exact hwork
    · exact hwork.steady Steady.rfl.ownStep
  unfold takeEvaluatorCopy
  refine .ite ?_ (.refl s)
  split
  · exact harrive
  · exact harrive
  · exact hview

theorem evaluatorTakes_kept (f : Fin 8) (s : State) : SteadyUnlessPending s (evaluatorTakes f s) := by
  unfold evaluatorTakes
  split
  · exact .refl s
  · exact (Steady.rfl.updEv.unlessPending.trans (takeEvaluatorCopy_kept f _ _)).finish

theorem sequencerTakes_kept (f : Fin 8) (s : State) : SteadyUnlessPending s (sequencerTakes f s) := by
  unfold sequencerTakes
  split
  · exact .refl s
  · exact Steady.rfl.updSeq.takeSequencerCopy.finish

theorem lockedCrossing_kept (back : Nat) (s : State) : SteadyUnlessPending s (lockedCrossing back s) := by
  have ha : SteadyUnlessPending s (adoptRectAtCrossing (dropFirings s)) :=
    Steady.rfl.dropFirings.unlessPending.trans (adoptRectAtCrossing_kept _)
  unfold lockedCrossing
  dsimp only
  split
  · exact ha.steady Steady.rfl.clearCycle
  · split
    · exact ha.steady Steady.rfl.regulatorStep.placeFirings.clearCycle
    · exact ha.steady Steady.rfl.regulatorStep.placeFirings.clearCycle
    · exact ha.steady Steady.rfl.placeFirings.clearCycle
    · exact .ite (ha.steady Steady.rfl.endWait.clearCycle) (ha.steady Steady.rfl.clearCycle)
    · exact ha.steady Steady.rfl.clearCycle

theorem takeCrossing_kept (time : BitVec 40) (back : Nat) (n : BitVec 32) (s : State) :
    SteadyUnlessPending s (takeCrossing time back n s) := by
  unfold takeCrossing
  dsimp only
  split
  · exact Steady.rfl.noteCrossing.updRect.clearCycle.unlessPending
  · refine .ite (Steady.unlessPending (Steady.clearCycle ?_))
      Steady.rfl.noteCrossing.rejectPeriod.updRect.clearCycle.unlessPending
    exact .ite Steady.rfl.noteCrossing.updRect.report Steady.rfl.noteCrossing.updRect
  · exact .ite (Steady.rfl.noteCrossing.updRect.unlessPending.trans (lockedCrossing_kept back _))
      Steady.rfl.noteCrossing.rejectPeriod.trackerTo.clearCycle.unlessPending

theorem takeTrackerCopy_kept (k : Copy) (s : State) : SteadyUnlessPending s (takeTrackerCopy k s) := by
  unfold takeTrackerCopy
  dsimp only
  refine .ite (.ite (SteadyUnlessPending.steady ?_ Steady.rfl.timeoutCheck)
    (.ite Steady.rfl.updRect.unlessPending Steady.rfl.updRect.trackerChannelLost.unlessPending)) (.refl s)
  split
  · exact Steady.rfl.updRect.unlessPending
  · exact Steady.rfl.updRect.unlessPending.trans (takeCrossing_kept _ _ _ _)

theorem trackerTakes_kept (s : State) : SteadyUnlessPending s (trackerTakes s) := by
  unfold trackerTakes
  split
  · exact .refl s
  · exact (Steady.rfl.updRect.unlessPending.trans (takeTrackerCopy_kept _ _)).finish

theorem currentTakes_kept (s : State) : SteadyUnlessPending s (currentTakes s) := by
  unfold currentTakes
  split
  · exact .refl s
  · exact Steady.rfl.updRect.takeCurrentCopy.finish

theorem busTakes_kept (s : State) : SteadyUnlessPending s (busTakes s) := by
  unfold busTakes
  split
  · exact .refl s
  · exact Steady.rfl.updRect.takeBusCopy.unlessPending

theorem captureTakes_kept (s : State) : SteadyUnlessPending s (captureTakes s) := by
  unfold captureTakes
  split
  · exact .refl s
  · exact Steady.rfl.updCapture.takeCaptureCopy.finish

/-- What one turn keeps, any number of turns keeps. -/
protected theorem SteadyUnlessPending.times {k : State → State} (hk : ∀ u, SteadyUnlessPending u (k u)) (n : Nat)
    (s : State) : SteadyUnlessPending s (times n k s) := by
  induction n generalizing s with
  | zero => exact .refl s
  | succ n ih => exact (hk s).trans (ih (k s))

theorem drainConsumer_kept (k : Consumer) (s : State) : SteadyUnlessPending s (drainConsumer k s) := by
  unfold drainConsumer
  split
  · exact .times (evaluatorTakes_kept _) _ s
  · exact .times (sequencerTakes_kept _) _ s
  · exact .times captureTakes_kept _ s
  · exact ((SteadyUnlessPending.times trackerTakes_kept _ s).trans (.times currentTakes_kept _ _)).trans
      (.times busTakes_kept _ _)

protected theorem Steady.noticeTo {n : StateNotice} {k : Consumer} (h : Steady x s t) : Steady x s (noticeTo n k t) := by
  unfold noticeTo
  split
  · exact h.viewChange
  · exact h.sequencerStateNotice
  · exact h.rectStateNotice
  · exact h

protected theorem Steady.stateNotice {n : StateNotice} (h : Steady x s t) : Steady x s (stateNotice n t) :=
  h.forEach fun _ _ hu => hu.noticeTo

theorem ownerNotice_kept (d : Device) (old new : Position) (mark : Bool) (s : State) :
    SteadyUnlessPending s (ownerNotice d old new mark s) := by
  unfold ownerNotice
  split
  · exact (Steady.rfl.evaluatorNotice.finish.steady Steady.rfl.mainNotice).finish
  · exact Steady.rfl.giveNotice.finish

theorem changePosition_kept (d : Device) (new : Position) (s : State) :
    SteadyUnlessPending s (changePosition d new s) :=
  ((Steady.rfl.updDev.positionReport.unlessPending.trans (ownerNotice_kept d _ new _ _)).steady
    Steady.rfl.guardPosition).finish

theorem positionAged_kept (d : Device) (s : State) : SteadyUnlessPending s (positionAged d s) :=
  .ite Steady.rfl.updDev.unlessPending
    ((Steady.rfl.updDev.breakerReport.unlessPending.trans (ownerNotice_kept d _ _ _ _)).steady Steady.rfl.guardPosition)

theorem matchPosition_kept (new : Position) (d : Device) (s : State) :
    SteadyUnlessPending s (matchPosition new d s) := by
  refine SteadyUnlessPending.steady ?_ Steady.rfl.commandChecks
  exact .ite Steady.rfl.updDev.unlessPending (Steady.rfl.updDev.unlessPending.trans (changePosition_kept d new _))

theorem takePosition_kept (fr : Frame) (s : State) : SteadyUnlessPending s (takePosition fr s) := by
  unfold takePosition
  dsimp only
  refine .ite Steady.rfl.positionCounters.unlessPending ?_
  split
  · exact Steady.rfl.positionCounters.unlessPending
  · split
    · exact Steady.rfl.positionCounters.unlessPending
    · exact (SteadyUnlessPending.refl s).forEach fun d u => matchPosition_kept _ d u

theorem receiverClock_kept (s : State) : SteadyUnlessPending s (receiverClock s) :=
  .ite Steady.rfl.updWires.applyAccepted.finish Steady.rfl.updWires.unlessPending

theorem clockFalls_kept (s : State) : SteadyUnlessPending s (clockFalls s) := by
  unfold clockFalls
  dsimp only
  split
  · exact Steady.rfl.updWires.unlessPending
  · exact receiverClock_kept s
  · exact Steady.rfl.updWires.unlessPending
  · exact Steady.rfl.updWires.unlessPending
  · exact Steady.rfl.updWires.unlessPending

theorem lineLow_kept (w : Wire) (s : State) : SteadyUnlessPending s (lineLow w s) := by
  unfold lineLow
  split
  · exact .ite (.refl s) (clockFalls_kept s)
  · exact .ite (.refl s) Steady.rfl.dataFalls.unlessPending

theorem phaseEnds_kept (s : State) : SteadyUnlessPending s (phaseEnds s) :=
  .ite Steady.rfl.updWires.unlessPending (lineLow_kept .ck s)

theorem idleCycle_kept (s : State) : SteadyUnlessPending s (idleCycle s) := by
  have htick : SteadyUnlessPending s (tick s) := Steady.rfl.advanceTo.unlessPending
  exact .ite (htick.trans (phaseEnds_kept _)) htick

end Sys2Proof.Machine

/-! SUPPORT. The Channel Store through every command (R7 to R11): each keeps the records, or files an instant, takes one to
STALE, or resets it; and each of these keeps a record consistent. -/

namespace Sys2Proof.Machine
variable {s t u : State}

/-! ## Records that stay consistent -/

/-- The consumer list and what waits for filing have no part in a record's consistency. -/
theorem ChannelConsistent.congr {j k : Channel} (h : ChannelConsistent k) (hist : j.hist = k.hist)
    (run : j.goodRun = k.goodRun) (state : j.state = k.state) (timer : j.staleAt = k.staleAt) : ChannelConsistent j := by
  unfold ChannelConsistent
  rw [hist, run, state, timer]
  exact h

protected theorem RecordsKept.consistent (h : RecordsKept s t) (hs : ChannelsConsistent s) : ChannelsConsistent t := by
  intro c
  rw [h.chan c]
  exact (hs c).congr rfl rfl rfl rfl

/-- A change of one record that leaves it consistent. -/
theorem ChannelsConsistent.updChan {c : Fin 24} {g : Channel → Channel} (hs : ChannelsConsistent s)
    (hg : ChannelConsistent (s.chan c) → ChannelConsistent (g (s.chan c))) : ChannelsConsistent (s.updChan c g) := by
  intro i
  by_cases hic : i = c
  · subst hic
    rw [State.updChan_chan_same]
    exact hg (hs i)
  · rw [State.updChan_chan_ne _ _ hic]
    exact hs i

/-- R20: a channel in its reset condition. -/
theorem channelConsistent_initial : ChannelConsistent Channel.initial := ⟨rfl, Nat.zero_le _, rfl, rfl⟩

/-! ## One instant (R7 to R11) -/

/-- R8, R9, R11: the state that a usable instant leaves. -/
def usableState (k : Channel) : ChanState :=
  if k.state = .valid ∨ (k.state = .recovering ∧ 31 ≤ k.goodRun) then .valid else .recovering

/-- R7, R8: the good run that a usable instant leaves. -/
def usableRun (k : Channel) : Nat :=
  if k.state = .absent ∨ k.state = .stale then 1 else min (k.goodRun + 1) 32

/-- R7, R8, R9, R11: a usable instant is filed. -/
theorem fileInstant_usable (d : Nat) (k : Channel) {i : Instant} (hi : usable i = true) : fileInstant d k i =
    { k with hist := k.hist.drop 1 ++ [i], last := i, samples := bump k.samples, staleAt := some d,
             goodRun := usableRun k, state := usableState k } := by
  have hrec : recordInstant i k = { k with
      hist := k.hist.drop 1 ++ [i], last := i, goodRun := min (k.goodRun + 1) 32, samples := bump k.samples } := by
    cases hm : i.mark <;> simp_all [usable, recordInstant]
  rw [fileInstant, hrec, stateRule, if_pos hi]
  cases hk : k.state with
  | absent => simp [usableRun, usableState, hk]
  | stale => simp [usableRun, usableState, hk]
  | valid => simp [usableRun, usableState, hk]
  | recovering =>
    by_cases hr : 31 ≤ k.goodRun
    · simp [usableRun, usableState, hk, hr]
    · have h32 : min (k.goodRun + 1) 32 ≠ 32 := by omega
      simp [usableRun, usableState, hk, hr, h32]

/-- R7, R11: an INVALID or MISSING instant is filed: it ends the good run and leaves the state. -/
theorem fileInstant_unusable (d : Nat) (k : Channel) {i : Instant} (hi : usable i = false) : fileInstant d k i =
    { k with hist := k.hist.drop 1 ++ [i], goodRun := 0,
             samples := if i.mark = .invalid then bump k.samples else k.samples,
             invalid := if i.mark = .invalid then bump k.invalid else k.invalid,
             missing := if i.mark = .missing then bump k.missing else k.missing } := by
  rw [fileInstant, stateRule, if_neg (by simp [hi])]
  cases hm : i.mark <;> simp_all [usable, recordInstant]
  all_goals split <;> rfl

theorem fileInstant_consistent (d : Nat) {k : Channel} (i : Instant) (hk : ChannelConsistent k) :
    ChannelConsistent (fileInstant d k i) := by
  obtain ⟨hhist, hrun, hstate⟩ := hk
  have hlen : (k.hist.drop 1 ++ [i]).length = 8 := by simp [hhist]
  cases hi : usable i with
  | true =>
    rw [fileInstant_usable d k hi]
    refine ⟨hlen, ?_, ?_⟩
    · show usableRun k ≤ 32
      unfold usableRun
      split <;> omega
    · unfold usableState usableRun
      cases hs : k.state <;> simp
      by_cases hr : 31 ≤ k.goodRun
      · simp [hr]
      · simp [hr]
        omega
  | false =>
    rw [fileInstant_unusable d k hi]
    refine ⟨hlen, Nat.zero_le _, ?_⟩
    cases hs : k.state <;> simp_all


/-! ## Filing an arrival -/

theorem fileArrival_consistent (d : Nat) (a : Arrival) {k : Channel} (hk : ChannelConsistent k) :
    ChannelConsistent (fileArrival d a k) := by
  unfold fileArrival
  generalize List.replicate a.missing missingInstant ++ [a.own] = l
  induction l generalizing k with
  | nil => exact hk
  | cons i l ih => exact ih (fileInstant_consistent d i hk)

/-- Filing leaves the consumer list. -/
@[simp] theorem fileInstant_consumers (d : Nat) (k : Channel) (i : Instant) :
    (fileInstant d k i).consumers = k.consumers := by
  cases hi : usable i with
  | true => rw [fileInstant_usable d k hi]
  | false => rw [fileInstant_unusable d k hi]

@[simp] theorem foldl_fileInstant_consumers (d : Nat) (l : List Instant) (k : Channel) :
    (l.foldl (fileInstant d) k).consumers = k.consumers := by
  induction l generalizing k with
  | nil => rfl
  | cons i l ih => rw [List.foldl_cons, ih, fileInstant_consumers]

protected theorem Steady.channelReport {x : Set Holder} {code : ReportCode} {c : Fin 24} {value : Option Int}
    (h : Steady x s t) : Steady x s (channelReport code c value t) := .ite h h.report

protected theorem Steady.handCopy {x : Set Holder} {k : Copy} {taker : Consumer} (h : Steady x s t) :
    Steady x s (handCopy k taker t) := by
  unfold handCopy
  split
  · exact h.updEv
  · exact h.updSeq
  · exact h.updCapture
  · split
    · exact h
    · exact h.updRect

/-- R7 to R14: what CHANNEL_ARRIVAL does beside the filing is steady. -/
theorem fileOldest_steady {c : Fin 24} {a : Arrival} {rest : List Arrival} (hw : (s.chan c).waiting = a :: rest) :
    Steady ∅ (s.updChan c fun k => { fileArrival (deadline s 2) a k with waiting := rest }) (fileOldest c s) := by
  unfold fileOldest
  dsimp only
  rw [hw]
  exact Steady.forEach (.ite Steady.rfl.channelReport .rfl) fun _ _ hu => hu.handCopy

theorem fileOldest_consistent (c : Fin 24) (hs : ChannelsConsistent s) : ChannelsConsistent (fileOldest c s) := by
  cases hw : (s.chan c).waiting with
  | nil =>
    have he : fileOldest c s = s := by simp [fileOldest, hw]
    rwa [he]
  | cons a rest =>
    exact (fileOldest_steady hw).records.consistent
      (hs.updChan fun hk => (fileArrival_consistent _ a hk).congr rfl rfl rfl rfl)

/-- What each turn keeps of the records' consistency, the whole of a forEach keeps. -/
theorem ChannelsConsistent.forEach {α : Type} {l : List α} {k : α → State → State} (hs : ChannelsConsistent s)
    (hk : ∀ a u, ChannelsConsistent u → ChannelsConsistent (k a u)) : ChannelsConsistent (forEach l k s) :=
  forEach_keeps ChannelsConsistent k l (fun a _ u hu => hk a u hu) s hs

theorem ChannelsConsistent.times {k : State → State} (hk : ∀ u, ChannelsConsistent u → ChannelsConsistent (k u))
    (n : Nat) (hs : ChannelsConsistent s) : ChannelsConsistent (times n k s) := by
  induction n generalizing s with
  | zero => exact hs
  | succ n ih => exact ih (hk s hs)

theorem drainAll_consistent (hs : ChannelsConsistent s) : ChannelsConsistent (drainAll s) :=
  (hs.forEach fun c _ hu => hu.times (fun _ => fileOldest_consistent c) _).forEach
    fun k u hu => (drainConsumer_kept k u).records.consistent hu

/-! ## A channel goes stale, or is reset -/

theorem goStale_consistent (c : Fin 24) (hs : ChannelsConsistent s) : ChannelsConsistent (goStale c s) :=
  (Steady.rfl.channelReport (x := ∅)).records.consistent (hs.updChan fun hk => ⟨hk.1, Nat.zero_le _, rfl, rfl⟩)

theorem stalenessExpired_consistent (c : Fin 24) (hs : ChannelsConsistent s) :
    ChannelsConsistent (stalenessExpired c s) := by
  unfold stalenessExpired
  dsimp only
  split
  · have hd : ChannelsConsistent (forEach (s.chan c).consumers drainConsumer s) :=
      hs.forEach fun k u hu => (drainConsumer_kept k u).records.consistent hu
    exact (Steady.rfl.stateNotice.finish).records.consistent (goStale_consistent c hd)
  · exact hs

theorem adoptChannel_consistent (old new : Vector StreamEntry 24) (c : Fin 24) (hs : ChannelsConsistent s) :
    ChannelsConsistent (adoptChannel old new c s) := by
  have hr : ChannelsConsistent (s.updChan c resetChannel) :=
    hs.updChan fun _ => channelConsistent_initial.congr rfl rfl rfl rfl
  unfold adoptChannel
  dsimp only
  split
  · exact hs
  · split
    · exact hr
    · exact (Steady.rfl.stateNotice (x := ∅)).records.consistent hr

/-- R17: the entries after an adoption of a stream table. -/
def newEntries (old : Vector StreamEntry 24) (bank : List Byte) : Vector StreamEntry 24 :=
  Vector.ofFn fun k : Fin 24 => carryEntry old (streamEntryOf bank k)

/-- R17, R18: the adoption of the streams, with the entries named. -/
theorem adoptStreams_eq (bank : List Byte) (s : State) : adoptStreams bank s =
    forEach channelList (adoptChannel s.matcher.entries (newEntries s.matcher.entries bank))
      (s.updMatcher fun m => { m with entries := newEntries s.matcher.entries bank }) := rfl

theorem ChannelsConsistent.updMatcher {g : Matcher → Matcher} (hs : ChannelsConsistent s) :
    ChannelsConsistent (s.updMatcher g) := hs

theorem adoptStreams_consistent (bank : List Byte) (hs : ChannelsConsistent s) :
    ChannelsConsistent (adoptStreams bank s) := by
  rw [adoptStreams_eq]
  exact hs.updMatcher.forEach fun c _ hu => adoptChannel_consistent _ _ c hu

/-- An adoption that keeps the records consistent, under a mark. -/
theorem adoptIf_consistent (k : Fin 13) (safe : State → Bool) {adopt : List Byte → State → State}
    (ha : ∀ bank u, ChannelsConsistent u → ChannelsConsistent (adopt bank u)) (hs : ChannelsConsistent s) :
    ChannelsConsistent (adoptIf k safe adopt s) := by
  rcases adoptIf_cases k safe adopt s with e | ⟨_, _, _, _, e⟩ <;> rw [e]
  · exact hs
  · exact (RecordsKept.refl _).clearMark.consistent (ha _ _ hs)

/-- R148, R153: the adoptions of the consumers that a switch-over takes whatever their state. -/
theorem adoptAlways_records {x : Set Holder} (k : Fin 13) {adopt : List Byte → State → State}
    (ha : ∀ bank u, Steady x u (adopt bank u)) (s : State) : RecordsKept s (adoptAlways k adopt s) :=
  (RecordsKept.refl s).adoptIf ha

/-- R148: the consumers but the streams and the report settings adopt, whatever their state. -/
def adoptTheRest (settles : Bool) (s : State) : State :=
  forEach feeders (fun f => adoptAlways (feederMark f) (fun bank => adoptFeeder settles bank f)) s
  |> adoptAlways 9 adoptRect |> adoptAlways 10 adoptLine |> adoptAlways 12 adoptCapture

theorem adoptTheRest_records (settles : Bool) (s : State) : RecordsKept s (adoptTheRest settles s) :=
  ((((RecordsKept.refl s).forEach fun f u =>
    adoptAlways_records (x := feederHolders f) _ (fun _ _ => Steady.rfl.adoptFeeder subset_rfl) u).trans
      (adoptAlways_records (x := rectHolders) _ (fun _ _ => Steady.rfl.adoptRect subset_rfl) _)).trans
        (adoptAlways_records (x := {.line}) _ (fun _ _ => Steady.rfl.adoptLine rfl) _)).trans
          (adoptAlways_records (x := {.capture}) _ (fun _ _ => Steady.rfl.adoptCapture rfl) _)

theorem startSwitch_consistent (hs : ChannelsConsistent s) : ChannelsConsistent (startSwitch s) := by
  have hbegun (u : State) (hu : ChannelsConsistent u) :
      ChannelsConsistent (adoptAlways 11 adoptReports (adoptAlways 0 adoptStreams u)) :=
    adoptIf_consistent _ _ (fun _ _ hu => hu) (adoptIf_consistent _ _ (fun _ _ => adoptStreams_consistent _) hu)
  have hlast (u : State) (hu : ChannelsConsistent u) : ChannelsConsistent (rebuildConsumers (sweeps 13 u)) :=
    ((sweeps_records 13 u).trans (rebuildConsumers_records _)).consistent hu
  unfold startSwitch
  dsimp only
  refine hlast _ ?_
  split
  · exact (adoptTheRest_records true _).consistent (hbegun _ hs)
  · exact hbegun _ hs

/-! ## Cold reset and RESTART -/

theorem coldReset_consistent (addr : BitVec 6) (gw : BitVec 2) (s : State) :
    ChannelsConsistent (coldReset addr gw s) := by
  intro c
  have hc : (coldReset addr gw s).chan c = Channel.initial := by simp [coldReset, State.cold, State.chan]
  rw [hc]
  exact channelConsistent_initial

/-- R21: RESTART sets the counters of the channels to 0. -/
theorem restartMeasurement_consistent (hs : ChannelsConsistent s) : ChannelsConsistent (restartMeasurement s) := by
  intro c
  have hc : (restartMeasurement s).chan c =
      { s.chan c with samples := 0, invalid := 0, missing := 0, staleMoves := 0 } := by
    simp [restartMeasurement, State.chan]
  rw [hc]
  exact (hs c).congr rfl rfl rfl rfl

theorem abandonValidation_records (s : State) : RecordsKept s (abandonValidation s) := by
  unfold abandonValidation
  split <;> exact ⟨fun _ => rfl, rfl⟩

theorem completePending_records (s : State) : RecordsKept s (completePending s) := by
  unfold completePending
  split
  · exact (adoptTheRest_records false s).trans (rebuildConsumers_records _)
  · exact .refl s

protected theorem Steady.restartEvaluator {x : Set Holder} {f : Fin 8} (h : Steady x s t) :
    Steady x s (restartEvaluator f t) := by
  unfold restartEvaluator
  dsimp only
  split
  · split
    · exact h.askOpen
    · exact h.askOpen.tellTrip
  · exact .ite h.updEv.reportDegraded h.updEv

protected theorem Steady.restartReports {x : Set Holder} (h : Steady x s t) : Steady x s (restartReports t) :=
  h.updReports rfl

protected theorem Steady.restartCapture {x : Set Holder} (h : Steady x s t) : Steady x s (restartCapture t) :=
  h.updCapture

protected theorem Steady.restartRing {x : Set Holder} (h : Steady x s t) : Steady x s (restartRing t) := h.updRing

protected theorem Steady.armAfterRestart {x : Set Holder} (h : Steady x s t) : Steady x s (armAfterRestart t) :=
  h.updCapture (armIfPossible_settings _)

theorem restartAll_consistent (hs : ChannelsConsistent s) : ChannelsConsistent (restartAll s) := by
  have hcleared : ChannelsConsistent (restartMeasurement (restartReports s)) :=
    restartMeasurement_consistent ((Steady.rfl.restartReports (x := ∅)).records.consistent hs)
  have hblocks (u : State) : Steady ∅ u
      (u |> restartSwitchgear |> restartLine |> forEach feeders restartSequencer |> restartRect |> restartCapture) :=
    (Steady.rfl.restartSwitchgear.restartLine.forEach fun _ _ hu => hu.restartSequencer).restartRect.restartCapture
  have hend (u : State) : Steady ∅ u
      (u |> forEach feeders restartIdle |> forEach feeders restartEvaluator |> armAfterRestart) :=
    Steady.armAfterRestart ((Steady.rfl.forEach fun _ _ hu => hu.restartIdle).forEach fun _ _ hu => hu.restartEvaluator)
  exact (((((hblocks _).records.trans (abandonValidation_records _)).trans (Steady.rfl (x := ∅)).restartRing.records).trans
    (completePending_records _)).trans (hend _).records).consistent hcleared

end Sys2Proof.Machine

/-! SUPPORT. The Channel Store through frames and requests, and through every command. -/

namespace Sys2Proof.Machine
variable {s t u : State}

/-! ## Requests -/

/-- The service of a request keeps the channel records consistent. -/
def ServesConsistently (request : State → Reply) : Prop :=
  ∀ u, ChannelsConsistent u → ChannelsConsistent (request u).2

theorem ServesConsistently.of_records {request : State → Reply} (h : ∀ u, RecordsKept u (request u).2) :
    ServesConsistently request := fun u hu => (h u).consistent hu

/-- R189: a request that fails its checks changes nothing. -/
theorem ServesConsistently.checked {fromManager : Bool} {len : Nat} {src : Byte} {params : List Byte}
    {serve_ : State → Reply} (h : ServesConsistently serve_) :
    ServesConsistently (checked fromManager len src params serve_) := by
  intro u hu
  unfold Machine.checked
  split
  · exact hu
  · split
    · exact hu
    · exact h u hu

theorem requestStatus_consistent (src : Byte) (params : List Byte) : ServesConsistently (requestStatus src params) :=
  .checked (.of_records .refl)

theorem requestReadFeeder_consistent (src : Byte) (params : List Byte) :
    ServesConsistently (requestReadFeeder src params) :=
  .checked (.of_records fun u => by split <;> exact .refl u)

theorem requestReadRectifier_consistent (src : Byte) (params : List Byte) :
    ServesConsistently (requestReadRectifier src params) := .checked (.of_records .refl)

theorem requestReadChannel_consistent (src : Byte) (params : List Byte) :
    ServesConsistently (requestReadChannel src params) :=
  .checked (.of_records fun u => by split <;> exact .refl u)

theorem readGroup_records {option : Nat} {data : State → List Byte} {clear : State → State} {s : State}
    (h : RecordsKept s (clear s)) : RecordsKept s (readGroup option data clear s).2 := by
  unfold readGroup
  split
  · exact .refl s
  · split
    · exact h
    · exact .refl s

theorem groupByCode_records (group option selector : Nat) (s : State) :
    RecordsKept s (groupByCode group option selector s).2 := by
  unfold groupByCode
  split
  · exact readGroup_records ⟨fun _ => rfl, rfl⟩
  · split
    · unfold streamsGroup
      split
      · exact readGroup_records ⟨fun _ => rfl, rfl⟩
      · split
        · exact readGroup_records ⟨fun _ => rfl, rfl⟩
        · exact .refl s
    · exact .refl s
  · exact readGroup_records ⟨fun _ => rfl, rfl⟩
  · exact readGroup_records ⟨fun _ => rfl, rfl⟩
  · exact readGroup_records ⟨fun _ => rfl, rfl⟩
  · exact readGroup_records ⟨fun _ => rfl, rfl⟩
  · exact .refl s

theorem requestReadCounters_consistent (src : Byte) (params : List Byte) :
    ServesConsistently (requestReadCounters src params) := .checked (.of_records (groupByCode_records _ _ _))

theorem requestWriteTable_consistent (src : Byte) (params : List Byte) :
    ServesConsistently (requestWriteTable src params) := by
  refine .of_records fun u => ?_
  unfold requestWriteTable serveWrite
  dsimp only
  split
  · exact .refl u
  · repeat' split
    all_goals exact ⟨fun _ => rfl, rfl⟩

theorem requestReadTable_consistent (src : Byte) (params : List Byte) :
    ServesConsistently (requestReadTable src params) := by
  refine .checked (.of_records fun u => ?_)
  dsimp only
  repeat' split
  all_goals exact .refl u

theorem requestValidate_consistent (src tag : Byte) (params : List Byte) :
    ServesConsistently (requestValidate src tag params) := by
  refine .checked (.of_records fun u => ?_)
  repeat' split
  all_goals exact ⟨fun _ => rfl, rfl⟩

theorem requestActivate_consistent (src : Byte) (params : List Byte) :
    ServesConsistently (requestActivate src params) := by
  refine .checked fun u hu => ?_
  split
  · exact hu
  · split
    · exact hu
    · exact startSwitch_consistent (drainAll_consistent hu)

theorem doneOrState_records {before : State} {r : Bool × State} (h : RecordsKept before r.2) :
    RecordsKept before (doneOrState before r).2 := by
  unfold doneOrState
  split
  · exact h
  · exact .refl before

theorem operateFeeder_records (f : Fin 8) (action : Nat) (s : State) : RecordsKept s (operateFeeder f action s).2 := by
  unfold operateFeeder
  split
  · exact doneOrState_records Steady.rfl.operatorOpen.finish.records
  · split
    · exact Steady.rfl.operatorClose.finish.records
    · exact .refl s
  · split
    · exact Steady.rfl.resetLockout.finish.records
    · exact .refl s
  · exact .refl s

theorem operateRect_records (action : Nat) (s : State) : RecordsKept s (operateRect action s).2 := by
  unfold operateRect
  split
  · exact doneOrState_records (Steady.rfl (x := ∅)).closeAc.records
  · exact doneOrState_records (Steady.rfl (x := ∅)).deblock.records
  · exact doneOrState_records (Steady.rfl (x := ∅)).block.records
  · exact doneOrState_records (Steady.rfl (x := ∅)).stopFull.records
  · exact doneOrState_records (Steady.rfl (x := ∅)).resetRect.records
  · exact .refl s

theorem requestOperate_consistent (src : Byte) (params : List Byte) : ServesConsistently (requestOperate src params) := by
  refine .checked (.of_records fun u => ?_)
  split
  · exact operateFeeder_records _ _ u
  · split
    · exact operateRect_records _ u
    · exact .refl u

theorem requestReadReports_consistent (src : Byte) (params : List Byte) :
    ServesConsistently (requestReadReports src params) := by
  refine .checked (.of_records fun u => ?_)
  dsimp only
  split
  · exact .refl u
  · exact ⟨fun _ => rfl, rfl⟩

theorem requestCaptureList_consistent (src : Byte) (params : List Byte) :
    ServesConsistently (requestCaptureList src params) := .checked (.of_records .refl)

theorem serveReadCapture_records (i : Fin 4) (pos first count : Nat) (s : State) :
    RecordsKept s (serveReadCapture i pos first count s).2 := by
  unfold serveReadCapture
  dsimp only
  repeat' split
  all_goals exact ⟨fun _ => rfl, rfl⟩

theorem requestReadCapture_consistent (src : Byte) (params : List Byte) :
    ServesConsistently (requestReadCapture src params) := by
  refine .checked (.of_records fun u => ?_)
  dsimp only
  split
  · split
    · exact .refl u
    · exact serveReadCapture_records _ _ _ _ u
  · exact .refl u

theorem requestReleaseCapture_consistent (src : Byte) (params : List Byte) :
    ServesConsistently (requestReleaseCapture src params) := by
  refine .checked (.of_records fun u => ?_)
  dsimp only
  repeat' split
  all_goals exact ⟨fun _ => rfl, rfl⟩

theorem requestTriggerCapture_consistent (src : Byte) (params : List Byte) :
    ServesConsistently (requestTriggerCapture src params) :=
  .checked (.of_records fun _ => (Steady.rfl (x := ∅)).trigger.records)

theorem requestSetTime_consistent (src : Byte) (params : List Byte) : ServesConsistently (requestSetTime src params) := by
  refine .checked (.of_records fun u => ?_)
  dsimp only
  split
  · exact .refl u
  · exact ⟨fun _ => rfl, rfl⟩

theorem requestRestart_consistent (src : Byte) (params : List Byte) : ServesConsistently (requestRestart src params) := by
  refine .checked fun u hu => ?_
  split
  · exact restartAll_consistent hu
  · exact hu

theorem requestByCode_consistent (code src tag : Byte) (params : List Byte) :
    ServesConsistently (requestByCode code src tag params) := by
  intro u hu
  unfold requestByCode
  split
  · exact requestStatus_consistent _ _ u hu
  · exact requestReadFeeder_consistent _ _ u hu
  · exact requestReadRectifier_consistent _ _ u hu
  · exact requestReadChannel_consistent _ _ u hu
  · exact requestReadCounters_consistent _ _ u hu
  · exact requestWriteTable_consistent _ _ u hu
  · exact requestReadTable_consistent _ _ u hu
  · exact requestValidate_consistent _ _ _ u hu
  · exact requestActivate_consistent _ _ u hu
  · exact requestOperate_consistent _ _ u hu
  · exact requestReadReports_consistent _ _ u hu
  · exact requestCaptureList_consistent _ _ u hu
  · exact requestReadCapture_consistent _ _ u hu
  · exact requestReleaseCapture_consistent _ _ u hu
  · exact requestTriggerCapture_consistent _ _ u hu
  · exact requestSetTime_consistent _ _ u hu
  · exact requestRestart_consistent _ _ u hu
  · exact hu

/-- R188: an answer, a held place and an overrun are the Ring Port's. -/
theorem respond_consistent {src tag : Byte} {request : State → Reply} (h : ServesConsistently request)
    (hs : ChannelsConsistent s) : ChannelsConsistent (respond src tag request s) := by
  unfold respond placeReply
  split
  · split
    · exact h s hs
    · exact h s hs
  · exact hs

theorem requestNoTag_state (src : Byte) (payload : List Byte) (s : State) : (requestNoTag src payload s).2 = s := by
  unfold requestNoTag
  dsimp only
  split
  · rfl
  · split <;> rfl

theorem takeManage_consistent (src : Byte) (payload : List Byte) (hs : ChannelsConsistent s) :
    ChannelsConsistent (takeManage src payload s) := by
  have hno (p : List Byte) : ServesConsistently (requestNoTag src p) := fun u hu => by rwa [requestNoTag_state]
  unfold takeManage
  split
  · exact respond_consistent (requestByCode_consistent _ _ _ _) hs
  · split
    · exact respond_consistent (hno _) (s := freeTaken s) hs
    · exact respond_consistent (hno _) hs

theorem onRequest_consistent {src tag : Byte} {request : State → Reply} (h : ServesConsistently request)
    (hs : ChannelsConsistent s) : ChannelsConsistent (onRequest src tag request s) := by
  unfold onRequest
  split
  · exact hs
  · split
    · exact hs
    · exact respond_consistent h ((Steady.rfl (x := ∅)).goodFrame.records.consistent hs)

/-! ## Frames -/

theorem takeSample_consistent (fr : Frame) (hs : ChannelsConsistent s) : ChannelsConsistent (takeSample fr s) := by
  unfold takeSample
  split
  · exact hs
  · split
    · exact hs
    · dsimp only
      split
      · exact hs
      · refine hs.updMatcher.forEach fun p u hu => ?_
        dsimp only
        split
        · exact hu
        · exact hu.updChan fun hk => hk.congr rfl rfl rfl rfl

theorem useFrame_consistent (fr : Frame) (forPart : Bool) (hs : ChannelsConsistent s) :
    ChannelsConsistent (useFrame fr forPart s) := by
  unfold useFrame
  split
  · exact takeSample_consistent fr hs
  · exact (takePosition_kept fr s).finish.records.consistent hs
  · split
    · exact takeManage_consistent _ _ hs
    · exact hs
  · exact hs

theorem arriveFrame_consistent (fr : Frame) (hs : ChannelsConsistent s) : ChannelsConsistent (arriveFrame fr s) := by
  have hg : ChannelsConsistent (goodFrame s) := (Steady.rfl (x := ∅)).goodFrame.records.consistent hs
  unfold arriveFrame sortFrame
  split
  · exact hs
  · split
    · exact hs
    · split
      · exact useFrame_consistent fr false (s := (goodFrame s).updRing (joinRelay fr)) hg
      · split
        · exact useFrame_consistent fr true hg
        · exact hg

theorem arriveBytes_consistent (bytes : List Byte) (hs : ChannelsConsistent s) :
    ChannelsConsistent (arriveBytes bytes s) := by
  unfold arriveBytes
  split
  · exact hs
  · split
    · exact hs
    · exact arriveFrame_consistent _ hs

/-! ## Timers and the bank store -/

/-- A timer's expiry: stopped, or run out at its time. -/
theorem whenExpired_records {timer : Option Nat} {k : State → State} (h : ∀ u, RecordsKept u (k u)) (s : State) :
    RecordsKept s (whenExpired timer k s) := by
  unfold whenExpired
  split
  · exact .refl s
  · exact (Steady.rfl (x := ∅)).advanceTo.records.trans (h _)

protected theorem RecordsKept.ite {p : Prop} [Decidable p] (ht : RecordsKept s t) (hu : RecordsKept s u) :
    RecordsKept s (if p then t else u) := by split <;> assumption

theorem whenSequenceTimer_records {f : Fin 8} {st : SeqState} {k : State → State} (h : ∀ u, Steady ∅ u (k u))
    (s : State) : RecordsKept s (whenSequenceTimer f st k s) :=
  .ite (whenExpired_records (fun u => (h u).finish.records) s) (.refl s)

theorem completeValidation_records (s : State) : RecordsKept s (completeValidation s) := by
  unfold completeValidation
  split
  · exact .refl s
  · split
    · exact ⟨fun _ => rfl, rfl⟩
    · unfold endValid
      dsimp only
      split
      · exact ⟨fun _ => rfl, rfl⟩
      · exact ⟨fun _ => rfl, rfl⟩

/-! ## Every command -/

/-- Every command keeps every channel record consistent. -/
theorem exec_keeps_channels (c : Instr) (s : State) (hs : ChannelsConsistent s) :
    ∃ t, exec c s = .next t ∧ ChannelsConsistent t := by
  have steady {t : State} (h : Steady ∅ s t) : ChannelsConsistent t := h.records.consistent hs
  have kept {t : State} (h : SteadyUnlessPending s t) : ChannelsConsistent t := h.records.consistent hs
  have records {t : State} (h : RecordsKept s t) : ChannelsConsistent t := h.consistent hs
  have request {src tag : Byte} {r : State → Reply} (h : ServesConsistently r) :
      ChannelsConsistent (onRequest src tag r s) := onRequest_consistent h hs
  cases c with
  | coldReset addr gw => exact ⟨_, rfl, coldReset_consistent addr gw s⟩
  | ringFrame bytes => exact ⟨_, rfl, arriveBytes_consistent bytes hs⟩
  | sampleFrame frame => exact ⟨_, rfl, arriveFrame_consistent frame hs⟩
  | channelArrival c => exact ⟨_, rfl, fileOldest_consistent c hs⟩
  | stalenessTimerExpiry c =>
    refine ⟨_, rfl, ?_⟩
    unfold whenExpired
    split
    · exact hs
    · exact stalenessExpired_consistent c (steady Steady.rfl.advanceTo)
  | evaluatorArrival f => exact ⟨_, rfl, kept (evaluatorTakes_kept f s)⟩
  | sequencerArrival f => exact ⟨_, rfl, kept (sequencerTakes_kept f s)⟩
  | trackerArrival => exact ⟨_, rfl, kept (trackerTakes_kept s)⟩
  | rectCurrentArrival => exact ⟨_, rfl, kept (currentTakes_kept s)⟩
  | rectBusArrival => exact ⟨_, rfl, kept (busTakes_kept s)⟩
  | captureArrival => exact ⟨_, rfl, kept (captureTakes_kept s)⟩
  | positionFrame frame => exact ⟨_, rfl, arriveFrame_consistent frame hs⟩
  | positionAgeExpiry d =>
    exact ⟨_, rfl, records (whenExpired_records (fun u => (positionAged_kept d u).finish.records) s)⟩
  | repeatTimerExpiry d =>
    exact ⟨_, rfl, records (whenExpired_records (fun _ => (Steady.rfl (x := ∅)).repeatExpired.records) s)⟩
  | openTimerExpiry d =>
    exact ⟨_, rfl, records (.ite (whenExpired_records (fun _ => Steady.rfl.openTimerExpired.finish.records) s) (.refl s))⟩
  | closeTimerExpiry d =>
    exact ⟨_, rfl, records (.ite (whenExpired_records (fun _ => Steady.rfl.closeTimerExpired.finish.records) s) (.refl s))⟩
  | deadTimeExpiry f => exact ⟨_, rfl, records (whenSequenceTimer_records (fun _ => Steady.rfl.testStart) s)⟩
  | settleTimerExpiry f => exact ⟨_, rfl, records (whenSequenceTimer_records (fun _ => Steady.rfl.settleExpired) s)⟩
  | reclaimExpiry f => exact ⟨_, rfl, records (whenSequenceTimer_records (fun _ => Steady.rfl.reclaimExpired) s)⟩
  | holdTimerExpiry f =>
    exact ⟨_, rfl, records (whenExpired_records (fun _ => Steady.rfl.releaseHold.finish.records) s)⟩
  | busWaitExpiry f =>
    exact ⟨_, rfl, records (.ite (whenExpired_records (fun _ => Steady.rfl.lockout.finish.records) s) (.refl s))⟩
  | stopStepTimerExpiry =>
    exact ⟨_, rfl, records (.ite (whenExpired_records (fun _ => Steady.rfl.stopFailed.finish.records) s) (.refl s))⟩
  | firingDue => exact ⟨_, rfl, kept Steady.rfl.firingFallsDue.finish⟩
  | gatePulseEnd g =>
    exact ⟨_, rfl, records (whenExpired_records (fun _ => (Steady.rfl (x := ∅)).gatePulseEnds.records) s)⟩
  | fillTimerExpiry slot =>
    exact ⟨_, rfl, records (whenExpired_records (fun _ => Steady.rfl.fillExpired.finish.records) s)⟩
  | validationComplete => exact ⟨_, rfl, records (completeValidation_records s)⟩
  | ringDownTimerExpiry =>
    exact ⟨_, rfl, records (whenExpired_records (fun _ => (Steady.rfl (x := ∅)).ringDown.records) s)⟩
  | ringOutFrameEnd => exact ⟨_, rfl, steady Steady.rfl.updRing⟩
  | dayRollover => exact ⟨_, rfl, steady Steady.rfl.advanceTo⟩
  | intertripMessageReceived r restart => exact ⟨_, rfl, kept Steady.rfl.receiveMessage.finish⟩
  | messageAbandoned restart => exact ⟨_, rfl, steady Steady.rfl.abandonMessage⟩
  | lineLowEvent w => exact ⟨_, rfl, kept (lineLow_kept w s)⟩
  | lowTimerExpiry held => exact ⟨_, rfl, kept Steady.rfl.lowExpired.finish⟩
  | busFreeTimerExpiry => exact ⟨_, rfl, steady Steady.rfl.busFreeExpired⟩
  | intertripMessageStart => exact ⟨_, rfl, steady Steady.rfl.startSending⟩
  | arbitrationLost clock => exact ⟨_, rfl, kept Steady.rfl.lostArbitration.finish⟩
  | sendAttemptEnd ack => exact ⟨_, rfl, kept Steady.rfl.endAttempt.finish⟩
  | status src tag params => exact ⟨_, rfl, request (requestStatus_consistent _ _)⟩
  | readFeeder src tag params => exact ⟨_, rfl, request (requestReadFeeder_consistent _ _)⟩
  | readRectifier src tag params => exact ⟨_, rfl, request (requestReadRectifier_consistent _ _)⟩
  | readChannel src tag params => exact ⟨_, rfl, request (requestReadChannel_consistent _ _)⟩
  | readCountersRing src tag o sel extra => exact ⟨_, rfl, request (requestReadCounters_consistent _ _)⟩
  | readCountersStreams src tag o sel extra => exact ⟨_, rfl, request (requestReadCounters_consistent _ _)⟩
  | readCountersIntertrip src tag o sel extra => exact ⟨_, rfl, request (requestReadCounters_consistent _ _)⟩
  | readCountersReports src tag o sel extra => exact ⟨_, rfl, request (requestReadCounters_consistent _ _)⟩
  | readCountersCapture src tag o sel extra => exact ⟨_, rfl, request (requestReadCounters_consistent _ _)⟩
  | readCountersFiring src tag o sel extra => exact ⟨_, rfl, request (requestReadCounters_consistent _ _)⟩
  | writeTable src tag params => exact ⟨_, rfl, request (requestWriteTable_consistent _ _)⟩
  | readTable src tag params => exact ⟨_, rfl, request (requestReadTable_consistent _ _)⟩
  | validate src tag params => exact ⟨_, rfl, request (requestValidate_consistent _ _ _)⟩
  | activate src tag params => exact ⟨_, rfl, request (requestActivate_consistent _ _)⟩
  | operateOpen src tag target extra => exact ⟨_, rfl, request (requestOperate_consistent _ _)⟩
  | operateClose src tag target extra => exact ⟨_, rfl, request (requestOperate_consistent _ _)⟩
  | resetLockout src tag target extra => exact ⟨_, rfl, request (requestOperate_consistent _ _)⟩
  | closeAc src tag target extra => exact ⟨_, rfl, request (requestOperate_consistent _ _)⟩
  | deblock src tag target extra => exact ⟨_, rfl, request (requestOperate_consistent _ _)⟩
  | block src tag target extra => exact ⟨_, rfl, request (requestOperate_consistent _ _)⟩
  | stopFull src tag target extra => exact ⟨_, rfl, request (requestOperate_consistent _ _)⟩
  | resetRect src tag target extra => exact ⟨_, rfl, request (requestOperate_consistent _ _)⟩
  | readReports src tag params => exact ⟨_, rfl, request (requestReadReports_consistent _ _)⟩
  | captureList src tag params => exact ⟨_, rfl, request (requestCaptureList_consistent _ _)⟩
  | readCapture src tag params => exact ⟨_, rfl, request (requestReadCapture_consistent _ _)⟩
  | releaseCapture src tag params => exact ⟨_, rfl, request (requestReleaseCapture_consistent _ _)⟩
  | triggerCapture src tag params => exact ⟨_, rfl, request (requestTriggerCapture_consistent _ _)⟩
  | setTime src tag params => exact ⟨_, rfl, request (requestSetTime_consistent _ _)⟩
  | restart src tag params => exact ⟨_, rfl, request (requestRestart_consistent _ _)⟩
  | unknownRequest src tag code params => exact ⟨_, rfl, request (requestByCode_consistent _ _ _ _)⟩
  | bothWiresHigh => exact ⟨_, rfl, steady Steady.rfl.bothHigh⟩

end Sys2Proof.Machine

/-! SUPPORT. What a cold reset leaves, and the requests that read. -/

namespace Sys2Proof.Machine
variable {s t u : State}

/-! ## Cold reset (R182) -/

theorem coldReset_ev (addr : BitVec 6) (gw : BitVec 2) (s : State) (f : Fin 8) :
    (coldReset addr gw s).ev f = Evaluator.initial := by
  simp [coldReset, State.cold, State.ev]

theorem coldReset_seq (addr : BitVec 6) (gw : BitVec 2) (s : State) (f : Fin 8) :
    (coldReset addr gw s).seq f = Sequencer.initial := by
  simp [coldReset, State.cold, State.seq]

theorem coldReset_dev (addr : BitVec 6) (gw : BitVec 2) (s : State) (d : Device) :
    (coldReset addr gw s).dev d = DevRecord.initial := PerDevice.get_replicate DevRecord.initial d

theorem coldReset_chan (addr : BitVec 6) (gw : BitVec 2) (s : State) (c : Fin 24) :
    (coldReset addr gw s).chan c = Channel.initial := by
  simp [coldReset, State.cold, State.chan]

theorem coldReset_ring (addr : BitVec 6) (gw : BitVec 2) (s : State) :
    (coldReset addr gw s).ring = RingPort.initial addr gw := rfl

theorem coldReset_capture (addr : BitVec 6) (gw : BitVec 2) (s : State) :
    (coldReset addr gw s).capture = CaptureUnit.initial := rfl

theorem coldReset_rect (addr : BitVec 6) (gw : BitVec 2) (s : State) :
    (coldReset addr gw s).rect = Rectifier.initial := rfl

/-- R82: after a cold reset the line has the wires that another station still holds. -/
theorem coldReset_line (addr : BitVec 6) (gw : BitVec 2) (s : State) : (coldReset addr gw s).line =
    LineCtl.initial (s.line.ckLow && !s.line.driveCk) (s.line.dtLow && !s.line.driveDt) := by
  simp [coldReset, State.cold, LineCtl.drive]

end Sys2Proof.Machine

namespace Sys2Proof.Proofs
open Sys2Proof.Machine

/-- Settles O3: block by block, each reset value is the one that `State.cold` gives it. -/
theorem coldReset : Obligations.ColdReset := by
  refine ⟨fun addr gw s => ⟨Machine.coldReset addr gw s, rfl, ?ring, ?evaluators, ?devices, rfl, rfl, ?sequencers,
      ?reports, ?capture, ?line⟩,
    fun addr gw s => ⟨Machine.coldReset addr gw s, rfl, ?channels, ?entries, rfl, rfl, ?rectifier, ?banks, rfl⟩⟩
  case ring =>
    rw [coldReset_ring]
    exact ⟨rfl, rfl, rfl, rfl, fun d => PerDevice.get_replicate none d, rfl, rfl, (Nat.zero_add _).symm ▸ rfl, rfl⟩
  case evaluators =>
    intro f
    rw [coldReset_ev]
    exact ⟨rfl, rfl, rfl, rfl, rfl, rfl, rfl, rfl, rfl, rfl, rfl, rfl⟩
  case devices => exact coldReset_dev addr gw s
  case sequencers =>
    intro f
    rw [coldReset_seq]
    exact ⟨rfl, rfl, rfl, rfl, rfl, rfl, rfl, rfl, rfl, rfl, rfl, rfl, rfl, rfl, rfl⟩
  case reports => exact ⟨rfl, rfl, rfl, rfl, rfl, rfl, rfl⟩
  case capture =>
    rw [coldReset_capture]
    exact ⟨rfl, fun i => by simp [CaptureUnit.initial], rfl, rfl⟩
  case line =>
    rw [coldReset_line, LineCtl.initial]
    simp [Machine.coldReset, State.cold, LineCounters.zero]
  case channels => exact coldReset_chan addr gw s
  case entries =>
    intro k
    simp [Machine.coldReset, State.cold, StreamEntry.unused]
  case rectifier =>
    rw [coldReset_rect]
    exact ⟨rfl, rfl, rfl, rfl, rfl, rfl, rfl, rfl, rfl, rfl, rfl, rfl, rfl, rfl,
      fun g => by simp [Rectifier.initial], rfl, rfl⟩
  case banks => exact ⟨rfl, rfl, rfl, rfl, rfl, rfl, rfl, rfl, rfl⟩

/-- Settles O29: by the two equations of `fileInstant`. -/
theorem instantFiled : Obligations.InstantFiled := by
  intro d k i hk k'
  obtain ⟨hhist, hrun, hstate⟩ := hk
  have hlen : (k.hist.drop 1 ++ [i]).length = 8 := by simp [hhist]
  cases hi : usable i with
  | true =>
    have hk' : k' = _ := fileInstant_usable d k hi
    have hmark : i.mark ≠ .invalid ∧ i.mark ≠ .missing := by
      constructor <;> intro hm <;> simp [usable, hm] at hi
    have hvalid : usableState k =
        if k.state = .valid ∨ (k.state = .recovering ∧ k.goodRun = 31) then .valid else .recovering := by
      unfold usableState
      congr 1
      cases hs : k.state <;> simp_all
      omega
    rw [hk']
    simp [hhist, hmark, hvalid, usableRun]
  | false =>
    have hk' : k' = _ := fileInstant_unusable d k hi
    rw [hk']
    refine ⟨rfl, hlen, rfl, rfl, rfl, nofun, fun _ => ⟨rfl, rfl, rfl, rfl⟩, fun hm => ?_, fun hm => ?_⟩
    · simp [hm]
    · simp [hm]

/-- Settles O12: command by command, and the cycle that passes when none waits. -/
theorem channelsKept : Obligations.ChannelsKept := by
  intro s t hs hst
  unfold step at hst
  split at hst
  · cases hst
    exact (idleCycle_kept s).records.consistent hs
  · next c rest _ =>
    obtain ⟨v, hv, hkept⟩ := exec_keeps_channels c { s with pending := rest } hs
    rw [hv] at hst
    cases hst
    exact hkept

end Sys2Proof.Proofs

/-! SUPPORT. The requests that read a block's records, and READ_COUNTERS (R191, R192). -/
namespace Sys2Proof.Machine
variable {s : State}

/-- Two equal next states are the same outcome. -/
theorem next_eq {s t : State} (h : s = t) : (Host.Outcome.next s : Host.Outcome State Fault Refusal) = .next t :=
  congrArg _ h

/-- R189: a request that any source may make, with its length, is processed on the state after its frame. -/
theorem onRequest_open {src : Byte} (h : Reaches src s) (tag : Byte) {len : Nat} {params : List Byte}
    (hl : params.length = len) (serve_ : State → Reply) :
    onRequest src tag (checked false len src params serve_) s = placeReply src tag (serve_ (goodFrame s)) := by
  rw [onRequest_of_reaches h, checked_passes false _ _ _ _ _ (fun hf => by cases hf) hl]

/-- The one byte of a number below 256 reads as that number. -/
theorem u8_byteOf {n : Nat} (hn : n < 256) : u8 [byteOf n] 0 = n := Nat.mod_eq_of_lt hn

theorem readFeeder_answered {src : Byte} (h : Reaches src s) (tag : Byte) (f : Fin 8) :
    onRequest src tag (requestReadFeeder src [byteOf (f.val + 1)]) s =
      answered src tag .done .none (feederData f (goodFrame s)) (goodFrame s) := by
  have hu : u8 [byteOf (f.val + 1)] 0 = f.val + 1 := u8_byteOf (by omega)
  have hf : 1 ≤ u8 [byteOf (f.val + 1)] 0 ∧ u8 [byteOf (f.val + 1)] 0 ≤ 8 := by omega
  have he : (⟨u8 [byteOf (f.val + 1)] 0 - 1, by omega⟩ : Fin 8) = f := Fin.ext (by simp [hu])
  rw [requestReadFeeder, onRequest_open h tag (len := 1) rfl, dif_pos hf, he, placeReply_done]

theorem readChannel_answered {src : Byte} (h : Reaches src s) (tag : Byte) (c : Fin 24) :
    onRequest src tag (requestReadChannel src [byteOf c.val]) s =
      answered src tag .done .none (channelData c (goodFrame s)) (goodFrame s) := by
  have hu : u8 [byteOf c.val] 0 = c.val := u8_byteOf (by omega)
  have hc : u8 [byteOf c.val] 0 < 24 := by omega
  have he : (⟨u8 [byteOf c.val] 0, hc⟩ : Fin 24) = c := Fin.ext hu
  rw [requestReadChannel, onRequest_open h tag (len := 1) rfl, dif_pos hc, he, placeReply_done]

/-- R190: READ_COUNTERS is served by its group's code. -/
theorem readCounters_served {src : Byte} (h : Reaches src s) (tag group option sel : Byte) :
    onRequest src tag (requestReadCounters src [group, option, sel]) s =
      placeReply src tag (groupByCode group.toNat option.toNat sel.toNat (goodFrame s)) := by
  rw [requestReadCounters, onRequest_open h tag (len := 3) rfl]
  rfl

/-- The option byte of READ_COUNTERS. -/
theorem option_cases {o : Byte} (h : o.toNat ≤ 1) : o = 0 ∨ o = 1 := by
  rcases Nat.le_one_iff_eq_zero_or_eq_one.1 h with h | h
  · exact .inl (BitVec.eq_of_toNat_eq h)
  · exact .inr (BitVec.eq_of_toNat_eq h)

/-- R6: the data of an entry, an unused one and a used one. -/
theorem entryData_eq (e : StreamEntry) : entryData e =
    if e.unit = 0 then List.replicate 18 0 else
      [e.unit, e.stream] ++ (match e.last with | none => [0, 0] | some x => [1, x]) ++ bytesOf 2 e.run ++
        bytesOf 2 e.accepted ++ bytesOf 2 e.gaps ++ bytesOf 2 e.duplicates ++ bytesOf 2 e.outOfOrder ++
        bytesOf 2 e.short ++ bytesOf 2 e.resyncs := by
  by_cases hu : e.unit = 0
  · simp only [entryData, hu, if_true]
    decide
  · simp only [entryData, hu, if_false]
    cases e.last <;> rfl

/-- R6: the streams group with the selector of an entry. -/
theorem streamsGroup_entry (option : Nat) {sel : Nat} {k : Fin 24} (hk : sel = k.val + 1) (s : State) :
    streamsGroup option sel s = readGroup option (fun s => entryData s.matcher.entries[k]) (clearEntry k) s := by
  subst hk
  have h24 : k.val + 1 ≤ 24 := k.isLt
  have he : (k.val + 1 - 1) % 24 = k.val := Nat.mod_eq_of_lt k.isLt
  unfold streamsGroup
  simp only [Nat.succ_ne_zero, if_false, h24, dif_pos, he]

end Sys2Proof.Machine

namespace Sys2Proof.Proofs
open Sys2Proof.Machine

/-- Settles O21: each request is served on the state after its frame, by its own row of R191 and R192. -/
theorem readsAnswered : Obligations.ReadsAnswered := by
  refine ⟨fun src tag s h => ⟨?_, fun f => ?_, ?_, fun c => ?_, ?_⟩, fun src tag sel s h => ?_,
    fun src tag option sel s h ho => ⟨fun h0 => ?_, fun k hk => ?_, fun h24 => ?_⟩⟩
  · exact next_eq (onRequest_open h tag rfl _)
  · exact next_eq (readFeeder_answered h tag f)
  · exact next_eq (onRequest_open h tag rfl _)
  · exact next_eq (readChannel_answered h tag c)
  · exact next_eq (onRequest_open h tag rfl _)
  · have served (group option : Byte) := next_eq (readCounters_served h tag group option sel)
    exact ⟨served 1 0, served 1 1, served 3 0, served 3 1, served 4 0, served 4 1, served 5 0, served 5 1, served 6 0,
      served 6 1⟩
  · subst h0
    rcases option_cases ho with rfl | rfl
    · exact next_eq (readCounters_served h tag 2 0 0)
    · exact next_eq (readCounters_served h tag 2 1 0)
  · have hs : groupByCode 2 option.toNat sel.toNat (goodFrame s) =
        readGroup option.toNat (fun s => entryData s.matcher.entries[k]) (clearEntry k) (goodFrame s) :=
      (if_pos ho).trans (streamsGroup_entry _ hk _)
    have data := entryData_eq (goodFrame s).matcher.entries[k]
    refine next_eq ((readCounters_served h tag 2 option sel).trans ((congrArg (placeReply src tag) hs).trans ?_))
    rcases option_cases ho with rfl | rfl
    · exact congrArg (fun d => answered src tag .done .none d (goodFrame s)) data
    · exact congrArg (fun d => answered src tag .done .none d (clearEntry k (goodFrame s))) data
  · have hs : groupByCode 2 option.toNat sel.toNat (goodFrame s) = refuse .range (goodFrame s) := by
      refine (if_pos ho).trans ?_
      unfold streamsGroup
      rw [if_neg (by omega), dif_neg (by omega)]
    exact next_eq ((readCounters_served h tag 2 option sel).trans (congrArg (placeReply src tag) hs))

end Sys2Proof.Proofs

/-! SUPPORT. CHANNEL_ARRIVAL: the copies handed to the consumers (R14), and the report of a channel that becomes VALID
(R12). -/
namespace Sys2Proof.Machine
variable {s t u : State}

/-- R14: the rectifier takes a copy in each role that its settings give the channel. -/
def takeInRoles (k : Copy) (r : Rectifier) : Rectifier :=
  { r with
    uabIn := if r.settings.map (fun t => t.uabChan) = some k.chan then r.uabIn ++ [k] else r.uabIn
    curIn := if r.settings.map (fun t => t.curChan) = some k.chan then r.curIn ++ [k] else r.curIn
    busIn := if r.settings.map (fun t => t.busChan) = some k.chan then r.busIn ++ [k] else r.busIn }

theorem handCopy_rectifier (k : Copy) (s : State) : handCopy k .rectifier s = s.updRect (takeInRoles k) := by
  unfold handCopy State.updRect takeInRoles
  dsimp only
  split
  · next h =>
    have hno (role : RectSettings → Fin 24) : s.rect.settings.map role ≠ some k.chan := by simp [h]
    simp only [hno, if_false]
  · next t h =>
    have hrole (role : RectSettings → Fin 24) : s.rect.settings.map role = some k.chan ↔ role t = k.chan := by simp [h]
    simp only [hrole]

/-- A hand-over touches the consumers alone. -/
theorem handCopy_frame (k : Copy) (taker : Consumer) (s : State) : ∃ evs seqs capture rect, handCopy k taker s =
    { s with evs := evs, seqs := seqs, capture := capture, rect := rect } := by
  cases taker with
  | rectifier => rw [handCopy_rectifier]; exact ⟨_, _, _, _, rfl⟩
  | evaluator f => exact ⟨_, _, _, _, rfl⟩
  | sequencer f => exact ⟨_, _, _, _, rfl⟩
  | capture => exact ⟨_, _, _, _, rfl⟩

theorem handCopies_frame (k : Copy) (l : List Consumer) (s : State) :
    ∃ evs seqs capture rect, forEach l (handCopy k) s =
      { s with evs := evs, seqs := seqs, capture := capture, rect := rect } := by
  refine forEach_keeps (fun u => ∃ evs seqs capture rect, u =
    { s with evs := evs, seqs := seqs, capture := capture, rect := rect }) _ l (fun taker _ u hu => ?_) s ⟨_, _, _, _, rfl⟩
  obtain ⟨_, _, _, _, rfl⟩ := hu
  obtain ⟨_, _, _, _, e⟩ := handCopy_frame k taker _
  rw [e]
  exact ⟨_, _, _, _, rfl⟩

/-- R14: what belongs to one consumer alone changes once when it is on the list, and not when it is not. -/
theorem handCopies_view {α : Type} (view : State → α) (take : α → α) (k : Copy) {taker : Consumer}
    (hit : ∀ s, view (handCopy k taker s) = take (view s))
    (miss : ∀ other, other ≠ taker → ∀ s, view (handCopy k other s) = view s) {l : List Consumer} (hl : l.Nodup)
    (s : State) : view (forEach l (handCopy k) s) = if taker ∈ l then take (view s) else view s := by
  induction l generalizing s with
  | nil => simp
  | cons x l ih =>
    obtain ⟨hx, hl⟩ := List.nodup_cons.1 hl
    rw [forEach_cons, ih hl]
    by_cases hxt : x = taker
    · subst hxt
      simp [hx, hit]
    · simp [miss x hxt, Ne.symm hxt]

variable {l : List Consumer}

theorem handCopies_ev (k : Copy) (hl : l.Nodup) (s : State) (f : Fin 8) : (forEach l (handCopy k) s).ev f =
    { s.ev f with inbox := if .evaluator f ∈ l then (s.ev f).inbox ++ [k] else (s.ev f).inbox } := by
  rw [handCopies_view (·.ev f) (fun e => { e with inbox := e.inbox ++ [k] }) k (taker := .evaluator f)
    (fun s => State.updEv_ev_same ..) (fun other ho s => ?_) hl]
  · split <;> rfl
  · cases other with
    | evaluator g => exact State.updEv_ev_ne _ _ fun e => ho (e ▸ rfl)
    | rectifier => simp [handCopy_rectifier]
    | sequencer g => rfl
    | capture => rfl

theorem handCopies_seq (k : Copy) (hl : l.Nodup) (s : State) (f : Fin 8) : (forEach l (handCopy k) s).seq f =
    { s.seq f with inbox := if .sequencer f ∈ l then (s.seq f).inbox ++ [k] else (s.seq f).inbox } := by
  rw [handCopies_view (·.seq f) (fun q => { q with inbox := q.inbox ++ [k] }) k (taker := .sequencer f)
    (fun s => State.updSeq_seq_same ..) (fun other ho s => ?_) hl]
  · split <;> rfl
  · cases other with
    | sequencer g => exact State.updSeq_seq_ne _ _ fun e => ho (e ▸ rfl)
    | rectifier => simp [handCopy_rectifier]
    | evaluator g => rfl
    | capture => rfl

theorem handCopies_capture (k : Copy) (hl : l.Nodup) (s : State) : (forEach l (handCopy k) s).capture =
    { s.capture with inbox := if .capture ∈ l then s.capture.inbox ++ [k] else s.capture.inbox } := by
  rw [handCopies_view (·.capture) (fun c => { c with inbox := c.inbox ++ [k] }) k (taker := .capture)
    (fun s => rfl) (fun other ho s => ?_) hl]
  · split <;> rfl
  · cases other with
    | capture => exact absurd rfl ho
    | rectifier => simp [handCopy_rectifier]
    | evaluator g => rfl
    | sequencer g => rfl

theorem handCopies_rect (k : Copy) (hl : l.Nodup) (s : State) : (forEach l (handCopy k) s).rect =
    if .rectifier ∈ l then takeInRoles k s.rect else s.rect := by
  rw [handCopies_view (·.rect) (takeInRoles k) k (taker := .rectifier)
    (fun s => by rw [handCopy_rectifier, State.updRect_rect]) (fun other ho s => ?_) hl]
  cases other with
  | rectifier => exact absurd rfl ho
  | evaluator g => rfl
  | sequencer g => rfl
  | capture => rfl

/-- R7: the record after the oldest arrival is filed. -/
def filedRecord (s : State) (a : Arrival) (rest : List Arrival) (k : Channel) : Channel :=
  { fileArrival (deadline s 2) a k with waiting := rest }

/-- R14: the copy that the consumers are handed. -/
def arrivalCopy (s : State) (c : Fin 24) (a : Arrival) : Copy :=
  let filed := fileArrival (deadline s 2) a (s.chan c)
  ⟨c, a.missing, a.own, (s.chan c).state, filed.state, filed.hist⟩

/-- R12: the report of a channel that becomes VALID with a consumer. -/
def reportValid (c : Fin 24) (before after : ChanState) (s : State) : State :=
  if before ≠ .valid && after = .valid then channelReport .channelValid c none s else s

theorem reportValid_eq (c : Fin 24) (before after : ChanState) (s : State) : reportValid c before after s =
    { s with reports := if before ≠ .valid ∧ after = .valid ∧ (s.chan c).consumers ≠ [] then
      (report .channelValid (.channel c) none none s).reports else s.reports } := by
  unfold reportValid channelReport
  by_cases hb : before = .valid <;> by_cases ha : after = .valid <;> by_cases hc : (s.chan c).consumers = []
  all_goals simp [hb, ha, hc, ← report_eq]

/-- R7 to R14: the oldest arrival is filed, a channel that becomes VALID is reported, and each consumer has its copy. -/
theorem fileOldest_eq {c : Fin 24} {a : Arrival} {rest : List Arrival} (hw : (s.chan c).waiting = a :: rest) :
    fileOldest c s = forEach (s.chan c).consumers (handCopy (arrivalCopy s c a))
      (reportValid c (s.chan c).state (fileArrival (deadline s 2) a (s.chan c)).state
        (s.updChan c (filedRecord s a rest))) := by
  unfold fileOldest
  dsimp only
  rw [hw]
  dsimp only
  rw [State.updChan_chan_same]
  unfold arrivalCopy filedRecord reportValid
  simp [fileArrival]

end Sys2Proof.Machine

namespace Sys2Proof.Proofs
open Sys2Proof.Machine

/-- Settles O30: the filing, the report and the copies of `fileOldest_eq`, read off block by block. -/
theorem arrivalFiled : Obligations.ArrivalFiled := by
  intro c a rest s hw hnodup k k' copy
  refine ⟨fileOldest c s, rfl, ?_⟩
  rw [fileOldest_eq hw, reportValid_eq]
  refine ⟨?chans, fun f => ?ev, fun f => ?seq, ?capture, ?reports, ?frame, ?rect⟩
  case chans =>
    obtain ⟨_, _, _, _, e⟩ := handCopies_frame (arrivalCopy s c a) (s.chan c).consumers _
    rw [e]
    rfl
  case ev => exact handCopies_ev _ hnodup _ f
  case seq => exact handCopies_seq _ hnodup _ f
  case capture => exact handCopies_capture _ hnodup _
  case reports =>
    obtain ⟨_, _, _, _, e⟩ := handCopies_frame (arrivalCopy s c a) (s.chan c).consumers _
    have hlist : ((s.updChan c (filedRecord s a rest)).chan c).consumers = (s.chan c).consumers := by
      rw [State.updChan_chan_same]
      exact foldl_fileInstant_consumers _ _ _
    rw [e, hlist]
    rfl
  case frame =>
    obtain ⟨_, _, _, _, e⟩ := handCopies_frame (arrivalCopy s c a) (s.chan c).consumers _
    rw [e]
    rfl
  case rect =>
    intro takes
    rw [handCopies_rect _ hnodup]
    by_cases hr : .rectifier ∈ (s.chan c).consumers
    · simp only [takes, k, hr, if_true, true_and]
      rfl
    · simp only [takes, k, hr, if_false, false_and]
      rfl

end Sys2Proof.Proofs

/-! SUPPORT. The Stream Matcher and a broadcast SAMPLE frame (R2 to R5). -/
namespace Sys2Proof.Machine
variable {s t u : State}

/-! ## The entry of a frame (R2) -/

/-- The first channel or entry number that meets a test. -/
theorem channelList_find? {p : Fin 24 → Bool} {k : Fin 24} :
    channelList.find? p = some k ↔ p k = true ∧ ∀ j, j < k → p j = false := by
  rw [List.find?_eq_some_iff_getElem]
  simp only [channelList, List.length_ofFn, List.getElem_ofFn]
  constructor
  · rintro ⟨hk, i, hi, rfl, hlt⟩
    refine ⟨hk, fun j hj => ?_⟩
    simpa using hlt j.val hj
  · rintro ⟨hk, hlt⟩
    exact ⟨hk, k.val, k.isLt, rfl, fun j hj => by simpa using hlt ⟨j, by omega⟩ hj⟩

theorem mem_channelList (c : Fin 24) : c ∈ channelList := List.mem_ofFn.2 ⟨c, rfl⟩

theorem channelList_find?_none {p : Fin 24 → Bool} : channelList.find? p = none ↔ ∀ k, p k = false := by
  rw [List.find?_eq_none]
  exact ⟨fun h k => by simpa using h k (mem_channelList k), fun h k _ => by simp [h k]⟩

/-- R2: an entry is used, for a unit and a stream. -/
def entryHas (m : Matcher) (unit stream : Byte) (k : Fin 24) : Prop :=
  m.entries[k].unit ≠ 0 ∧ m.entries[k].unit = unit ∧ m.entries[k].stream = stream

theorem matchEntry_some {m : Matcher} {unit stream : Byte} {k : Fin 24} : matchEntry unit stream m = some k ↔
    entryHas m unit stream k ∧ ∀ j, j < k → ¬ entryHas m unit stream j := by
  simp [matchEntry, channelList_find?, entryHas, and_assoc]

theorem matchEntry_none {m : Matcher} {unit stream : Byte} :
    matchEntry unit stream m = none ↔ ∀ k, ¬ entryHas m unit stream k := by
  simp only [matchEntry, channelList_find?_none]
  simp [entryHas]

/-! ## The sequence check (R3, R4) -/

/-- The entry after an accepted frame, but for the gap it may have counted. -/
def acceptedEntry (seq : Byte) (e : StreamEntry) : StreamEntry :=
  { e with last := some seq, resynced := false, run := 0, accepted := bump e.accepted }

theorem sequenceCheck_first {seq : Byte} {e : StreamEntry} (h : e.last = none) :
    sequenceCheck seq e = (some (if e.resynced then 8 else 0), acceptedEntry seq e) := by
  simp [sequenceCheck, h, acceptedEntry]

theorem sequenceCheck_duplicate {seq last : Byte} {e : StreamEntry} (h : e.last = some last)
    (hd : (seq - last).toNat = 0) : sequenceCheck seq e = (none, { e with duplicates := bump e.duplicates }) := by
  unfold sequenceCheck
  rw [h]
  exact if_pos hd

/-- R3: a frame 1 to 128 on is accepted, the counts between it and the last one missing. -/
theorem sequenceCheck_accepted {seq last : Byte} {e : StreamEntry} (h : e.last = some last)
    (h1 : 1 ≤ (seq - last).toNat) (h128 : (seq - last).toNat ≤ 128) :
    sequenceCheck seq e = (some ((seq - last).toNat - 1), { acceptedEntry seq e with
      gaps := if (seq - last).toNat - 1 ≠ 0 then bump e.gaps else e.gaps }) := by
  unfold sequenceCheck
  rw [h]
  dsimp only
  generalize (seq - last).toNat = d at h1 h128
  rw [if_neg (by omega)]
  by_cases hd : d = 1
  · subst hd
    rfl
  · rw [if_neg hd, if_pos h128, if_pos (by omega)]
    rfl

/-- R3, R4: a frame further on is out of order, and the fourth in a row resynchronises the entry. -/
theorem sequenceCheck_outOfOrder {seq last : Byte} {e : StreamEntry} (h : e.last = some last)
    (hd : 129 ≤ (seq - last).toNat) : sequenceCheck seq e = (none, if e.run + 1 = 4
      then { e with last := none, resynced := true, run := 0, outOfOrder := bump e.outOfOrder, resyncs := bump e.resyncs }
      else { e with outOfOrder := bump e.outOfOrder, run := e.run + 1 }) := by
  unfold sequenceCheck
  rw [h]
  dsimp only
  rw [if_neg (by omega), if_neg (by omega), if_neg (by omega)]
  split <;> rfl

/-! ## The hand-over to the channels (R5) -/

/-- R5: what a channel is handed of a frame: the missing instants and its own, for each position assigned to it. -/
def handedTo (payload : List Byte) (missing : Nat) (assign : List (Option (Fin 24))) (c : Fin 24) : List Arrival :=
  assign.zipIdx.filterMap fun (a, p) => if a = some c then some ⟨missing, ownInstant payload p⟩ else none

/-- R5: the hand-over touches the Channel Store alone. -/
theorem fileFrame_frame (payload : List Byte) (missing : Nat) (assign : List (Option (Fin 24))) (s : State) :
    fileFrame payload missing assign s = { s with chans := (fileFrame payload missing assign s).chans } := by
  refine forEach_keeps (fun u => u = { s with chans := u.chans }) _ _ (fun (a, p) _ u hu => ?_) s rfl
  dsimp only
  split
  · exact hu
  · rw [hu]
    rfl

theorem fileFrame_chan (payload : List Byte) (missing : Nat) (assign : List (Option (Fin 24))) (s : State) (c : Fin 24) :
    (fileFrame payload missing assign s).chan c =
      { s.chan c with waiting := (s.chan c).waiting ++ handedTo payload missing assign c } := by
  unfold fileFrame handedTo
  generalize assign.zipIdx = l
  induction l generalizing s with
  | nil => simp
  | cons x l ih =>
    obtain ⟨a, p⟩ := x
    rw [forEach_cons, ih]
    cases a with
    | none => simp
    | some i =>
      by_cases hic : i = c
      · subst hic
        simp [handArrival]
      · simp [handArrival, State.updChan_chan_ne _ _ (Ne.symm hic), hic]

/-- R5: a value position lacks its value when the frame carries fewer. -/
theorem isShort_eq (payload : List Byte) (assign : List (Option (Fin 24))) : isShort payload assign =
    assign.zipIdx.any fun (a, p) => a ≠ none && u8 payload 2 ≤ p := by
  unfold isShort
  congr 1
  funext (a, p)
  by_cases h : p < u8 payload 2
  · simp [sampleValue, h]
  · simp [sampleValue, h, Nat.le_of_not_lt h]

/-! ## The frame -/

/-- R184: a broadcast SAMPLE frame is relayed, and taken by the Stream Matcher. -/
theorem arriveFrame_sample {fr : Frame} (hd : fr.dst = 0xFF) (ht : fr.type = 1) (hs : fr.src ≠ s.ring.own) :
    arriveFrame fr s = takeSample fr ((goodFrame s).updRing (joinRelay fr)) := by
  unfold arriveFrame sortFrame useFrame
  rw [if_neg (by rw [hd]; decide), if_neg hs, if_pos hd, ht]
  rfl

/-- R2: the entry that a frame matches, after the frame is relayed. -/
theorem sample_match {fr : Frame} {k : Fin 24} (hk : entryHas s.matcher fr.src (byteAt fr.payload 0) k)
    (hfirst : ∀ j, j < k → ¬ entryHas s.matcher fr.src (byteAt fr.payload 0) j) :
    matchEntry fr.src (byteAt fr.payload 0) ((goodFrame s).updRing (joinRelay fr)).matcher = some k := by
  simpa using matchEntry_some.2 ⟨hk, hfirst⟩

theorem sample_entry (fr : Frame) (s : State) (k : Fin 24) :
    ((goodFrame s).updRing (joinRelay fr)).matcher.entries[k] = s.matcher.entries[k] :=
  congrArg (fun m : Matcher => m.entries[k]) (goodFrame_matcher s)

theorem sample_chan (fr : Frame) (s : State) (f : Matcher → Matcher) (c : Fin 24) :
    (((goodFrame s).updRing (joinRelay fr)).updMatcher f).chan c = s.chan c :=
  congrArg (fun v : Vector Channel 24 => v[c]) (goodFrame_chans s)

/-- R2: a malformed frame is counted. -/
theorem takeSample_malformed {fr : Frame} (hw : sampleWellFormed fr.payload = false) (s : State) :
    takeSample fr s = s.updMatcher fun m => { m with malformed := bump m.malformed } := by
  simp [takeSample, hw]

/-- R2: a frame that no used entry has is counted. -/
theorem takeSample_unmatched {fr : Frame} (hw : sampleWellFormed fr.payload = true)
    (hm : matchEntry fr.src (byteAt fr.payload 0) s.matcher = none) :
    takeSample fr s = s.updMatcher fun m => { m with unmatched := bump m.unmatched } := by
  simp [takeSample, hw, hm]

/-- R3, R4: a frame that the check discards changes its entry. -/
theorem takeSample_discarded {fr : Frame} {k : Fin 24} {e : StreamEntry} (hw : sampleWellFormed fr.payload = true)
    (hm : matchEntry fr.src (byteAt fr.payload 0) s.matcher = some k)
    (hc : sequenceCheck (byteAt fr.payload 1) s.matcher.entries[k] = (none, e)) :
    takeSample fr s = s.updMatcher fun m => { m with entries := m.entries.set k e } := by
  simp only [takeSample, hw, hm, hc, Bool.not_true, Bool.false_eq_true, if_false]

/-- R3 to R5: an accepted frame is counted on its entry and handed to the channels. -/
theorem takeSample_accepted {fr : Frame} {k : Fin 24} {n : Nat} {e : StreamEntry}
    (hw : sampleWellFormed fr.payload = true) (hm : matchEntry fr.src (byteAt fr.payload 0) s.matcher = some k)
    (hc : sequenceCheck (byteAt fr.payload 1) s.matcher.entries[k] = (some n, e)) :
    takeSample fr s = fileFrame fr.payload n e.assign (s.updMatcher fun m => { m with
      entries := m.entries.set k { e with short := if isShort fr.payload e.assign then bump e.short else e.short } }) := by
  have he : (if isShort fr.payload e.assign then { e with short := bump e.short } else e) =
      { e with short := if isShort fr.payload e.assign then bump e.short else e.short } := by split <;> rfl
  simp only [takeSample, hw, hm, hc, he, Bool.not_true, Bool.false_eq_true, if_false]

end Sys2Proof.Machine

namespace Sys2Proof.Proofs
open Sys2Proof.Machine

/-- Settles O28: by the entry that the frame matches, and the sequence check's line that applies. -/
theorem sampleFrames : Obligations.SampleFrames := by
  refine ⟨fun fr s hd ht hs => ⟨fun hw => ?malformed, fun hw hno => ?unmatched, fun k hw hk hfirst last hl =>
    ⟨fun h0 => ?duplicate, fun h129 hrun => ?outOfOrder, fun h129 hrun => ?resync⟩⟩,
    fun fr k s hd ht hs hw hu hunit hstream hfirst m hm => ?accepted⟩
  case malformed =>
    exact next_eq ((arriveFrame_sample hd ht hs).trans (takeSample_malformed hw _))
  case unmatched =>
    refine next_eq ((arriveFrame_sample hd ht hs).trans (takeSample_unmatched hw (matchEntry_none.2 fun k => ?_)))
    simpa [entryHas] using hno k
  case duplicate =>
    have hm := sample_match hk hfirst
    exact next_eq ((arriveFrame_sample hd ht hs).trans (takeSample_discarded hw hm
      (by rw [sample_entry, sequenceCheck_duplicate hl h0])))
  case outOfOrder =>
    have hm := sample_match hk hfirst
    exact next_eq ((arriveFrame_sample hd ht hs).trans (takeSample_discarded hw hm
      (by rw [sample_entry, sequenceCheck_outOfOrder hl h129, if_neg hrun])))
  case resync =>
    have hm := sample_match hk hfirst
    exact next_eq ((arriveFrame_sample hd ht hs).trans (takeSample_discarded hw hm
      (by rw [sample_entry, sequenceCheck_outOfOrder hl h129, if_pos hrun])))
  case accepted =>
    have hmatch := sample_match (fr := fr) ⟨hu, hunit, hstream⟩ fun j hj hh => hfirst j hj hh.2
    have hc : sequenceCheck (byteAt fr.payload 1) s.matcher.entries[k] =
        (some m, { acceptedEntry (byteAt fr.payload 1) s.matcher.entries[k] with
          gaps := if s.matcher.entries[k].last ≠ none ∧ m ≠ 0 then bump s.matcher.entries[k].gaps
            else s.matcher.entries[k].gaps }) := by
      obtain ⟨hl, rfl⟩ | ⟨last, hl, h1, h128, rfl⟩ := hm
      · rw [sequenceCheck_first hl]
        simp only [hl, ne_eq, not_true_eq_false, false_and, if_false]
        rfl
      · rw [sequenceCheck_accepted hl h1 h128, hl]
        simp only [ne_eq, reduceCtorEq, not_false_eq_true, true_and]
    refine ⟨_, next_eq ((arriveFrame_sample hd ht hs).trans (takeSample_accepted hw hmatch
      (by rw [sample_entry, hc]))), ?_, fun c => ?_, ?_⟩
    · rw [fileFrame_frame, isShort_eq]
      rfl
    · rw [fileFrame_chan, sample_chan]
      rfl
    · rw [fileFrame_frame]
      rfl

end Sys2Proof.Proofs

/-! SUPPORT. The trip decision of a Feeder Evaluator (R34), rule by rule: the OPEN request for a main breaker, the
capture trigger, the report and the enqueued TRIP look at no evaluator record but for its settings. -/
namespace Sys2Proof.Machine
variable {s t u : State}

/-! ## OPEN requests (R49) -/

/-- A main breaker's OPEN request is not followed by a guard. -/
theorem askOpen_main_cases (f : Fin 8) (by_ : Requester) (s : State) :
    (((s.dev (.fm f)).addr = none ∨ (s.dev (.fm f)).cmd = .toOpen) ∧ askOpen (.fm f) by_ s = s) ∨
    ((s.dev (.fm f)).addr ≠ none ∧ (s.dev (.fm f)).cmd = .none ∧
      askOpen (.fm f) by_ s = takeCommand (.fm f) .toOpen (some by_) s) ∨
    ((s.dev (.fm f)).addr ≠ none ∧ (s.dev (.fm f)).cmd = .toClose ∧
      askOpen (.fm f) by_ s = takeCommand (.fm f) .toOpen (some by_) (reportWithdrawn (.fm f) s)) := by
  unfold askOpen
  rcases requestOpen_cases (.fm f) by_ s with ⟨ha, e⟩ | ⟨_, hc, e⟩ | ⟨ha, hc, e⟩ | ⟨ha, hc, e⟩ <;> rw [e]
  · exact .inl ⟨.inl ha, rfl⟩
  · exact .inl ⟨.inr hc, rfl⟩
  · exact .inr (.inl ⟨ha, hc, rfl⟩)
  · exact .inr (.inr ⟨ha, hc, rfl⟩)

/-- A main breaker's OPEN request touches the device's record, the Ring Port and the Report Queue. -/
theorem askOpen_main_eq (f : Fin 8) (by_ : Requester) (s : State) : askOpen (.fm f) by_ s =
    { s with
      devs := (askOpen (.fm f) by_ s).devs
      ring := (askOpen (.fm f) by_ s).ring
      reports := (askOpen (.fm f) by_ s).reports } := by
  rcases askOpen_main_cases f by_ s with ⟨_, e⟩ | ⟨_, _, e⟩ | ⟨_, _, e⟩ <;> rw [e]
  · rw [takeCommand_eq]
  · rw [takeCommand_eq]
    rfl

@[simp] theorem guardMain_evs (f : Fin 8) (s : State) : (guardMain f s).evs = s.evs := by
  unfold guardMain
  split
  · rw [lockout_evs, takeCommand_eq]
    rfl
  · rfl

theorem guardMain_testDev (f : Fin 8) (s : State) : (guardMain f s).dev (.ft f) = s.dev (.ft f) := by
  unfold guardMain
  split
  · rw [lockout_dev, takeCommand_other _ _ _ _ _ (by simp)]
    rfl
  · rfl

@[simp] theorem guardCommand_evs (d : Device) (s : State) : (guardCommand d s).evs = s.evs := by
  unfold guardCommand
  split
  · exact guardMain_evs _ s
  · rfl

/-- R56: the guard that follows a command leaves the commanded device. -/
@[simp] theorem guardCommand_dev (d : Device) (s : State) : (guardCommand d s).dev d = s.dev d := by
  unfold guardCommand
  split
  · exact guardMain_testDev _ s
  · rfl

@[simp] theorem takeCommand_evs (d : Device) (c : Command) (by_ : Option Requester) (s : State) :
    (takeCommand d c by_ s).evs = s.evs := by rw [takeCommand_eq]

@[simp] theorem askOpen_evs (d : Device) (by_ : Requester) (s : State) : (askOpen d by_ s).evs = s.evs := by
  unfold askOpen
  rcases requestOpen_cases d by_ s with ⟨_, e⟩ | ⟨_, _, e⟩ | ⟨_, _, e⟩ | ⟨_, _, e⟩ <;> rw [e]
  · simp
  · rw [guardCommand_evs, takeCommand_evs]
    rfl

/-- R49: an assigned device that is asked to open has OPEN outstanding. -/
theorem askOpen_cmd {d : Device} (ha : (s.dev d).addr ≠ none) (by_ : Requester) :
    ((askOpen d by_ s).dev d).cmd = .toOpen := by
  unfold askOpen
  rcases requestOpen_cases d by_ s with ⟨hn, _⟩ | ⟨_, hc, e⟩ | ⟨_, _, e⟩ | ⟨_, _, e⟩
  · exact absurd hn ha
  · rw [e]
    exact hc
  · rw [e, guardCommand_dev, takeCommand_same d _ _ s ha (by decide)]
  · rw [e, guardCommand_dev, takeCommand_same d _ _ (reportWithdrawn d s) ha (by decide)]

/-! ## The class TRIP's occurrences (R156) -/

/-- A report of another class leaves the count of trips. -/
theorem report_trips {code : ReportCode} (h : classOf code ≠ .trip) (src : Source) (cause : Option Nat)
    (value : Option Int) (s : State) : (report code src cause value s).reports.occurred[0] = s.reports.occurred[0] := by
  have hrank : (classRank (classOf code)).val ≠ 0 := by
    generalize classOf code = c at h
    cases c <;> simp_all [classRank]
  rw [report, submit_occurred]
  exact Vector.getElem_set_ne _ _ hrank

theorem askOpen_main_trips (f : Fin 8) (by_ : Requester) (s : State) :
    (askOpen (.fm f) by_ s).reports.occurred[0] = s.reports.occurred[0] := by
  rcases askOpen_main_cases f by_ s with ⟨_, e⟩ | ⟨_, _, e⟩ | ⟨_, _, e⟩ <;> rw [e]
  · rw [takeCommand_eq]
  · rw [takeCommand_eq]
    exact report_trips (by decide) _ _ _ s

theorem trigger_trips (cause : Cause) (src : Source) (s : State) :
    (trigger cause src s).2.reports.occurred[0] = s.reports.occurred[0] := by
  rcases trigger_cases cause src s with ⟨i, _, e⟩ | ⟨i, _, _, e⟩ | ⟨i, _, _, _, e⟩ | ⟨_, _, _, e⟩ <;> rw [e]
  · rfl
  · rfl
  · rfl
  · exact report_trips (by decide) _ _ _ _

/-! ## What looks at no evaluator record -/

section
variable {f : Fin 8} {g : Evaluator → Evaluator}

/-- Two changes of one evaluator's record are one. -/
theorem updEv_updEv (f : Fin 8) (g g' : Evaluator → Evaluator) (s : State) :
    (s.updEv f g).updEv f g' = s.updEv f (g' ∘ g) := by
  simp [State.updEv]

theorem sendCommand_updEv (d : Device) (s : State) : sendCommand d (s.updEv f g) = (sendCommand d s).updEv f g := by
  unfold sendCommand
  simp only [State.updEv_ring, State.updEv_dev]
  split <;> rfl

theorem takeCommand_main_updEv (hg : (g (s.ev f)).settings = (s.ev f).settings) (by_ : Option Requester) :
    takeCommand (.fm f) .toOpen by_ (s.updEv f g) = (takeCommand (.fm f) .toOpen by_ s).updEv f g := by
  have htime : commandTime (.fm f) .toOpen (s.updEv f g) = commandTime (.fm f) .toOpen s := by
    simp only [commandTime, openTime, State.updEv_ev_same, hg]
  unfold takeCommand
  rw [htime, ← sendCommand_updEv]
  rfl

theorem askOpen_main_updEv (hg : (g (s.ev f)).settings = (s.ev f).settings) (by_ : Requester) :
    askOpen (.fm f) by_ (s.updEv f g) = (askOpen (.fm f) by_ s).updEv f g := by
  unfold askOpen requestOpen
  simp only [State.updEv_dev]
  by_cases ha : (s.dev (.fm f)).addr = none
  · simp only [ha, if_true]
  · simp only [ha, if_false]
    cases hc : (s.dev (.fm f)).cmd
    · exact takeCommand_main_updEv hg _
    · rfl
    · exact takeCommand_main_updEv (s := reportWithdrawn (.fm f) s) hg _

theorem trigger_updEv (cause : Cause) (src : Source) : trigger cause src (s.updEv f g) =
    ((trigger cause src s).1, (trigger cause src s).2.updEv f g) := by
  unfold trigger
  simp only [State.updEv_capture]
  split
  · rfl
  · split
    · rfl
    · split <;> rfl

theorem enqueue_updEv (i : Fin 8) (k : Kind) : enqueue i k (s.updEv f g) = (enqueue i k s).updEv f g := by
  unfold enqueue
  simp only [State.updEv_line]
  split
  · rfl
  · split <;> rfl

end

/-! ## The decision (R34) -/

/-- R34: the evaluator of a feeder that trips. -/
def trippedEv (cause : Cause) (value : Int) (e : Evaluator) : Evaluator :=
  { e.clearElements with state := .tripping, pendingTrip := some cause, lastTrip := some (cause, value) }

/-- R34: what a trip decision does outside the evaluator and the sequencer: the OPEN request, the capture trigger, the
report, and the TRIP enqueued. -/
def tripEffects (f : Fin 8) (cause : Cause) (value : Int) (s : State) : State :=
  let answer := trigger cause (.feeder f) (askOpen (.fm f) .feederProtection s)
  let reported := submit .feederTrip (.feeder f) (some (feederTripCause cause)) (some value) answer.1 answer.2
  if cause = .intertrip then reported else enqueue f .trip reported

theorem tripEffects_updEv {f : Fin 8} {g : Evaluator → Evaluator} (hg : (g (s.ev f)).settings = (s.ev f).settings)
    (cause : Cause) (value : Int) :
    tripEffects f cause value (s.updEv f g) = (tripEffects f cause value s).updEv f g := by
  unfold tripEffects
  rw [askOpen_main_updEv hg, trigger_updEv]
  dsimp only
  split
  · rfl
  · rw [← enqueue_updEv]
    rfl

/-- R34: the decision on an evaluator whose record was just changed. -/
theorem tripDecision_updEv {f : Fin 8} {g : Evaluator → Evaluator} (hg : (g (s.ev f)).settings = (s.ev f).settings)
    (cause : Cause) (value : Int) : tripDecision f cause value (s.updEv f g) =
      tellTrip f cause ((tripEffects f cause value s).updEv f (trippedEv cause value ∘ g)) := by
  rw [← tripEffects_updEv (g := trippedEv cause value ∘ g) hg, ← updEv_updEv]
  rfl

/-- What an enqueue makes of the line depends on the line alone. -/
theorem enqueue_line {f : Fin 8} {k : Kind} (h : t.line = s.line) : (enqueue f k t).line = (enqueue f k s).line := by
  unfold enqueue
  rw [h]
  split
  · exact h
  · split
    · exact h
    · simp only [State.updLine_line, h]

theorem enqueue_frame (f : Fin 8) (k : Kind) (s : State) : enqueue f k s = { s with line := (enqueue f k s).line } := by
  rw [enqueue_eq]

/-- The effects touch the device, the Ring Port, the Report Queue, the Capture Unit and the transmit queue. -/
theorem tripEffects_frame (f : Fin 8) (cause : Cause) (value : Int) (s : State) : tripEffects f cause value s =
    { s with
      devs := (askOpen (.fm f) .feederProtection s).devs
      ring := (askOpen (.fm f) .feederProtection s).ring
      capture := (trigger cause (.feeder f) (askOpen (.fm f) .feederProtection s)).2.capture
      reports := (let answer := trigger cause (.feeder f) (askOpen (.fm f) .feederProtection s)
        submit .feederTrip (.feeder f) (some (feederTripCause cause)) (some value) answer.1 answer.2).reports
      line := if cause = .intertrip then s.line else (enqueue f .trip s).line } := by
  have hasked := askOpen_main_eq f .feederProtection s
  unfold tripEffects
  generalize askOpen (.fm f) .feederProtection s = asked at hasked ⊢
  have htriggered := trigger_eq cause (.feeder f) asked
  generalize trigger cause (.feeder f) asked = answer at htriggered ⊢
  obtain ⟨slot, u⟩ := answer
  have hu : u = { s with devs := asked.devs, ring := asked.ring, capture := u.capture, reports := u.reports } :=
    htriggered.trans (by rw [hasked])
  dsimp only
  have hline : (enqueue f .trip (submit .feederTrip (.feeder f) (some (feederTripCause cause)) (some value) slot u)).line =
      (enqueue f .trip s).line := enqueue_line (show u.line = s.line by rw [hu])
  split
  · rw [submit_eq]
    generalize (submit .feederTrip (.feeder f) (some (feederTripCause cause)) (some value) slot u).reports = reports
    rw [hu]
  · rw [enqueue_frame, hline, submit_eq]
    generalize (submit .feederTrip (.feeder f) (some (feederTripCause cause)) (some value) slot u).reports = reports
    rw [hu]

/-- R89: the notice of a trip changes nothing, or the feeder's sequence. -/
theorem tellTrip_cases (f : Fin 8) (cause : Cause) (s : State) :
    tellTrip f cause s = s ∨ ∃ g, tellTrip f cause s = s.updSeq f g := by
  unfold tellTrip
  dsimp only
  split
  · exact .inr ⟨_, rfl⟩
  · exact .inr ⟨_, rfl⟩
  · exact .inr ⟨_, rfl⟩
  · exact .inr ⟨_, rfl⟩
  · split
    · exact .inl rfl
    · exact .inr ⟨_, rfl⟩
  · exact .inl rfl

theorem tellTrip_frame (f : Fin 8) (cause : Cause) (s : State) :
    tellTrip f cause s = { s with seqs := (tellTrip f cause s).seqs } := by
  rcases tellTrip_cases f cause s with e | ⟨_, e⟩ <;> rw [e]
  rfl

theorem tellTrip_other {f g : Fin 8} (h : g ≠ f) (cause : Cause) (s : State) : (tellTrip f cause s).seq g = s.seq g := by
  rcases tellTrip_cases f cause s with e | ⟨_, e⟩ <;> rw [e]
  exact State.updSeq_seq_ne _ _ h

/-- R89: an idle sequence with its main breaker closed notes the trip. -/
theorem tellTrip_idleClosed {f : Fin 8} (h : (s.seq f).state = .idleClosed) (cause : Cause) :
    ((tellTrip f cause s).seq f).noted = some cause := by
  unfold tellTrip
  simp [h]

/-- R34: a trip decision on an evaluator whose record was just changed is a trip of the state before the change. -/
theorem tripDecision_tripped {f : Fin 8} {g : Evaluator → Evaluator} (hg : (g (s.ev f)).settings = (s.ev f).settings)
    (cause : Cause) (value : Int) : Tripped f cause value s (tripDecision f cause value (s.updEv f g)) := by
  rw [tripDecision_updEv hg]
  generalize hv : (tripEffects f cause value s).updEv f (trippedEv cause value ∘ g) = v
  have hframe : v = { tripEffects f cause value s with evs := v.evs } := by rw [← hv]; rfl
  rw [tripEffects_frame] at hframe
  have hev : v.ev f = trippedEv cause value (g (s.ev f)) := by
    rw [← hv, State.updEv_ev_same, tripEffects_frame]
    rfl
  have hother (i : Fin 8) (hi : i ≠ f) : v.ev i = s.ev i := by
    rw [← hv, State.updEv_ev_ne _ _ hi, tripEffects_frame]
    rfl
  have htold := tellTrip_frame f cause v
  have hseq (i : Fin 8) : v.seq i = s.seq i := by rw [hframe]; rfl
  have htev (i : Fin 8) : (tellTrip f cause v).ev i = v.ev i := by rw [htold]; rfl
  unfold Tripped
  simp only [htev, hev]
  refine ⟨rfl, rfl, rfl, rfl, rfl, rfl, rfl, rfl, rfl, fun ha => ?_, ?_, fun hc => ?_, ?_, ?_,
    fun i hi => ⟨hother i hi, ?_⟩, ?_⟩
  · rw [htold, hframe]
    exact askOpen_cmd ha _
  · rw [htold, hframe]
    dsimp only
    rw [submit_occurred]
    exact (Vector.getElem_set_self _).trans (congrArg bump ((trigger_trips ..).trans (askOpen_main_trips ..)))
  · exact tellTrip_idleClosed (by rw [hseq, hc]) cause
  · rw [htold, hframe]
  · rw [htold, hframe]
    exact ⟨rfl, rfl⟩
  · rw [tellTrip_other hi, hseq]
  · rw [htold, hframe]
    exact ⟨rfl, rfl, rfl, rfl⟩

end Sys2Proof.Machine

/-! SUPPORT. State notices (R15): what each consumer of a channel makes of one, and the staleness timer that gives them
(R10). -/
namespace Sys2Proof.Machine
variable {s t u : State}

/-! ## The evaluator (R25, R26) -/

section
variable {f : Fin 8} {ft : FeederSettings} {new : ChanState}

/-- R25: in TRIPPING and DEGRADED, and in OFF out of service or not on a VALID channel, the view alone changes. -/
theorem viewChange_keeps (hs : (s.ev f).settings = some ft) (hn : new ≠ .valid)
    (h : (s.ev f).state = .tripping ∨ (s.ev f).state = .degraded ∨
      ((s.ev f).state = .off ∧ (ft.inService = false ∨ (s.ev f).chanView ≠ .valid))) :
    viewChange f new s = s.updEv f fun e => { e with chanView := new } := by
  unfold viewChange
  rcases h with h | h | ⟨h, hoff⟩
  · simp only [h]
  · simp only [h, hn, if_false]
  · have hc : (inService (s.ev f) && decide ((s.ev f).chanView = .valid) && decide (new ≠ .valid)) = false := by
      rcases hoff with hoff | hoff <;> simp [inService, hs, hoff]
    simp only [h, hc, Bool.false_eq_true, if_false]

/-- R36: the record of an evaluator that becomes DEGRADED. -/
def degradedEv (new : ChanState) (e : Evaluator) : Evaluator :=
  { e.clearElements with chanView := new, state := .degraded }

/-- R36: the report of an evaluator that becomes DEGRADED. -/
theorem reportDegraded_eq (hs : (s.ev f).settings = some ft) :
    reportDegraded f s = report .feederDegraded (.feeder f) none (some ft.chan.val) s := by
  simp [reportDegraded, hs]

/-- R36: an evaluator that settles as DEGRADED reports it. -/
theorem settle_degraded (hs : (s.ev f).settings = some ft) (hd : settledState (s.ev f) = .degraded)
    (h : (s.ev f).state ≠ .degraded) : settle f s =
      report .feederDegraded (.feeder f) none (some ft.chan.val)
        (s.updEv f fun e => { e.clearElements with state := .degraded }) := by
  have hg : (s.updEv f fun e => { e.clearElements with state := settledState e }) =
      s.updEv f fun e => { e.clearElements with state := .degraded } :=
    congrArg (fun st => s.updEv f fun e => { e.clearElements with state := st }) hd
  unfold settle
  simp only [hd, h, ne_eq, not_false_eq_true, decide_true, Bool.and_self, if_true, hg]
  exact reportDegraded_eq (by rw [State.updEv_ev_same]; exact hs)

/-- R25: a view that leaves VALID in OFF settles the evaluator as DEGRADED. -/
theorem viewChange_off (hs : (s.ev f).settings = some ft) (hn : new ≠ .valid) (h : (s.ev f).state = .off)
    (hi : ft.inService = true) (hv : (s.ev f).chanView = .valid) : viewChange f new s =
      report .feederDegraded (.feeder f) none (some ft.chan.val) (s.updEv f (degradedEv new)) := by
  have hviewed : viewChange f new s = settle f (s.updEv f fun e => { e with chanView := new }) := by
    unfold viewChange
    simp [h, inService, hs, hi, hv, hn]
  rw [hviewed, settle_degraded (ft := ft), updEv_updEv]
  · rfl
  · simpa using hs
  · simp [settledState, inService, hs, hi, hn]
  · simp [h]

/-- R26: channel loss in QUIET and RISING with the action HOLD. -/
theorem viewChange_hold (hs : (s.ev f).settings = some ft) (hn : new ≠ .valid)
    (h : (s.ev f).state = .quiet ∨ (s.ev f).state = .rising) (hl : ft.lossAction = .hold) : viewChange f new s =
      report .feederDegraded (.feeder f) none (some ft.chan.val) (s.updEv f (degradedEv new)) := by
  have hviewed : viewChange f new s = reportDegraded f (s.updEv f (degradedEv new)) := by
    unfold viewChange channelLoss
    rcases h with h | h <;>
    · simp only [h, ne_eq, hn, not_false_eq_true, if_true, State.updEv_ev_same, hs, hl, updEv_updEv]
      rfl
  rw [hviewed, reportDegraded_eq (ft := ft)]
  rw [State.updEv_ev_same]
  exact hs

/-- R26: channel loss in QUIET and RISING with the action TRIP. -/
theorem viewChange_trip (hs : (s.ev f).settings = some ft) (hn : new ≠ .valid)
    (h : (s.ev f).state = .quiet ∨ (s.ev f).state = .rising) (hl : ft.lossAction = .trip) : viewChange f new s =
      tripDecision f .channelLoss (lastUsable (s.chan ft.chan)) (s.updEv f fun e => { e with chanView := new }) := by
  unfold viewChange channelLoss
  rcases h with h | h <;>
  · simp only [h, ne_eq, hn, not_false_eq_true, if_true, State.updEv_ev_same, hs, hl, State.updEv_chan]

end

/-! ## The sequencer (R95) -/

section
variable {f : Fin 8} {o : TestOutcome} {r uB uL : Option Nat} {value : Option Int}

theorem testOutcome_seq : ((testOutcome f o r uB uL value s).seq f).state = .testClear ∧
    ((testOutcome f o r uB uL value s).seq f).purpose = some (.outcome o) := by
  unfold testOutcome enterSeq
  simp only [State.updSeq_seq_same, and_self]

theorem testOutcome_evs : (testOutcome f o r uB uL value s).evs = s.evs :=
  askOpen_evs (.ft f) .sequencer (testResult f o r uB uL value s)

theorem testOutcome_rect : (testOutcome f o r uB uL value s).rect = s.rect :=
  askOpen_rect (.ft f) .sequencer (testResult f o r uB uL value s)

/-- R101: the end of a test asks the test contactor to open. -/
theorem testOutcome_cmd (ha : (s.dev (.ft f)).addr ≠ none) :
    ((testOutcome f o r uB uL value s).dev (.ft f)).cmd = .toOpen :=
  askOpen_cmd (s := testResult f o r uB uL value s) ha .sequencer

end

/-! ## The rectifier (R123, R127) -/

theorem rectTrip_tracker (cause : Cause) (value : Int) (s : State) :
    (rectTrip cause value s).rect.tracker = s.rect.tracker := by
  by_cases h : s.rect.state = .off
  · rw [rectTrip_idle (.inl h)]
  · by_cases h' : s.rect.state = .tripped
    · rw [rectTrip_idle (.inr h')]
    · rw [rectTrip_rect h h']
      rfl

/-- R123: a trip in a firing state. -/
theorem rectTrip_firing (h : firing s.rect.state = true) (cause : Cause) (value : Int) :
    (rectTrip cause value s).rect.state = .tripped ∧ (rectTrip cause value s).rect.gateEn = false ∧
      (rectTrip cause value s).rect.lastTrip = some (cause, value) ∧ (rectTrip cause value s).rect.stopStep = 0 := by
  rw [rectTrip_rect (by rintro e; simp [e, firing] at h) (by rintro e; simp [e, firing] at h)]
  exact ⟨rectGo_state .tripped s, rectGo_gateEn .tripped s, rfl, rfl⟩

theorem cancelWait_tracker (cause : Nat) (s : State) : (cancelWait cause s).rect.tracker = s.rect.tracker := by
  unfold cancelWait
  split
  · rfl
  · dsimp only
    split
    · rw [askOpen_rect]
      rfl
    · rfl

theorem leftLocked_tracker (s : State) : (leftLocked s).rect.tracker = s.rect.tracker := by
  unfold leftLocked
  split
  · exact rectTrip_tracker ..
  · exact cancelWait_tracker ..

theorem currentLost_tracker (c : Fin 24) (left : Bool) (s : State) :
    (currentLost c left s).rect.tracker = s.rect.tracker := by
  unfold currentLost stopFailed
  split
  · exact rectTrip_tracker ..
  · split
    · split
      · rfl
      · exact rectTrip_tracker ..
    · rfl

/-- The current channel's notice does nothing to a rectifier that does not fire and is in no stop step. -/
theorem currentLost_idle (h : firing s.rect.state = false) (hs : s.rect.stopStep = 0) (c : Fin 24) (left : Bool) :
    currentLost c left s = s := by
  simp [currentLost, h, hs]

/-- R127: the tracker's record after its channel is lost. -/
def lostTracker (r : Rectifier) : Rectifier := { r with tracker := { r.tracker with state := .unlocked, goodCount := 0 } }

/-- R127: the report of a LOCKED tracker that loses its channel. -/
def reportUnlocked (s : State) : State := report .trackerUnlocked .rectifier (some 3) (some s.rect.tracker.p256) s

theorem trackerChannelLost_locked (h : s.rect.tracker.state = .locked) :
    trackerChannelLost s = leftLocked (reportUnlocked (s.updRect lostTracker)) := by
  unfold trackerChannelLost trackerTo
  simp only [h, if_true]
  rfl

theorem trackerChannelLost_tracker (s : State) : (trackerChannelLost s).rect.tracker =
    { s.rect.tracker with state := .unlocked, goodCount := 0 } := by
  by_cases h : s.rect.tracker.state = .locked
  · rw [trackerChannelLost_locked h, leftLocked_tracker]
    rfl
  · unfold trackerChannelLost trackerTo
    simp only [h, if_false]
    rfl

section
variable {n : StateNotice} {r : RectSettings}

theorem rectStateNotice_kept (h : ¬ (n.old = .valid ∧ n.new ≠ .valid)) : rectStateNotice n s = s := by
  unfold rectStateNotice
  split
  · rfl
  · rw [if_neg]
    simpa using h

/-- R123, R127: a notice out of VALID, by the roles that the settings give the channel. -/
theorem rectStateNotice_left (hs : s.rect.settings = some r) (h : n.old = .valid ∧ n.new ≠ .valid) :
    rectStateNotice n s = (let tracked := if r.uabChan = n.chan then trackerChannelLost s else s
      if r.curChan = n.chan then currentLost n.chan true tracked else tracked) := by
  unfold rectStateNotice
  rw [hs]
  dsimp only
  rw [if_pos]
  simpa using h

end

/-! ## The staleness timer (R10) -/

/-- R10: the record of a channel that goes STALE. -/
def staleRecord (k : Channel) : Channel :=
  { k with state := .stale, staleAt := none, goodRun := 0, staleMoves := bump k.staleMoves }

theorem drainConsumer_of_drained (h : Drained s) (k : Consumer) : drainConsumer k s = s := by
  obtain ⟨_, hboxes, huab, hcur, hbus, hcapture⟩ := h
  cases k with
  | evaluator f => simp [drainConsumer, (hboxes f).1, times]
  | sequencer f => simp [drainConsumer, (hboxes f).2, times]
  | rectifier => simp [drainConsumer, huab, hcur, hbus, times]
  | capture => simp [drainConsumer, hcapture, times]

theorem drainConsumers_of_drained (h : Drained s) (l : List Consumer) : forEach l drainConsumer s = s :=
  forEach_keeps (· = s) drainConsumer l (fun k _ _ e => by rw [e, drainConsumer_of_drained h]) s rfl

theorem stalenessTimerExpiry_eq {c : Fin 24} {d : Nat} (h : (s.chan c).staleAt = some d) :
    exec (.stalenessTimerExpiry c) s = .next (stalenessExpired c (advanceTo d s)) :=
  next_eq (by rw [h]; rfl)

theorem goStale_unused {c : Fin 24} (h : (s.chan c).consumers = []) : goStale c s = s.updChan c staleRecord := by
  unfold goStale channelReport
  simp [State.updChan_chan_same, h]
  rfl

theorem goStale_used {c : Fin 24} (h : (s.chan c).consumers ≠ []) : goStale c s =
    report .channelStale (.channel c) none (some (lastUsable (s.chan c))) (s.updChan c staleRecord) := by
  unfold goStale channelReport
  simp [State.updChan_chan_same, h]
  rfl

/-- R10, R12: the expiry in a RECOVERING or VALID channel. -/
theorem stalenessExpired_eq {c : Fin 24} (h : (s.chan c).state = .recovering ∨ (s.chan c).state = .valid) :
    stalenessExpired c s = finish (stateNotice ⟨c, (s.chan c).state, .stale, .staleness⟩
      (goStale c (forEach (s.chan c).consumers drainConsumer s))) := by
  unfold stalenessExpired
  rw [if_pos (by simpa using h)]

/-- R10: whatever is drained before and told after, the record goes STALE and keeps its last value and history. -/
theorem stalenessExpired_chan {c : Fin 24} (h : (s.chan c).state = .recovering ∨ (s.chan c).state = .valid) :
    ∃ consumers, (stalenessExpired c s).chan c = { staleRecord (s.chan c) with consumers := consumers } := by
  rw [stalenessExpired_eq h]
  have hdrained : RecordsKept s (forEach (s.chan c).consumers drainConsumer s) :=
    (RecordsKept.refl s).forEach fun k u => (drainConsumer_kept k u).records
  generalize forEach (s.chan c).consumers drainConsumer s = u at hdrained
  have hstale : (goStale c u).chan c = staleRecord (u.chan c) := by
    rw [goStale, (Steady.rfl.channelReport (x := ∅)).chan, State.updChan_chan_same]
    rfl
  have hend : RecordsKept (goStale c u)
      (finish (stateNotice ⟨c, (s.chan c).state, .stale, .staleness⟩ (goStale c u))) :=
    (Steady.rfl (x := ∅)).stateNotice.finish.records
  rw [hend.chan c, hstale, hdrained.chan c]
  exact ⟨_, rfl⟩

end Sys2Proof.Machine

namespace Sys2Proof.Proofs
open Sys2Proof.Machine

/-- Settles O31: the expiry by what is drained, made STALE and told; the notices by their consumer. -/
theorem channelGoesStale : Obligations.ChannelGoesStale := by
  refine ⟨fun c d s hd hst => ⟨?record, fun hc hsettled => ?unused, fun hc hsettled hdrained => ?used⟩,
    fun n f ft s hs hn => ⟨fun h => ?kept, fun h hi hv => ?off, fun h hl => ?hold, fun h hl => ?trip⟩,
    fun n f s => ⟨fun h => ?other, fun hm hu ho hn => ?measuring⟩,
    fun n r s hs => ⟨fun hl => ?stays, fun hl hu hc => ?noRole, fun hl hu => ?tracker, fun hl hu hc ht hf hw => ?unlocked,
      fun hl hu ht hf => ?phaseLost, fun hl hu hc hf => ?current⟩,
    fun n s => rfl⟩
  case record =>
    obtain ⟨_, e⟩ := stalenessExpired_chan (s := advanceTo d s) (c := c) (by simpa using hst)
    refine ⟨stalenessExpired c (advanceTo d s), stalenessTimerExpiry_eq hd, ?_⟩
    rw [e, advanceTo_chan]
    exact ⟨rfl, rfl, rfl, rfl, rfl, rfl⟩
  case unused =>
    refine (stalenessTimerExpiry_eq hd).trans (next_eq ?_)
    rw [stalenessExpired_eq (by simpa using hst), advanceTo_chan, hc, forEach_nil, goStale_unused (by simpa using hc),
      stateNotice]
    simp only [State.updChan_chan_same, staleRecord, advanceTo_chan, hc, forEach_nil]
    exact finish_of_settled (by simpa [Settled] using hsettled)
  case used =>
    refine (stalenessTimerExpiry_eq hd).trans (next_eq ?_)
    have hdrained' : Drained (advanceTo d s) := by simpa [Drained] using hdrained
    rw [stalenessExpired_eq (by simpa using hst), drainConsumers_of_drained hdrained', goStale_used (by simpa using hc),
      finish_of_settled, stateNotice]
    · simp only [advanceTo_chan]
      have hlist : ((report .channelStale (.channel c) none (some (lastUsable (s.chan c)))
          ((advanceTo d s).updChan c staleRecord)).chan c).consumers = (s.chan c).consumers := by
        rw [report_eq]
        exact (congrArg Channel.consumers (State.updChan_chan_same ..)).trans
          (show ((advanceTo d s).chan c).consumers = _ by rw [advanceTo_chan])
      rw [hlist]
      rfl
    · exact (Steady.rfl (x := ∅)).report.stateNotice.target.trans (by simpa [Settled] using hsettled)
  case kept => exact viewChange_keeps hs hn h
  case off => exact viewChange_off hs hn h hi hv
  case hold => exact viewChange_hold hs hn h hl
  case trip =>
    show Tripped f .channelLoss _ s (viewChange f n.new s)
    rw [viewChange_trip hs hn h hl]
    exact tripDecision_tripped rfl _ _
  case other =>
    show sequencerStateNotice f n s = s
    unfold sequencerStateNotice
    rw [if_neg]
    simp only [Bool.and_eq_true, Bool.or_eq_true, decide_eq_true_eq]
    rintro ⟨⟨⟨hm, hu⟩, ho⟩, hn⟩
    rcases h with h | h | h | h
    · exact h hm
    · exact h hu
    · exact h ho
    · exact hn h
  case measuring =>
    have htold : noticeTo n (.sequencer f) s = testOutcome f .measurementLost none none none none s := by
      show sequencerStateNotice f n s = _
      unfold sequencerStateNotice
      rw [if_pos]
      · rfl
      · simpa [hm, ho, hn] using hu
    rw [htold]
    exact ⟨testOutcome_seq.1, testOutcome_seq.2, testOutcome_cmd, testOutcome_evs, testOutcome_rect⟩
  case stays => exact rectStateNotice_kept hl
  case noRole =>
    show rectStateNotice n s = s
    rw [rectStateNotice_left hs hl]
    simp [hu, hc]
  case tracker =>
    show (rectStateNotice n s).rect.tracker = _
    rw [rectStateNotice_left hs hl, if_pos hu]
    dsimp only
    split
    · rw [currentLost_tracker, trackerChannelLost_tracker]
    · rw [trackerChannelLost_tracker]
  case unlocked =>
    show (rectStateNotice n s).reports = _
    rw [rectStateNotice_left hs hl, if_pos hu]
    dsimp only
    rw [if_neg hc, trackerChannelLost_locked ht, leftLocked, if_neg, cancelWait, if_pos]
    · rfl
    · exact hw
    · exact Bool.eq_false_iff.1 hf
  case phaseLost =>
    have htrip : trackerChannelLost s = rectTrip .phaseLost s.rect.tracker.p256 (reportUnlocked (s.updRect lostTracker)) := by
      rw [trackerChannelLost_locked ht, leftLocked, if_pos]
      · rfl
      · exact hf
    obtain ⟨hstate, hgate, hlast, hstop⟩ := rectTrip_firing (s := reportUnlocked (s.updRect lostTracker)) hf .phaseLost
      s.rect.tracker.p256
    have htold : noticeTo n .rectifier s = trackerChannelLost s := by
      show rectStateNotice n s = _
      rw [rectStateNotice_left hs hl, if_pos hu]
      dsimp only
      split
      · rw [htrip, currentLost_idle (by rw [hstate]; rfl) hstop]
      · rfl
    rw [htold, htrip]
    exact ⟨hstate, hgate, hlast⟩
  case current =>
    have htold : noticeTo n .rectifier s = rectTrip .currentChannel n.chan.val s := by
      show rectStateNotice n s = _
      rw [rectStateNotice_left hs hl, if_neg hu]
      simp [hc, currentLost, hf]
    obtain ⟨hstate, hgate, hlast, _⟩ := rectTrip_firing hf .currentChannel n.chan.val
    rw [htold]
    exact ⟨hstate, hgate, hlast⟩

end Sys2Proof.Proofs

/-! SUPPORT. A switch-over (section 7.4): what each holder of settings has adopted, and under which mark. -/
namespace Sys2Proof.Machine
variable {x : Set Holder} {s t u : State} {bank : List Byte}

/-! ## Holders and their marks -/

/-- R149: the mark under which a holder's adoption stands. -/
def Holder.mark : Holder → Fin 13
  | .evaluator f => feederMark f
  | .sequencer f => feederMark f
  | .device (.fm f) => feederMark f
  | .device (.ft f) => feederMark f
  | .device .dcm => 9
  | .device .acm => 9
  | .rectifier => 9
  | .line => 10
  | .capture => 12

/-- What a holder has adopted is the same in both states. -/
def Holder.Agrees (s t : State) : Holder → Prop
  | .evaluator f => (t.ev f).settings = (s.ev f).settings
  | .sequencer f => (t.seq f).plan = (s.seq f).plan
  | .device d => (t.dev d).addr = (s.dev d).addr
  | .rectifier => t.rect.settings = s.rect.settings
  | .line => t.line.table = s.line.table
  | .capture => t.capture.settings = s.capture.settings

/-- The address that a bank gives a device. -/
def addressOf (bank : List Byte) : Device → Byte × Byte
  | .fm f => ((feederOf bank f).mainUnit, (feederOf bank f).mainElem)
  | .ft f => ((feederOf bank f).testUnit, (feederOf bank f).testElem)
  | .dcm => ((rectOf bank).dcmUnit, (rectOf bank).dcmElem)
  | .acm => ((rectOf bank).acmUnit, (rectOf bank).acmElem)

/-- A holder has adopted a bank (R40, R80, R108, R135, R179). -/
def Holder.Adopted (bank : List Byte) (t : State) : Holder → Prop
  | .evaluator f => (t.ev f).settings = some (feederOf bank f)
  | .sequencer f => (t.seq f).plan = some (planOf bank f)
  | .device d => (t.dev d).addr = some (addressOf bank d)
  | .rectifier => t.rect.settings = some (rectOf bank)
  | .line => t.line.table = some (lineTableOf bank)
  | .capture => t.capture.settings = some (captureSettingsOf bank)

variable {h : Holder}

theorem Holder.Agrees.trans (hst : h.Agrees s t) (htu : h.Agrees t u) : h.Agrees s u := by
  cases h <;> exact Eq.trans htu hst

/-- An adoption stays while what the holder has adopted is the same. -/
theorem Holder.Adopted.of_agrees (hs : h.Adopted bank s) (hst : h.Agrees s t) : h.Adopted bank t := by
  cases h <;> exact Eq.trans hst hs

protected theorem SetupKept.agrees (hst : SetupKept x s t) (hx : h ∉ x) : h.Agrees s t := by
  cases h with
  | evaluator f => exact hst.settings f hx
  | sequencer f => exact hst.plan f hx
  | device d => exact hst.addr d hx
  | rectifier => exact hst.rect hx
  | line => exact hst.table hx
  | capture => exact hst.capture hx

/-- What a holder has adopted stays through a steady operation. -/
protected theorem Steady.adopted (hst : Steady x s t) (hx : h ∉ x) (hs : h.Adopted bank s) : h.Adopted bank t :=
  hs.of_agrees (hst.toSetupKept.agrees hx)

theorem feederMark_injective {f g : Fin 8} (hfg : feederMark f = feederMark g) : f = g := by
  have := congrArg Fin.val hfg
  simp only [feederMark] at this
  omega

theorem ne_feederMark {k : Fin 13} (hk : 9 ≤ k) (f : Fin 8) : k ≠ feederMark f := by
  intro e
  have := congrArg Fin.val e
  simp only [feederMark] at this
  omega

/-- R40: feeder f's holders are those under its mark. -/
theorem mem_feederHolders {f : Fin 8} : h ∈ feederHolders f ↔ h.mark = feederMark f := by
  have hmark (g : Fin 8) : feederMark g = feederMark f ↔ g = f := ⟨feederMark_injective, fun e => by rw [e]⟩
  cases h with
  | device d => cases d <;> simp [feederHolders, Holder.mark, hmark, ne_feederMark]
  | evaluator g => simp [feederHolders, Holder.mark, hmark]
  | sequencer g => simp [feederHolders, Holder.mark, hmark]
  | rectifier => simp [feederHolders, Holder.mark, ne_feederMark]
  | line => simp [feederHolders, Holder.mark, ne_feederMark]
  | capture => simp [feederHolders, Holder.mark, ne_feederMark]

/-- R80, R135, R179: marks 9, 10 and 12 stand for the rectifier's holders, the line and the Capture Unit. -/
theorem mark_eq_iff : (h.mark = 9 ↔ h ∈ rectHolders) ∧ (h.mark = 10 ↔ h = .line) ∧ (h.mark = 12 ↔ h = .capture) := by
  cases h with
  | device d => cases d <;> simp [rectHolders, Holder.mark, (ne_feederMark _ _).symm]
  | evaluator g => simp [rectHolders, Holder.mark, (ne_feederMark _ _).symm]
  | sequencer g => simp [rectHolders, Holder.mark, (ne_feederMark _ _).symm]
  | rectifier => simp [rectHolders, Holder.mark]
  | line => simp [rectHolders, Holder.mark]
  | capture => simp [rectHolders, Holder.mark]

theorem mark_eq_rect : h.mark = 9 ↔ h ∈ rectHolders := mark_eq_iff.1

theorem mark_eq_line : h.mark = 10 ↔ h = .line := mark_eq_iff.2.1

theorem mark_eq_capture : h.mark = 12 ↔ h = .capture := mark_eq_iff.2.2

/-! ## Each holder adopts -/

theorem evaluatorAdopt_settings (f : Fin 8) (ft : FeederSettings) (settles : Bool) (s : State) :
    ((evaluatorAdopt f ft settles s).ev f).settings = some ft := by
  have hset (g : Evaluator → Evaluator) {u : State} (hu : Steady ∅ (s.updEv f g) u)
      (hg : (g (s.ev f)).settings = some ft) : (u.ev f).settings = some ft := by
    rw [hu.settings f (Set.notMem_empty _), State.updEv_ev_same, hg]
  exact hset _ (.ite (.ite Steady.rfl.settle.updEv Steady.rfl.settle) .rfl) rfl

theorem readdress_addr (d : Device) (a : Byte × Byte) (s : State) : ((readdress d a s).dev d).addr = some a := by
  have hmoved : ((s.updDev d fun r => { r with addr := some a, pos := .unknown, ageAt := none }).dev d).addr = some a := by
    rw [State.updDev_dev_same]
  unfold readdress
  dsimp only
  split
  · assumption
  · exact (Steady.toSetupKept (x := ∅) (.ite .rfl (.ite Steady.rfl.sendCommand Steady.rfl.updDev))).addr d
      (Set.notMem_empty _) |>.trans hmoved

theorem takeAddress_addr (d : Device) (a : Byte × Byte) (s : State) : ((takeAddress d a s).dev d).addr = some a := by
  have hsteady : Steady ∅ (readdress d a s) (takeAddress d a s) := .ite .rfl Steady.rfl.giveNotice.guardPosition
  rw [hsteady.addr d (Set.notMem_empty _), readdress_addr]

/-- R40: feeder f's holders adopt. -/
theorem adoptFeeder_adopted (settles : Bool) (bank : List Byte) {f : Fin 8} (hh : h ∈ feederHolders f) (s : State) :
    h.Adopted bank (adoptFeeder settles bank f s) := by
  have hev := evaluatorAdopt_settings f (feederOf bank f) settles s
  generalize hu : evaluatorAdopt f (feederOf bank f) settles s = u at hev
  have hseq : ((sequencerAdopt f (planOf bank f) u).seq f).plan = some (planOf bank f) := by
    rw [sequencerAdopt, State.updSeq_seq_same]
  have hmain := takeAddress_addr (.fm f) (addressOf bank (.fm f)) (sequencerAdopt f (planOf bank f) u)
  have hends : adoptFeeder settles bank f s = (sequencerAdopt f (planOf bank f) u
      |> takeAddress (.fm f) (addressOf bank (.fm f)) |> takeAddress (.ft f) (addressOf bank (.ft f))) := by
    rw [← hu]
    rfl
  rw [hends]
  rcases hh with rfl | rfl | rfl | rfl
  · exact (((Steady.rfl (x := {.sequencer f, .device (.fm f), .device (.ft f)})).sequencerAdopt (by simp)).takeAddress
      (by simp)).takeAddress (by simp) |>.adopted (by simp) hev
  · exact ((Steady.rfl (x := {.device (.fm f), .device (.ft f)})).takeAddress (by simp)).takeAddress (by simp)
      |>.adopted (by simp) hseq
  · exact (Steady.rfl (x := {.device (.ft f)})).takeAddress (by simp) |>.adopted (by simp) hmain
  · exact takeAddress_addr ..

/-- R135: the rectifier's holders adopt. -/
theorem adoptRect_adopted (bank : List Byte) (hh : h ∈ rectHolders) (s : State) :
    h.Adopted bank (adoptRect bank s) := by
  rw [adoptRect_eq]
  rcases hh with rfl | rfl | rfl
  · have hset : (clampAlpha (rectOf bank) s).rect.settings = some (rectOf bank) := rfl
    exact ((Steady.rfl (x := {.device .dcm, .device .acm})).rectChannelsMove.takeAddress (by simp)).takeAddress (by simp)
      |>.adopted (by simp) hset
  · exact (Steady.rfl (x := {.device .acm})).takeAddress (by simp) |>.adopted (by simp) (takeAddress_addr ..)
  · exact takeAddress_addr ..

/-- R80: the line adopts. -/
theorem adoptLine_adopted (bank : List Byte) (s : State) : Holder.line.Adopted bank (adoptLine bank s) := by
  have hset : (s.updLine fun l => { l with table := some (lineTableOf bank) }).line.table = some (lineTableOf bank) := rfl
  unfold adoptLine adoptLineTable
  dsimp only
  split
  · exact hset
  · exact Steady.adopted (x := ∅) (.ite Steady.rfl.becomeFree .rfl) (Set.notMem_empty _) hset

/-- R179: the Capture Unit adopts. -/
theorem adoptCapture_adopted (bank : List Byte) (s : State) : Holder.capture.Adopted bank (adoptCapture bank s) :=
  armIfPossible_settings _

/-! ## An adoption under a mark -/

/-- An adoption of a bank under mark k: the holders under the mark adopt, the others and the bank store are as they
were. -/
structure AdoptsUnder (k : Fin 13) (bank : List Byte) (adopt : State → State) : Prop where
  banks : ∀ u, (adopt u).banks = u.banks
  others : ∀ u (h : Holder), h.mark ≠ k → h.Agrees u (adopt u)
  own : ∀ u (h : Holder), h.mark = k → h.Adopted bank (adopt u)

theorem adoptFeeder_under (settles : Bool) (bank : List Byte) (f : Fin 8) :
    AdoptsUnder (feederMark f) bank (adoptFeeder settles bank f) where
  banks _ := (Steady.rfl.adoptFeeder subset_rfl).banks
  others _ _ hk := (Steady.rfl.adoptFeeder subset_rfl).toSetupKept.agrees fun hh => hk (mem_feederHolders.1 hh)
  own u _ hk := adoptFeeder_adopted settles bank (mem_feederHolders.2 hk) u

theorem adoptRect_under (bank : List Byte) : AdoptsUnder 9 bank (adoptRect bank) where
  banks _ := (Steady.rfl.adoptRect subset_rfl).banks
  others _ _ hk := (Steady.rfl.adoptRect subset_rfl).toSetupKept.agrees fun hh => hk (mark_eq_rect.2 hh)
  own u _ hk := adoptRect_adopted bank (mark_eq_rect.1 hk) u

theorem adoptLine_under (bank : List Byte) : AdoptsUnder 10 bank (adoptLine bank) where
  banks _ := (Steady.rfl.adoptLine (Set.mem_singleton _)).banks
  others _ _ hk := (Steady.rfl.adoptLine (Set.mem_singleton _)).toSetupKept.agrees fun hh => hk (mark_eq_line.2 hh)
  own u _ hk := mark_eq_line.1 hk ▸ adoptLine_adopted bank u

theorem adoptCapture_under (bank : List Byte) : AdoptsUnder 12 bank (adoptCapture bank) where
  banks _ := (Steady.rfl.adoptCapture (Set.mem_singleton _)).banks
  others _ _ hk := (Steady.rfl.adoptCapture (Set.mem_singleton _)).toSetupKept.agrees fun hh => hk (mark_eq_capture.2 hh)
  own u _ hk := mark_eq_capture.1 hk ▸ adoptCapture_adopted bank u

end Sys2Proof.Machine

/-! SUPPORT. The course of a switch-over (R148 to R150): the marks, the adoptions under them, and its completion. -/
namespace Sys2Proof.Machine
variable {s t u : State} {bk : BankId} {k : Fin 13}

/-! ## The marks -/

theorem any_mark {mask : Vector Bool 13} : mask.toList.any id = true ↔ ∃ k : Fin 13, mask[k] = true := by
  rw [List.any_eq_true]
  constructor
  · rintro ⟨b, hb, rfl⟩
    obtain ⟨i, hi, e⟩ := Vector.mem_iff_getElem.1 (Vector.mem_toList_iff.1 hb)
    exact ⟨⟨i, hi⟩, e⟩
  · rintro ⟨k, hk⟩
    exact ⟨true, Vector.mem_toList_iff.2 (Vector.mem_iff_getElem.2 ⟨k.val, k.isLt, hk⟩), rfl⟩

/-- The number of marks that stand. -/
def marks (s : State) : Nat := s.banks.mask.count true

theorem count_set_false {mask : Vector Bool 13} (h : mask[k] = true) : (mask.set k false).count true < mask.count true := by
  have hmem : true ∈ mask := Vector.mem_iff_getElem.2 ⟨k.val, k.isLt, h⟩
  have h' : mask[k.val] = true := h
  rw [Vector.count_set]
  simpa [h'] using hmem

/-- R150: completing a switch-over leaves the marks and the banks' bytes. -/
theorem completeSwitch_banks (bk : BankId) (s : State) : (completeSwitch bk s).banks = { s.banks with
    active := some bk
    target := none
    stateA := if bk = .a then .active else if s.banks.active = some .a then .valid else s.banks.stateA
    stateB := if bk = .b then .active else if s.banks.active = some .b then .valid else s.banks.stateB } := by
  unfold completeSwitch
  rw [report_eq]
  cases bk <;> rcases h : s.banks.active with _ | (_ | _) <;> simp [setBankState, State.updBanks]

/-- The states of the banks once a switch-over to bk is complete: bk ACTIVE, and the bank that was active VALID. -/
def switchedState (bk : BankId) (s : State) (i : BankId) : BankState :=
  if bk = i then .active else if s.banks.active = some i then .valid else bankState i s

theorem bankState_completeSwitch (bk i : BankId) (s : State) :
    bankState i (completeSwitch bk s) = switchedState bk s i := by
  unfold bankState switchedState
  rw [completeSwitch_banks]
  cases i <;> rfl

/-- R150: the end of a mark, and of the switch-over with the last one. -/
theorem clearMark_underway (h : s.banks.target = some bk) (k : Fin 13) : clearMark k s =
    if ∃ j : Fin 13, (s.banks.mask.set k false)[j] = true then s.updBanks fun b => { b with mask := b.mask.set k false }
    else completeSwitch bk (s.updBanks fun b => { b with mask := b.mask.set k false }) := by
  unfold clearMark
  simp only [h, ← any_mark]
  rfl

@[simp] theorem clearMark_mask (k : Fin 13) (s : State) : (clearMark k s).banks.mask = s.banks.mask.set k false := by
  cases h : s.banks.target with
  | none => simp [clearMark, h]
  | some bk =>
    rw [clearMark_underway h]
    split
    · rfl
    · rw [completeSwitch_banks]
      rfl

/-! ## Where a switch-over stands -/

/-- R148: a switch-over to bk, begun in s, is pending: a mark is left, and the banks are in the states they had. -/
structure Underway (bk : BankId) (s t : State) : Prop where
  target : t.banks.target = some bk
  active : t.banks.active = s.banks.active
  states : ∀ i, bankState i t = bankState i s
  marked : ∃ k : Fin 13, t.banks.mask[k] = true

/-- R150: it is complete: no mark is left, and bk is the active bank. -/
structure Switched (bk : BankId) (s t : State) : Prop where
  target : t.banks.target = none
  active : t.banks.active = some bk
  states : ∀ i, bankState i t = switchedState bk s i
  clear : ∀ k : Fin 13, t.banks.mask[k] = false

/-- R148 to R150: from the start of a switch-over on, each holder has adopted the bank or has its mark and its old
settings, and the switch-over is pending while a mark is left. -/
structure Switching (bk : BankId) (s t : State) : Prop where
  bankA : t.banks.bankA = s.banks.bankA
  bankB : t.banks.bankB = s.banks.bankB
  old : ∀ h : Holder, t.banks.mask[h.mark] = true → h.Agrees s t
  new : ∀ h : Holder, t.banks.mask[h.mark] = false → h.Adopted (bankBytes bk s) t
  course : Underway bk s t ∨ Switched bk s t

protected theorem Switching.bankBytes (h : Switching bk s t) (i : BankId) :
    bankBytes i t = bankBytes i s := by
  cases i
  · exact h.bankA
  · exact h.bankB

protected theorem Switching.underway {i : BankId} (h : Switching bk s t) (ht : t.banks.target = some i) :
    Underway bk s t ∧ i = bk := by
  rcases h.course with hu | hs
  · exact ⟨hu, Option.some.inj (ht.symm.trans hu.target)⟩
  · rw [hs.target] at ht
    exact absurd ht (by simp)

/-- A mark that is cleared ends, or goes on with, a switch-over. -/
theorem Underway.clearMark (h : Underway bk s t) (k : Fin 13) : Underway bk s (clearMark k t) ∨ Switched bk s (clearMark k t) := by
  rw [clearMark_underway h.target]
  split
  · next hm => exact .inl ⟨h.target, h.active, h.states, hm⟩
  · next hm =>
    refine .inr ⟨?_, ?_, fun i => ?_, fun j => ?_⟩
    · rw [completeSwitch_banks]
    · rw [completeSwitch_banks]
    · have hactive : (t.updBanks fun b => { b with mask := b.mask.set k false }).banks.active = s.banks.active := h.active
      rw [bankState_completeSwitch, switchedState, switchedState, hactive, ← h.states i]
      rfl
    · rw [completeSwitch_banks]
      exact Bool.eq_false_iff.2 fun e => hm ⟨j, e⟩

@[simp] theorem clearMark_bankBytes (k : Fin 13) (i : BankId) (s : State) :
    bankBytes i (clearMark k s) = bankBytes i s := by
  have hbanks : (clearMark k s).banks.bankA = s.banks.bankA ∧ (clearMark k s).banks.bankB = s.banks.bankB := by
    cases h : s.banks.target with
    | none => simp [clearMark, h]
    | some bk =>
      rw [clearMark_underway h]
      split
      · exact ⟨rfl, rfl⟩
      · rw [completeSwitch_banks]
        exact ⟨rfl, rfl⟩
  cases i
  · exact hbanks.1
  · exact hbanks.2

/-- A mark is nobody's settings. -/
theorem clearMark_agrees (k : Fin 13) (s : State) (h : Holder) : h.Agrees s (clearMark k s) := by
  rw [clearMark_eq]
  cases h <;> exact rfl

theorem getElem_set_false {mask : Vector Bool 13} {j : Fin 13} :
    (mask.set k false)[j] = if k = j then false else mask[j] := by
  simp [Vector.getElem_set, Fin.ext_iff]

/-- R149: a holder's mark is cleared once it has adopted. -/
theorem Switching.clearMark {adopt : State → State} (h : Switching bk s t) (ht : t.banks.target = some bk)
    (ha : AdoptsUnder k (bankBytes bk s) adopt) : Switching bk s (clearMark k (adopt t)) := by
  have hbytes (i : BankId) : bankBytes i (Machine.clearMark k (adopt t)) = bankBytes i s := by
    rw [clearMark_bankBytes, ← h.bankBytes i]
    cases i <;> simp only [Machine.bankBytes, ha.banks]
  have hmask (j : Fin 13) : (Machine.clearMark k (adopt t)).banks.mask[j] = if k = j then false else t.banks.mask[j] := by
    rw [clearMark_mask, ha.banks, getElem_set_false]
  have hunderway : Underway bk s (adopt t) := by
    obtain ⟨htarget, hactive, hstates, hmarked⟩ := (h.underway ht).1
    rw [← ha.banks t] at htarget hactive hmarked
    exact ⟨htarget, hactive, fun i => by rw [← hstates i]; cases i <;> simp only [bankState, ha.banks], hmarked⟩
  refine ⟨hbytes .a, hbytes .b, fun i hi => ?_, fun i hi => ?_, hunderway.clearMark k⟩
  · rw [hmask] at hi
    by_cases hk : k = i.mark
    · simp [hk] at hi
    · rw [if_neg hk] at hi
      exact (h.old i hi).trans ((ha.others t i (Ne.symm hk)).trans (clearMark_agrees _ _ _))
  · refine Holder.Adopted.of_agrees ?_ (clearMark_agrees _ _ _)
    rw [hmask] at hi
    by_cases hk : k = i.mark
    · exact ha.own t i hk.symm
    · rw [if_neg hk] at hi
      exact (h.new i hi).of_agrees (ha.others t i (Ne.symm hk))

/-- R149: a look at one consumer's safe point goes on with the switch-over. -/
theorem Switching.adoptIf {safe : State → Bool} {adopt : List Byte → State → State} (h : Switching bk s t)
    (ha : AdoptsUnder k (bankBytes bk s) (adopt (bankBytes bk s))) : Switching bk s (adoptIf k safe adopt t) := by
  rcases adoptIf_cases k safe adopt t with e | ⟨i, ht, _, _, e⟩ <;> rw [e]
  · exact h
  · obtain rfl := (h.underway ht).2
    rw [h.bankBytes i]
    exact h.clearMark ht ha

theorem Switching.forEach {α : Type} {l : List α} {f : α → State → State} (h : Switching bk s t)
    (hf : ∀ a u, Switching bk s u → Switching bk s (f a u)) : Switching bk s (forEach l f t) :=
  forEach_keeps (Switching bk s) f l (fun a _ u => hf a u) t h

/-- The consumers but the streams and the report settings adopt in turn, each where its look finds it safe. -/
def adoptRound (feeder : Fin 8 → State → Bool) (rect line capture : State → Bool) (s : State) : State :=
  forEach feeders (fun f => adoptIf (feederMark f) (feeder f) (fun bank => adoptFeeder true bank f)) s
  |> adoptIf 9 rect adoptRect |> adoptIf 10 line adoptLine |> adoptIf 12 capture adoptCapture

theorem sweepOnce_eq (s : State) : sweepOnce s = adoptRound feederSafe rectSafe lineSafe captureSafe s := rfl

theorem adoptTheRest_eq (s : State) : adoptTheRest true s =
    adoptRound (fun _ _ => true) (fun _ => true) (fun _ => true) (fun _ => true) s := rfl

variable {feeder : Fin 8 → State → Bool} {rect line capture : State → Bool}

theorem Switching.adoptRound (h : Switching bk s t) : Switching bk s (adoptRound feeder rect line capture t) :=
  (((h.forEach fun f _ hu => hu.adoptIf (adopt := fun bank => adoptFeeder true bank f)
    (adoptFeeder_under true _ f)).adoptIf (adoptRect_under _)).adoptIf (adoptLine_under _)).adoptIf (adoptCapture_under _)

theorem Switching.sweeps (n : Nat) (h : Switching bk s t) : Switching bk s (sweeps n t) :=
  sweeps_keeps (Switching bk s) (fun _ hu => hu.adoptRound) n t h

/-! ## The marks fall -/

/-- What is left of the marks under an adoption that leaves the bank store: with the mark standing, a target and a safe
point one less, and otherwise nothing happens. -/
theorem adoptIf_marks {safe : State → Bool} {adopt : List Byte → State → State}
    (ha : ∀ bank u, (adopt bank u).banks = u.banks) (s : State) :
    (adoptIf k safe adopt s = s ∧ ¬ (s.banks.target ≠ none ∧ s.banks.mask[k] = true ∧ safe s = true)) ∨
      (s.banks.mask[k] = true ∧ (adoptIf k safe adopt s).banks.mask = s.banks.mask.set k false) := by
  unfold adoptIf
  cases ht : s.banks.target with
  | none => simp
  | some i =>
    by_cases hc : (marked k s && safe s) = true
    · refine .inr ?_
      simp only [Bool.and_eq_true] at hc
      exact ⟨hc.1, by simp [hc, ha]⟩
    · refine .inl ⟨by simp [hc], fun h => hc ?_⟩
      simp only [Bool.and_eq_true]
      exact h.2

/-- The marks of u are of those of s. -/
def MarksFall (s t : State) : Prop := ∀ j : Fin 13, s.banks.mask[j] = false → t.banks.mask[j] = false

/-- Nothing happens, or a mark less stands. -/
def StillOrFewer (s t : State) : Prop := t = s ∨ marks t < marks s

section
variable {safe : State → Bool} {adopt : List Byte → State → State} (ha : ∀ bank u, (adopt bank u).banks = u.banks)
include ha

theorem adoptIf_marksFall (s : State) : MarksFall s (adoptIf k safe adopt s) := by
  intro j hj
  rcases adoptIf_marks ha s with ⟨e, _⟩ | ⟨_, e⟩ <;> rw [e]
  · exact hj
  · rw [getElem_set_false, hj, ite_self]

theorem adoptIf_stillOrFewer (s : State) : StillOrFewer s (adoptIf k safe adopt s) := by
  rcases adoptIf_marks ha s with ⟨e, _⟩ | ⟨hm, e⟩
  · exact .inl e
  · refine .inr ?_
    rw [marks, e]
    exact count_set_false hm

/-- A consumer that a look leaves as it was, with its mark, is away from its safe point. -/
theorem unsafe_of_adoptIf_still (hs : adoptIf k safe adopt s = s) (ht : s.banks.target ≠ none)
    (hm : s.banks.mask[k] = true) : safe s = false := by
  rcases adoptIf_marks ha s with ⟨_, hn⟩ | ⟨_, e⟩
  · exact Bool.eq_false_iff.2 fun h => hn ⟨ht, hm, h⟩
  · have hlt := count_set_false hm
    rw [hs] at e
    rw [← e] at hlt
    exact absurd hlt (lt_irrefl _)

/-- R148: an adoption whatever the state clears its mark. -/
theorem adoptAlways_clears (h : Switching bk s t) : (adoptAlways k adopt t).banks.mask[k] = false := by
  rcases adoptIf_marks (safe := fun _ => true) ha t with ⟨e, hn⟩ | ⟨_, e⟩
  · rw [adoptAlways, e]
    rcases h.course with hu | hs
    · exact Bool.eq_false_iff.2 fun hm => hn ⟨by simp [hu.target], hm, rfl⟩
    · exact hs.clear k
  · rw [adoptAlways, e, getElem_set_false, if_pos rfl]

end

protected theorem MarksFall.trans (h : MarksFall s t) (h' : MarksFall t u) : MarksFall s u := fun j hj => h' j (h j hj)

theorem forEach_marksFall {α : Type} {f : α → State → State} (hf : ∀ a u, MarksFall u (f a u)) (l : List α) (s : State) :
    MarksFall s (forEach l f s) :=
  forEach_keeps (MarksFall s) f l (fun a _ u hu => hu.trans (hf a u)) s fun _ hj => hj

theorem feederLook_marksFall (safe : State → Bool) (f : Fin 8) (s : State) :
    MarksFall s (adoptIf (feederMark f) safe (fun bank => adoptFeeder true bank f) s) :=
  adoptIf_marksFall (fun bank u => (adoptFeeder_under true bank f).banks u) s

theorem rectLook_marksFall (safe : State → Bool) (s : State) : MarksFall s (adoptIf 9 safe adoptRect s) :=
  adoptIf_marksFall (fun bank u => (adoptRect_under bank).banks u) s

theorem lineLook_marksFall (safe : State → Bool) (s : State) : MarksFall s (adoptIf 10 safe adoptLine s) :=
  adoptIf_marksFall (fun bank u => (adoptLine_under bank).banks u) s

theorem captureLook_marksFall (safe : State → Bool) (s : State) : MarksFall s (adoptIf 12 safe adoptCapture s) :=
  adoptIf_marksFall (fun bank u => (adoptCapture_under bank).banks u) s

theorem adoptRound_marksFall (s : State) : MarksFall s (adoptRound feeder rect line capture s) :=
  (((forEach_marksFall (fun f u => feederLook_marksFall (feeder f) f u) feeders s).trans
    (rectLook_marksFall rect _)).trans (lineLook_marksFall line _)).trans (captureLook_marksFall capture _)

theorem sweeps_marksFall (n : Nat) (s : State) : MarksFall s (sweeps n s) :=
  sweeps_keeps (MarksFall s) (fun u hu => hu.trans (adoptRound_marksFall u)) n s fun _ hj => hj

theorem forEach_clears (h : Switching bk s t) {l : List (Fin 8)} {f : Fin 8} (hf : f ∈ l) :
    (forEach l (fun f => adoptAlways (feederMark f) (fun bank => adoptFeeder true bank f)) t).banks.mask[feederMark f] =
      false := by
  induction l generalizing t with
  | nil => exact absurd hf (by simp)
  | cons g l ih =>
    rw [forEach_cons]
    rcases List.mem_cons.1 hf with rfl | hf
    · exact forEach_marksFall (fun f u => feederLook_marksFall _ f u) l _ _
        (adoptAlways_clears (fun bank u => (adoptFeeder_under true bank f).banks u) h)
    · exact ih (h.adoptIf (adopt := fun bank => adoptFeeder true bank g) (adoptFeeder_under true _ g)) hf

/-- Each mark is the streams', the report settings', the rectifier's, the line's, the Capture Unit's or a feeder's. -/
theorem mark_cases (j : Fin 13) : j = 0 ∨ j = 11 ∨ j = 9 ∨ j = 10 ∨ j = 12 ∨ ∃ f, j = feederMark f := by
  revert j
  decide

/-- R148: where every consumer adopts whatever its state, no mark but those of the streams and the reports is left. -/
theorem adoptTheRest_clears (h : Switching bk s t) (h0 : t.banks.mask[(0 : Fin 13)] = false)
    (h11 : t.banks.mask[(11 : Fin 13)] = false) (j : Fin 13) : (adoptTheRest true t).banks.mask[j] = false := by
  have hfeeders (f : Fin 8) := forEach_clears h (mem_feeders f)
  have hsf : Switching bk s (forEach feeders (fun f => adoptAlways (feederMark f) (fun bank => adoptFeeder true bank f)) t) :=
    h.forEach fun f _ hu => hu.adoptIf (adopt := fun bank => adoptFeeder true bank f) (adoptFeeder_under true _ f)
  have hall : MarksFall t (adoptTheRest true t) := adoptRound_marksFall t
  unfold adoptTheRest at hall ⊢
  generalize forEach feeders (fun f => adoptAlways (feederMark f) (fun bank => adoptFeeder true bank f)) t = a
    at hfeeders hsf hall ⊢
  have hline := lineLook_marksFall (fun _ => true) (adoptAlways 9 adoptRect a)
  have hcapture := captureLook_marksFall (fun _ => true) (adoptAlways 10 adoptLine (adoptAlways 9 adoptRect a))
  have hsr : Switching bk s (adoptAlways 9 adoptRect a) := hsf.adoptIf (adoptRect_under _)
  have hsl : Switching bk s (adoptAlways 10 adoptLine (adoptAlways 9 adoptRect a)) := hsr.adoptIf (adoptLine_under _)
  rcases mark_cases j with rfl | rfl | rfl | rfl | rfl | ⟨f, rfl⟩
  · exact hall 0 h0
  · exact hall 11 h11
  · exact hcapture 9 (hline 9 (adoptAlways_clears (fun bank u => (adoptRect_under bank).banks u) hsf))
  · exact hcapture 10 (adoptAlways_clears (fun bank u => (adoptLine_under bank).banks u) hsr)
  · exact adoptAlways_clears (fun bank u => (adoptCapture_under bank).banks u) hsl
  · exact hcapture _ (hline _ (rectLook_marksFall _ a _ (hfeeders f)))

end Sys2Proof.Machine

/-! SUPPORT. The rounds of looks at the safe points come to an end (R149): each round clears a mark or does nothing, and
the streams and channels of the new table stay through them. -/
namespace Sys2Proof.Machine
variable {s t u : State} {bk : BankId} {k : Fin 13}

/-! ## Rounds -/

theorem StillOrFewer.trans (h : StillOrFewer s t) (h' : StillOrFewer t u) : StillOrFewer s u := by
  rcases h with rfl | h
  · exact h'
  · rcases h' with rfl | h'
    · exact .inr h
    · exact .inr (h'.trans h)

/-- Two steps that clear no mark between them do nothing. -/
theorem StillOrFewer.still (h : StillOrFewer s t) (h' : StillOrFewer t u) (he : marks u = marks s) : t = s ∧ u = s := by
  rcases h with rfl | h
  · rcases h' with rfl | h'
    · exact ⟨rfl, rfl⟩
    · omega
  · rcases h' with rfl | h'
    · omega
    · omega

theorem forEach_stillOrFewer {α : Type} {f : α → State → State} (hf : ∀ a u, StillOrFewer u (f a u)) (l : List α)
    (s : State) : StillOrFewer s (forEach l f s) ∧ (marks (forEach l f s) = marks s → ∀ a ∈ l, f a s = s) := by
  induction l generalizing s with
  | nil => exact ⟨.inl rfl, fun _ _ h => absurd h (by simp)⟩
  | cons b l ih =>
    obtain ⟨hrest, hstill⟩ := ih (f b s)
    refine ⟨(hf b s).trans hrest, fun he a ha => ?_⟩
    obtain ⟨hb, hall⟩ := (hf b s).still hrest he
    rcases List.mem_cons.1 ha with rfl | ha
    · exact hb
    · rw [hb] at hstill
      exact hstill (by rw [forEach_cons, hb] at he; exact he) a ha

theorem feederLook_stillOrFewer (f : Fin 8) (s : State) :
    StillOrFewer s (adoptIf (feederMark f) (feederSafe f) (fun b => adoptFeeder true b f) s) :=
  adoptIf_stillOrFewer (fun b u => (adoptFeeder_under true b f).banks u) s

theorem rectLook_stillOrFewer (s : State) : StillOrFewer s (adoptIf 9 rectSafe adoptRect s) :=
  adoptIf_stillOrFewer (fun b u => (adoptRect_under b).banks u) s

theorem lineLook_stillOrFewer (s : State) : StillOrFewer s (adoptIf 10 lineSafe adoptLine s) :=
  adoptIf_stillOrFewer (fun b u => (adoptLine_under b).banks u) s

theorem captureLook_stillOrFewer (s : State) : StillOrFewer s (adoptIf 12 captureSafe adoptCapture s) :=
  adoptIf_stillOrFewer (fun b u => (adoptCapture_under b).banks u) s

/-- R149: each consumer of a switch-over that no look moves on. -/
structure NoneMoves (s : State) : Prop where
  feeder : ∀ f, adoptIf (feederMark f) (feederSafe f) (fun b => adoptFeeder true b f) s = s
  rect : adoptIf 9 rectSafe adoptRect s = s
  line : adoptIf 10 lineSafe adoptLine s = s
  capture : adoptIf 12 captureSafe adoptCapture s = s

theorem sweepOnce_round (s : State) :
    StillOrFewer s (sweepOnce s) ∧ (marks (sweepOnce s) = marks s → NoneMoves s) := by
  unfold sweepOnce
  obtain ⟨hf, hstill⟩ := forEach_stillOrFewer feederLook_stillOrFewer feeders s
  generalize forEach feeders (fun f => adoptIf (feederMark f) (feederSafe f) fun b => adoptFeeder true b f) s = a
    at hf hstill
  have hr := rectLook_stillOrFewer a
  have hl := lineLook_stillOrFewer (adoptIf 9 rectSafe adoptRect a)
  have hc := captureLook_stillOrFewer (adoptIf 10 lineSafe adoptLine (adoptIf 9 rectSafe adoptRect a))
  refine ⟨((hf.trans hr).trans hl).trans hc, fun he => ?_⟩
  obtain ⟨el, ec⟩ := ((hf.trans hr).trans hl).still hc he
  obtain ⟨er, _⟩ := (hf.trans hr).still hl (congrArg marks el)
  obtain ⟨ea, _⟩ := hf.still hr (congrArg marks er)
  rw [er] at el
  rw [er, el] at ec
  rw [ea] at er hstill
  exact ⟨fun f => hstill rfl f (mem_feeders f), er, el, ec⟩

theorem sweeps_of_still (h : sweepOnce s = s) (n : Nat) : sweeps n s = s := by
  induction n with
  | zero => rfl
  | succ n ih => rw [sweeps, h, ih]

/-- R149: as many rounds as there are marks come to where no look moves on. -/
theorem sweeps_noneMoves (n : Nat) (s : State) (h : marks s ≤ n) : NoneMoves (sweeps n s) := by
  induction n generalizing s with
  | zero =>
    obtain ⟨hround, hstill⟩ := sweepOnce_round s
    refine hstill ?_
    rcases hround with e | hlt
    · rw [e]
    · omega
  | succ n ih =>
    obtain ⟨hround, hstill⟩ := sweepOnce_round s
    rcases hround with e | hlt
    · rw [sweeps_of_still e]
      exact hstill (congrArg marks e)
    · exact ih _ (by omega)

theorem marks_le (s : State) : marks s ≤ 13 := by
  exact Vector.count_le_size

/-! ## What the rounds leave of the streams -/

/-- The channel records but for their consumer lists, the stream table and the class mask are as they were. -/
structure StreamsKept (s t : State) : Prop extends RecordsKept s t where
  matcher : t.matcher = s.matcher
  mask : t.reports.mask = s.reports.mask

protected theorem StreamsKept.refl (s : State) : StreamsKept s s := ⟨.refl s, rfl, rfl⟩

protected theorem StreamsKept.trans (h : StreamsKept s t) (h' : StreamsKept t u) : StreamsKept s u :=
  ⟨h.toRecordsKept.trans h'.toRecordsKept, h'.matcher.trans h.matcher, h'.mask.trans h.mask⟩

protected theorem Steady.streams {x : Set Holder} (h : Steady x s t) : StreamsKept s t := ⟨h.records, h.matcher, h.mask⟩

theorem completeSwitch_mask (bk : BankId) (s : State) : (completeSwitch bk s).reports.mask = s.reports.mask := by
  unfold completeSwitch
  rw [report, submit_mask]
  split <;> rfl

theorem clearMark_streams (k : Fin 13) (s : State) : StreamsKept s (clearMark k s) where
  toRecordsKept := (RecordsKept.refl s).clearMark
  matcher := by rw [clearMark_eq]
  mask := by
    cases h : s.banks.target with
    | none => simp [clearMark, h]
    | some bk =>
      rw [clearMark_underway h]
      split
      · rfl
      · rw [completeSwitch_mask]
        rfl

protected theorem StreamsKept.adoptIf {safe : State → Bool} {adopt : List Byte → State → State} {x : Set Holder}
    (h : StreamsKept s t) (ha : ∀ bank u, Steady x u (adopt bank u)) : StreamsKept s (adoptIf k safe adopt t) := by
  rcases adoptIf_cases k safe adopt t with e | ⟨_, _, _, _, e⟩ <;> rw [e]
  · exact h
  · exact (h.trans (ha _ _).streams).trans (clearMark_streams _ _)

protected theorem StreamsKept.forEach {α : Type} {l : List α} {f : α → State → State} (h : StreamsKept s t)
    (hf : ∀ a u, StreamsKept u (f a u)) : StreamsKept s (forEach l f t) :=
  forEach_keeps (StreamsKept s) f l (fun a _ u hu => hu.trans (hf a u)) t h

theorem adoptRound_streams {feeder : Fin 8 → State → Bool} {rect line capture : State → Bool} (s : State) :
    StreamsKept s (adoptRound feeder rect line capture s) :=
  ((((StreamsKept.refl s).forEach fun f u =>
    (StreamsKept.refl u).adoptIf (x := feederHolders f) fun _ _ => Steady.rfl.adoptFeeder subset_rfl).adoptIf
      (x := rectHolders) fun _ _ => Steady.rfl.adoptRect subset_rfl).adoptIf
        (x := {.line}) fun _ _ => Steady.rfl.adoptLine (Set.mem_singleton _)).adoptIf
          (x := {.capture}) fun _ _ => Steady.rfl.adoptCapture (Set.mem_singleton _)

theorem sweeps_streams (n : Nat) (s : State) : StreamsKept s (sweeps n s) :=
  sweeps_keeps (StreamsKept s) (fun u hu => hu.trans (adoptRound_streams u)) n s (.refl s)

end Sys2Proof.Machine

/-! SUPPORT. What a switch-over does at once (R17, R18, R148): the stream table and the report settings are adopted, and the
channels that are assigned otherwise are reset. -/
namespace Sys2Proof.Machine
variable {s t u : State} {bk : BankId} {k : Fin 13} {bank : List Byte}

/-! ## The stream entries (R17) -/

theorem usedEntry_some {m : Vector StreamEntry 24} {unit stream : Byte} {j : Fin 24}
    (hj : m[j].unit ≠ 0 ∧ m[j].unit = unit ∧ m[j].stream = stream)
    (hfirst : ∀ i, i < j → ¬ (m[i].unit ≠ 0 ∧ m[i].unit = unit ∧ m[i].stream = stream)) :
    usedEntry m unit stream = some m[j] := by
  unfold usedEntry
  rw [List.find?_eq_some_iff_getElem]
  refine ⟨by simpa [and_assoc] using hj, j.val, by simp, by simp, fun i hi => ?_⟩
  rw [Bool.not_eq_true', ← Bool.not_eq_true]
  simpa [and_assoc] using hfirst ⟨i, by omega⟩ hi

theorem usedEntry_none {m : Vector StreamEntry 24} {unit stream : Byte}
    (h : ∀ j : Fin 24, ¬ (m[j].unit ≠ 0 ∧ m[j].unit = unit ∧ m[j].stream = stream)) : usedEntry m unit stream = none := by
  unfold usedEntry
  rw [List.find?_eq_none]
  intro e he
  obtain ⟨i, hi, rfl⟩ := Vector.mem_iff_getElem.1 (Vector.mem_toList_iff.1 he)
  simpa [and_assoc] using h ⟨i, hi⟩

/-- R17: an entry of a bank is new: nothing has been counted on it. -/
theorem carryEntry_fresh {old : Vector StreamEntry 24} {e : StreamEntry} (h : e.unit = 0 ∨
    ∀ j : Fin 24, ¬ (old[j].unit ≠ 0 ∧ old[j].unit = e.unit ∧ old[j].stream = e.stream)) : carryEntry old e = e := by
  unfold carryEntry
  split
  · rfl
  · next hu =>
    rw [usedEntry_none (h.resolve_left hu)]

theorem carryEntry_carried {old : Vector StreamEntry 24} {e : StreamEntry} {j : Fin 24} (hu : e.unit ≠ 0)
    (hj : old[j].unit ≠ 0 ∧ old[j].unit = e.unit ∧ old[j].stream = e.stream)
    (hfirst : ∀ i, i < j → ¬ (old[i].unit ≠ 0 ∧ old[i].unit = e.unit ∧ old[i].stream = e.stream)) :
    carryEntry old e = { old[j] with assign := e.assign } := by
  unfold carryEntry
  rw [if_neg hu, usedEntry_some hj hfirst]

/-- R17: an adopted entry has the unit, the stream and the assignment of the bank. -/
theorem carryEntry_key (old : Vector StreamEntry 24) (e : StreamEntry) : (carryEntry old e).unit = e.unit ∧
    (carryEntry old e).stream = e.stream ∧ (carryEntry old e).assign = e.assign := by
  unfold carryEntry
  split
  · exact ⟨rfl, rfl, rfl⟩
  · split
    · exact ⟨rfl, rfl, rfl⟩
    · next o ho =>
      have hp := List.find?_some ho
      simp only [Bool.and_eq_true, decide_eq_true_eq] at hp
      exact ⟨hp.1.2, hp.2, rfl⟩

/-- No holder stands under the streams' mark, and none under the report settings'. -/
theorem mark_ne (h : Holder) : h.mark ≠ 0 ∧ h.mark ≠ 11 := by
  have hfeeder (f : Fin 8) : feederMark f ≠ 0 ∧ feederMark f ≠ 11 := by
    revert f
    decide
  cases h with
  | device d => cases d <;> simp [Holder.mark, hfeeder]
  | evaluator f => exact hfeeder f
  | sequencer f => exact hfeeder f
  | rectifier => decide
  | line => decide
  | capture => decide

/-! ## The channels (R18) -/

theorem adoptChannel_other (old new : Vector StreamEntry 24) {c i : Fin 24} (hc : c ≠ i) (s : State) :
    (adoptChannel old new i s).chan c = s.chan c := by
  have hreset : (s.updChan i resetChannel).chan c = s.chan c := State.updChan_chan_ne _ _ hc
  unfold adoptChannel
  dsimp only
  split
  · rfl
  · split
    · exact hreset
    · rw [(Steady.rfl (x := ∅)).stateNotice.chan, hreset]

theorem adoptChannel_same (old new : Vector StreamEntry 24) (c : Fin 24) (s : State) :
    (adoptChannel old new c s).chan c = if feedOf old c = feedOf new c then s.chan c else resetChannel (s.chan c) := by
  unfold adoptChannel
  dsimp only
  split
  · rfl
  · split
    · rw [State.updChan_chan_same]
    · rw [(Steady.rfl (x := ∅)).stateNotice.chan, State.updChan_chan_same]

theorem adoptChannels_chan (old new : Vector StreamEntry 24) (c : Fin 24) {l : List (Fin 24)} (hl : l.Nodup) (s : State) :
    (forEach l (adoptChannel old new) s).chan c =
      if c ∈ l ∧ feedOf old c ≠ feedOf new c then resetChannel (s.chan c) else s.chan c := by
  induction l generalizing s with
  | nil => simp
  | cons i l ih =>
    obtain ⟨hi, hl⟩ := List.nodup_cons.1 hl
    rw [forEach_cons, ih hl]
    by_cases hc : c = i
    · subst hc
      rw [adoptChannel_same]
      by_cases hf : feedOf old c = feedOf new c <;> simp [hi, hf]
    · simp [adoptChannel_other old new hc, hc]

theorem channelList_nodup : channelList.Nodup := List.nodup_ofFn.2 fun _ _ h => h

/-- R18: a channel keeps its record exactly when its triple is the same. -/
theorem adoptStreams_chan (bank : List Byte) (s : State) (c : Fin 24) : (adoptStreams bank s).chan c =
    if feedOf s.matcher.entries c = feedOf (newEntries s.matcher.entries bank) c then s.chan c
    else resetChannel (s.chan c) := by
  rw [adoptStreams_eq, adoptChannels_chan _ _ _ channelList_nodup]
  by_cases hf : feedOf s.matcher.entries c = feedOf (newEntries s.matcher.entries bank) c <;>
    simp [hf, mem_channelList, State.chan, State.updMatcher]

theorem adoptChannel_kept (old new : Vector StreamEntry 24) (c : Fin 24) (s : State) :
    SetupKept ∅ s (adoptChannel old new c s) := by
  have hreset : SetupKept ∅ s (s.updChan c resetChannel) := { SetupKept.refl ∅ s with }
  unfold adoptChannel
  dsimp only
  split
  · exact .refl _ s
  · split
    · exact hreset
    · exact hreset.trans Steady.rfl.stateNotice.toSetupKept

/-- R17, R18: beyond the stream table and the channels, the adoption of the streams leaves what is adopted. -/
theorem adoptStreams_kept (bank : List Byte) (s : State) :
    SetupKept ∅ (s.updMatcher fun m => { m with entries := newEntries s.matcher.entries bank }) (adoptStreams bank s) := by
  rw [adoptStreams_eq]
  exact forEach_keeps _ _ _ (fun c _ u hu => hu.trans (adoptChannel_kept _ _ c u)) _ (.refl _ _)

theorem updMatcher_agrees (g : Matcher → Matcher) (s : State) (h : Holder) : h.Agrees s (s.updMatcher g) := by
  cases h <;> exact rfl

theorem adoptStreams_under (bank : List Byte) : AdoptsUnder 0 bank (adoptStreams bank) where
  banks u := by rw [(adoptStreams_kept bank u).banks, State.updMatcher_banks]
  others u h _ := (updMatcher_agrees _ u h).trans ((adoptStreams_kept bank u).agrees (Set.notMem_empty _))
  own u h hk := absurd hk (mark_ne h).1

theorem adoptReports_under (bank : List Byte) : AdoptsUnder 11 bank (adoptReports bank) where
  banks _ := rfl
  others u h _ := by
    unfold adoptReports
    cases h <;> rfl
  own _ h hk := absurd hk (mark_ne h).2

/-! ## The start (R148) -/

/-- R148: a switch-over to the standby bank with every mark set. -/
def switchMarked (s : State) : State :=
  s.updBanks fun k => { k with target := some (standby s), mask := Vector.replicate 13 true }

/-- R148: the streams have adopted. -/
def switchStreams (s : State) : State := adoptAlways 0 adoptStreams (switchMarked s)

/-- R148: so have the report settings. -/
def switchBegun (s : State) : State := adoptAlways 11 adoptReports (switchStreams s)

/-- R148: so have all, when no bank is active. -/
def switchAdopted (s : State) : State :=
  if s.banks.active = none then adoptTheRest true (switchBegun s) else switchBegun s

theorem startSwitch_eq (s : State) : startSwitch s = rebuildConsumers (sweeps 13 (switchAdopted s)) := rfl

theorem switchMarked_mask (s : State) (j : Fin 13) : (switchMarked s).banks.mask[j] = true :=
  Vector.getElem_replicate j.isLt

theorem switchMarked_switching (s : State) : Switching (standby s) s (switchMarked s) where
  bankA := rfl
  bankB := rfl
  old h _ := by cases h <;> exact rfl
  new h hm := absurd (switchMarked_mask s h.mark) (by rw [hm]; decide)
  course := .inl ⟨rfl, rfl, fun i => by cases i <;> rfl, 0, switchMarked_mask s 0⟩

/-- An adoption under a mark that stands. -/
theorem adoptAlways_marked {adopt : List Byte → State → State} (h : Switching bk s t) (hm : t.banks.mask[k] = true) :
    adoptAlways k adopt t = clearMark k (adopt (bankBytes bk s) t) := by
  rcases h.course with hu | hs
  · unfold adoptAlways adoptIf
    rw [hu.target]
    simp [marked, hm, h.bankBytes]
  · rw [hs.clear k] at hm
    exact absurd hm (by decide)

/-- R17, R18, R148: what stands of the streams, the channels and the report settings once they have adopted. -/
structure StreamsAdopted (bank : List Byte) (s t : State) : Prop where
  streamsMark : t.banks.mask[(0 : Fin 13)] = false
  reportsMark : t.banks.mask[(11 : Fin 13)] = false
  matcher : t.matcher = { s.matcher with entries := newEntries s.matcher.entries bank }
  chan : ∀ c, t.chan c = { (if feedOf s.matcher.entries c = feedOf t.matcher.entries c then s.chan c
    else resetChannel (s.chan c)) with consumers := (t.chan c).consumers }
  classes : t.reports.mask = some (classMaskOf bank)

/-- Later adoptions leave it. -/
theorem StreamsAdopted.trans (h : StreamsAdopted bank s t) (hm : MarksFall t u) (hk : StreamsKept t u) :
    StreamsAdopted bank s u where
  streamsMark := hm 0 h.streamsMark
  reportsMark := hm 11 h.reportsMark
  matcher := hk.matcher.trans h.matcher
  chan c := by rw [hk.chan c, h.chan c, hk.matcher]
  classes := hk.mask.trans h.classes

theorem switchStreams_eq (s : State) : switchStreams s =
    clearMark 0 (adoptStreams (bankBytes (standby s) s) (switchMarked s)) :=
  adoptAlways_marked (switchMarked_switching s) (switchMarked_mask s 0)

theorem switchStreams_switching (s : State) : Switching (standby s) s (switchStreams s) :=
  (switchMarked_switching s).adoptIf (safe := fun _ => true) (adoptStreams_under _)

theorem switchStreams_mask (s : State) (j : Fin 13) :
    (switchStreams s).banks.mask[j] = if 0 = j then false else true := by
  rw [switchStreams_eq, clearMark_mask, (adoptStreams_under _).banks, getElem_set_false, switchMarked_mask]

theorem switchBegun_eq (s : State) : switchBegun s =
    clearMark 11 (adoptReports (bankBytes (standby s) s) (switchStreams s)) :=
  adoptAlways_marked (switchStreams_switching s) (switchStreams_mask s 11)

theorem switchBegun_mask (s : State) (j : Fin 13) :
    (switchBegun s).banks.mask[j] = if 11 = j then false else if 0 = j then false else true := by
  rw [switchBegun_eq, clearMark_mask, (adoptReports_under _).banks, getElem_set_false, switchStreams_mask]

theorem switchBegun_switching (s : State) : Switching (standby s) s (switchBegun s) :=
  (switchStreams_switching s).adoptIf (safe := fun _ => true) (adoptReports_under _)

theorem switchBegun_adopted (s : State) : StreamsAdopted (bankBytes (standby s) s) s (switchBegun s) := by
  generalize hbank : bankBytes (standby s) s = bank
  have hcleared := clearMark_streams 0 (adoptStreams bank (switchMarked s))
  have hended := clearMark_streams 11 (adoptReports bank (switchStreams s))
  rw [← hbank, ← switchBegun_eq, hbank] at hended
  rw [← hbank, ← switchStreams_eq, hbank] at hcleared
  have hmatcher : (switchBegun s).matcher = { s.matcher with entries := newEntries s.matcher.entries bank } :=
    hended.matcher.trans (hcleared.matcher.trans (adoptStreams_kept bank (switchMarked s)).matcher)
  refine ⟨switchBegun_mask s 0, switchBegun_mask s 11, hmatcher, fun c => ?_, hended.mask⟩
  have hreports : (adoptReports bank (switchStreams s)).chan c = (switchStreams s).chan c := rfl
  rw [hmatcher, hended.chan c, hreports, hcleared.chan c, adoptStreams_chan]
  rfl

theorem switchAdopted_switching (s : State) : Switching (standby s) s (switchAdopted s) := by
  unfold switchAdopted
  split
  · exact (switchBegun_switching s).adoptRound
  · exact switchBegun_switching s

theorem switchAdopted_adopted (s : State) : StreamsAdopted (bankBytes (standby s) s) s (switchAdopted s) := by
  unfold switchAdopted
  split
  · exact (switchBegun_adopted s).trans (adoptRound_marksFall _) (adoptRound_streams _)
  · exact switchBegun_adopted s

/-- R148: with no bank active every mark is cleared at once. -/
theorem switchAdopted_clears (h : s.banks.active = none) (j : Fin 13) : (switchAdopted s).banks.mask[j] = false := by
  rw [switchAdopted, if_pos h]
  exact adoptTheRest_clears (switchBegun_switching s) (switchBegun_mask s 0) (switchBegun_mask s 11) j

end Sys2Proof.Machine

/-! SUPPORT. ACTIVATE (R147 to R150) as a whole: what is drained first, the switch-over, the consumer lists and the answer. -/
namespace Sys2Proof.Machine
variable {s t u : State} {bk : BankId} {src tag : Byte}

/-! ## What is taken first -/

theorem drainAll_of_drained (h : Drained s) : drainAll s = s := by
  have hchannels : forEach channelList (fun c u => times (u.chan c).waiting.length (fileOldest c) u) s = s :=
    forEach_keeps (· = s) _ _ (fun c _ u hu => by rw [hu, h.1 c]; rfl) s rfl
  rw [drainAll, hchannels, drainConsumers_of_drained h]

theorem fileOldest_banks (c : Fin 24) (s : State) : (fileOldest c s).banks = s.banks := by
  cases hw : (s.chan c).waiting with
  | nil => simp [fileOldest, hw]
  | cons a rest => exact (fileOldest_steady hw).banks

/-- With no switch-over pending, taking what waits leaves the bank store. -/
theorem drainAll_banks (h : s.banks.target = none) : (drainAll s).banks = s.banks := by
  have htimes (c : Fin 24) (n : Nat) (u : State) : (times n (fileOldest c) u).banks = u.banks := by
    induction n generalizing u with
    | zero => rfl
    | succ n ih => rw [times, ih, fileOldest_banks]
  have hchannels : (forEach channelList (fun c u => times (u.chan c).waiting.length (fileOldest c) u) s).banks = s.banks :=
    forEach_keeps (·.banks = s.banks) _ _ (fun c _ u hu => (htimes c _ u).trans hu) s rfl
  unfold drainAll
  exact forEach_keeps (·.banks = s.banks) _ _
    (fun k _ u hu => ((drainConsumer_kept k u).settled (by rw [hu, h])).banks.trans hu) _ hchannels

theorem drained_goodFrame (h : Drained s) : Drained (goodFrame s) := by
  simpa [Drained, State.chan, State.ev, State.seq] using h

/-! ## ACTIVATE -/

theorem activate_request (h : Manages src s) (tag : Byte) : exec (.activate src tag []) s =
    .next (placeReply src tag (requestActivate src [] (goodFrame s))) :=
  next_eq (onRequest_of_reaches h.1 tag _)

theorem requestActivate_served (h : src = s.ring.mgmt) : requestActivate src [] s =
    if switchPending s then refuse .switchPending s
    else if bankState (standby s) s ≠ .valid then refuse .state s
    else done [] (startSwitch (drainAll s)) :=
  checked_passes true 0 src [] _ s (fun _ => h) rfl

theorem standby_goodFrame (s : State) : standby (goodFrame s) = standby s := by simp [standby]

theorem bankState_goodFrame (i : BankId) (s : State) : bankState i (goodFrame s) = bankState i s := by
  simp [bankState]

theorem rebuildConsumers_eq (s : State) : rebuildConsumers s = { s with chans := (rebuildConsumers s).chans } := by
  unfold rebuildConsumers
  rfl

/-- R148: the switch-over, but for the consumer lists. -/
def switchDone (s : State) : State := sweeps 13 (switchAdopted s)

/-- The consumer lists and an answer touch the channels and the Ring Port. -/
theorem answered_rebuilt (src tag : Byte) (o : ReplyOutcome) (r : Reason) (data : List Byte) (s : State) :
    ∃ ring, answered src tag o r data (rebuildConsumers s) =
      { s with ring := ring, chans := (rebuildConsumers s).chans } := by
  have hrebuilt := rebuildConsumers_eq s
  generalize rebuildConsumers s = u at hrebuilt ⊢
  rw [answered_eq]
  refine ⟨(answered src tag o r data u).ring, ?_⟩
  generalize (answered src tag o r data u).ring = ring
  rw [hrebuilt]

/-- R147: a taken ACTIVATE, after the answer. -/
theorem activate_done (h : Manages src s) (ht : s.banks.target = none) (hv : bankState (standby s) s = .valid)
    (tag : Byte) : ∃ ring, exec (.activate src tag []) s = .next { switchDone (drainAll (goodFrame s)) with
      ring := ring, chans := (rebuildConsumers (switchDone (drainAll (goodFrame s)))).chans } := by
  have hmgmt : src = (goodFrame s).ring.mgmt := by simp [h.2]
  obtain ⟨ring, e⟩ := answered_rebuilt src tag .done .none [] (switchDone (drainAll (goodFrame s)))
  refine ⟨ring, ?_⟩
  rw [activate_request h, requestActivate_served hmgmt, if_neg, if_neg, placeReply_done, startSwitch_eq, ← switchDone, e]
  · simp [standby_goodFrame, bankState_goodFrame, hv]
  · simp [switchPending, ht]

/-! ## The consumer lists (R13, R19) -/

section
variable {c : Fin 24} {f : Fin 8}

theorem mem_consumers {k : Consumer} (hk : k ∈ allConsumers) :
    k ∈ ((rebuildConsumers s).chan c).consumers ↔ namesChannel s c k = true := by
  rw [rebuildConsumers_chan]
  simp [hk]

theorem mem_allConsumers (k : Consumer) : k ∈ allConsumers := by
  cases k <;> simp [allConsumers, mem_feeders]

theorem evaluator_mem : .evaluator f ∈ ((rebuildConsumers s).chan c).consumers ↔
    (s.ev f).settings.map (fun x => x.chan) = some c := by
  rw [mem_consumers (mem_allConsumers _)]
  simp [namesChannel]

theorem sequencer_mem : .sequencer f ∈ ((rebuildConsumers s).chan c).consumers ↔
    (s.ev f).settings.map (fun x => x.lineChan) = some c ∨ s.rect.settings.map (fun x => x.busChan) = some c := by
  rw [mem_consumers (mem_allConsumers _)]
  simp [namesChannel, lineChannel, busChannel]

theorem rectifier_mem : .rectifier ∈ ((rebuildConsumers s).chan c).consumers ↔
    ∃ r, s.rect.settings = some r ∧ (r.busChan = c ∨ r.curChan = c ∨ r.uabChan = c) := by
  rw [mem_consumers (mem_allConsumers _)]
  cases h : s.rect.settings <;> simp [namesChannel, h, or_assoc]

theorem capture_mem : .capture ∈ ((rebuildConsumers s).chan c).consumers ↔
    ∃ x, s.capture.settings = some x ∧ c ∈ x.chans := by
  rw [mem_consumers (mem_allConsumers _)]
  cases h : s.capture.settings <;> simp [namesChannel, h]

end

/-! ## The end of a switch-over -/

theorem switchDone_switching (s : State) : Switching (standby s) s (switchDone s) := by
  unfold switchDone
  exact (switchAdopted_switching s).sweeps 13

theorem switchDone_adopted (s : State) : StreamsAdopted (bankBytes (standby s) s) s (switchDone s) := by
  unfold switchDone
  exact (switchAdopted_adopted s).trans (sweeps_marksFall 13 _) (sweeps_streams 13 _)

theorem switchDone_noneMoves (s : State) : NoneMoves (switchDone s) := by
  unfold switchDone
  exact sweeps_noneMoves 13 _ (marks_le _)

theorem switchDone_clear (h : s.banks.active = none) (j : Fin 13) : (switchDone s).banks.mask[j] = false := by
  unfold switchDone
  exact sweeps_marksFall 13 _ j (switchAdopted_clears h j)

theorem Switching.switched (h : Switching bk s t) (hc : ∀ j : Fin 13, t.banks.mask[j] = false) : Switched bk s t := by
  rcases h.course with ⟨_, _, _, j, hj⟩ | hs
  · rw [hc j] at hj
    exact absurd hj (by decide)
  · exact hs

theorem Switching.pending (h : Switching bk s t) {j : Fin 13} (hj : t.banks.mask[j] = true) : Underway bk s t := by
  rcases h.course with hu | hs
  · exact hu
  · rw [hs.clear j] at hj
    exact absurd hj (by decide)

end Sys2Proof.Machine

namespace Sys2Proof.Proofs
open Sys2Proof.Machine

/-- R147, R148: the first activation. -/
theorem activate_first {src : Byte} {s : State} (hm : Manages src s) (hactive : s.banks.active = none)
    (ht : s.banks.target = none) (hv : s.banks.stateA = .valid) (tag : Byte) :
        ∃ t, exec (.activate src tag []) s = .next t ∧
          t.banks.active = some .a ∧ t.banks.stateA = .active ∧ t.banks.stateB = s.banks.stateB ∧
          t.banks.target = none ∧ t.banks.mask = Vector.replicate 13 false ∧
          t.banks.bankA = s.banks.bankA ∧ t.banks.bankB = s.banks.bankB ∧
          t.reports.mask = some (classMaskOf s.banks.bankA) ∧ ∀ h : Holder, h.Adopted s.banks.bankA t := by
  have hstandby : standby s = .a := by simp [standby, hactive]
  obtain ⟨ring, e⟩ := activate_done hm ht (by rw [hstandby]; exact hv) tag
  refine ⟨_, e, ?_⟩
  have hbanks : (drainAll (goodFrame s)).banks = s.banks := by
    rw [drainAll_banks (by simpa using ht), goodFrame_banks]
  generalize drainAll (goodFrame s) = v at hbanks
  have hsw := switchDone_switching v
  have hstreams := switchDone_adopted v
  have hclear := switchDone_clear (s := v) (by rw [hbanks, hactive])
  have hva : standby v = .a := by rw [standby, hbanks, hactive]
  have hbank : bankBytes .a v = s.banks.bankA := congrArg BankStore.bankA hbanks
  rw [hva] at hsw hstreams
  rw [hbank] at hstreams
  generalize switchDone v = w at hsw hclear hstreams
  obtain ⟨htarget, hact, hstates, -⟩ := hsw.switched hclear
  refine ⟨hact, hstates .a, (hstates .b).trans ?_, htarget, ?_, ?_, ?_, hstreams.classes, fun h => ?_⟩
  · simp [switchedState, bankState, hbanks, hactive]
  · exact Vector.ext fun i hi => by simpa using hclear ⟨i, hi⟩
  · exact hsw.bankA.trans (congrArg BankStore.bankA hbanks)
  · exact hsw.bankB.trans (congrArg BankStore.bankB hbanks)
  · rw [← hbank]
    exact (hsw.new h (hclear _)).of_agrees (by cases h <;> exact rfl)

end Sys2Proof.Proofs

/-! SUPPORT. A switch-over with whatever bank was active (R148 to R150), and the end of one with the line (R80). -/
namespace Sys2Proof.Machine
variable {s t u : State} {bk : BankId} {bank : List Byte}

/-! ## Read off against the state before the frame -/

theorem Steady.switching (hg : Steady ∅ s t) (h : Switching bk t u) : Switching bk s u where
  bankA := h.bankA.trans (congrArg BankStore.bankA hg.banks)
  bankB := h.bankB.trans (congrArg BankStore.bankB hg.banks)
  old i hi := (hg.toSetupKept.agrees (Set.notMem_empty _)).trans (h.old i hi)
  new i hi := by
    have hbytes : bankBytes bk s = bankBytes bk t := by cases bk <;> simp only [bankBytes, hg.banks]
    rw [hbytes]
    exact h.new i hi
  course := by
    have hstate (i : BankId) : bankState i t = bankState i s := by cases i <;> simp only [bankState, hg.banks]
    rcases h.course with hu | hs
    · exact .inl ⟨hu.target, by rw [hu.active, hg.banks], fun i => (hu.states i).trans (hstate i), hu.marked⟩
    · refine .inr ⟨hs.target, hs.active, fun i => (hs.states i).trans ?_, hs.clear⟩
      rw [switchedState, switchedState, hg.banks, hstate]

theorem Steady.streamsAdopted {x : Set Holder} (hg : Steady x s t) (h : StreamsAdopted bank t u) :
    StreamsAdopted bank s u where
  streamsMark := h.streamsMark
  reportsMark := h.reportsMark
  matcher := by rw [h.matcher, hg.matcher]
  chan c := by rw [h.chan c, hg.chan c, hg.matcher]
  classes := h.classes

/-! ## Away from the safe point (R149) -/

section
variable (hn : NoneMoves s) (ht : s.banks.target ≠ none)
include hn ht

theorem feeder_away {f : Fin 8} (hm : s.banks.mask[feederMark f] = true) :
    ¬ (((s.ev f).state = .off ∨ (s.ev f).state = .quiet ∨ (s.ev f).state = .degraded) ∧
      ((s.seq f).state = .idleClosed ∨ (s.seq f).state = .idleOpen ∨ (s.seq f).state = .lockout)) := by
  have hunsafe : feederSafe f s = false :=
    unsafe_of_adoptIf_still (fun bank u => (adoptFeeder_under true bank f).banks u) (hn.feeder f) ht hm
  rintro ⟨he, hq⟩
  have hsafe : feederSafe f s = true := by
    simp [feederSafe, evaluatorSafe, sequencerSafe, evSafe, seqSafe, he, hq, or_assoc]
  rw [hsafe] at hunsafe
  exact absurd hunsafe (by decide)

theorem rect_away (hm : s.banks.mask[(9 : Fin 13)] = true) : firing s.rect.state = true := by
  have hunsafe : rectSafe s = false :=
    unsafe_of_adoptIf_still (fun bank u => (adoptRect_under bank).banks u) hn.rect ht hm
  simpa [rectSafe] using hunsafe

theorem line_away (hm : s.banks.mask[(10 : Fin 13)] = true) : s.line.queue ≠ [] ∨ s.line.state = .sending := by
  have hunsafe : lineSafe s = false :=
    unsafe_of_adoptIf_still (fun bank u => (adoptLine_under bank).banks u) hn.line ht hm
  simp only [lineSafe, Bool.and_eq_false_iff, List.isEmpty_eq_false_iff, decide_eq_false_iff_not, not_not] at hunsafe
  exact hunsafe

theorem capture_away (hm : s.banks.mask[(12 : Fin 13)] = true) : ∃ i : Fin 4, s.capture.slots[i].state = .filling := by
  have hunsafe : captureSafe s = false :=
    unsafe_of_adoptIf_still (fun bank u => (adoptCapture_under bank).banks u) hn.capture ht hm
  simp only [captureSafe, decide_eq_false_iff_not] at hunsafe
  obtain ⟨i, hi⟩ := Option.ne_none_iff_exists'.1 hunsafe
  exact ⟨i, inState_some hi⟩

end

/-! ## The line adopts last (R80) -/

/-- What a report makes of the Report Queue depends on the queue and the time. -/
theorem report_congr (hr : t.reports = s.reports) (ht : t.time = s.time) (code : ReportCode) (src : Source)
    (cause : Option Nat) (value : Option Int) :
    (report code src cause value t).reports = (report code src cause value s).reports := by
  rw [report, report, submit_reports, submit_reports, hr]
  unfold stampReport
  rw [ht]

/-- R77: an acknowledged attempt at the last entry leaves an empty queue and the line waiting. -/
theorem endAttempt_last {e : TxEntry} (hs : s.line.state = .sending) (hq : s.line.queue = [e]) (he : e.changed = false) :
    (endAttempt true s).line.queue = [] ∧ (endAttempt true s).line.state = .waiting ∧
      (∀ d, (endAttempt true s).line.freeSince = some d → d = s.time.now) ∧
      endAttempt true s = { s with line := (endAttempt true s).line } := by
  simp [endAttempt, hs, settleHead, hq, he, goWaiting, updWires, LineCtl.noMessage, LineCtl.timed, State.updLine]

theorem busFreeTime_pos (bank : List Byte) (l : LineCtl) (h : l.table = some (lineTableOf bank)) : 0 < busFreeTime l := by
  simp [busFreeTime, h, lineTableOf]

/-- R80: a line that has just gone WAITING adopts and stays there. -/
theorem adoptLine_waiting (hf : ∀ d, s.line.freeSince = some d → d = s.time.now) (bank : List Byte) :
    adoptLine bank s = s.updLine fun l => { l with table := some (lineTableOf bank) } := by
  have hpos := busFreeTime_pos bank { s.line with table := some (lineTableOf bank) } rfl
  unfold adoptLine adoptLineTable
  dsimp only
  split
  · rfl
  · next d hd =>
    obtain rfl := hf d hd
    rw [if_neg]
    simp only [Bool.and_eq_true, decide_eq_true_eq]
    rintro ⟨_, hle⟩
    exact absurd hle (Nat.not_le.2 (Nat.lt_add_of_pos_right hpos))

theorem sweepOnce_of_settled (h : s.banks.target = none) : sweepOnce s = s := by
  have hfeeders : forEach feeders (fun f => adoptIf (feederMark f) (feederSafe f) (fun b => adoptFeeder true b f)) s = s :=
    forEach_keeps (· = s) _ _ (fun f _ u hu => by rw [hu, adoptIf_of_settled _ _ _ h]) s rfl
  unfold sweepOnce
  rw [hfeeders]
  simp only [adoptIf_of_settled _ _ _ h]

theorem adoptIf_unmarked {k : Fin 13} {safe : State → Bool} {adopt : List Byte → State → State}
    (h : s.banks.mask[k] = false) : adoptIf k safe adopt s = s := by
  unfold adoptIf marked
  rw [h]
  cases s.banks.target <;> rfl

/-- R150: completing a switch-over reports it. -/
theorem completeSwitch_reports (bk : BankId) (s : State) : (completeSwitch bk s).reports =
    (report .active .bank (some (bankCode bk)) none s).reports := by
  unfold completeSwitch
  split <;> exact report_congr rfl rfl ..

/-- R149, R150: with the line's mark alone left and the line at its safe point, the line adopts and the switch-over is
complete. -/
theorem finish_line (ht : s.banks.target = some bk) (hm : s.banks.mask = (Vector.replicate 13 false).set 10 true)
    (hsafe : lineSafe s = true) : finish s = rebuildConsumers (completeSwitch bk
      ((adoptLine (bankBytes bk s) s).updBanks fun b => { b with mask := Vector.replicate 13 false })) := by
  have hunmarked (j : Fin 13) (hj : j ≠ 10) : s.banks.mask[j] = false := by
    rw [hm]
    revert j
    decide
  have hcleared : s.banks.mask.set 10 false = Vector.replicate 13 false := by
    rw [hm]
    decide
  have hfeeders : forEach feeders (fun f => adoptIf (feederMark f) (feederSafe f) (fun b => adoptFeeder true b f)) s = s :=
    forEach_keeps (· = s) _ _
      (fun f _ u hu => by rw [hu, adoptIf_unmarked (hunmarked _ (ne_feederMark (by decide) f).symm)]) s rfl
  have hbanks := (adoptLine_under (bankBytes bk s)).banks s
  have hline : adoptIf 10 lineSafe adoptLine s = completeSwitch bk
      ((adoptLine (bankBytes bk s) s).updBanks fun b => { b with mask := Vector.replicate 13 false }) := by
    have hmask : (adoptLine (bankBytes bk s) s).banks.mask.set 10 false = Vector.replicate 13 false := by
      rw [hbanks, hcleared]
    have hset : ((adoptLine (bankBytes bk s) s).updBanks fun b => { b with mask := b.mask.set 10 false }) =
        (adoptLine (bankBytes bk s) s).updBanks fun b => { b with mask := Vector.replicate 13 false } :=
      congrArg (fun m => (adoptLine (bankBytes bk s) s).updBanks fun b => { b with mask := m }) hmask
    have hacts : adoptIf 10 lineSafe adoptLine s = clearMark 10 (adoptLine (bankBytes bk s) s) := by
      unfold adoptIf
      simp [ht, marked, hm, hsafe]
    have hlast : ¬ ∃ j : Fin 13, ((adoptLine (bankBytes bk s) s).banks.mask.set 10 false)[j] = true := by
      rw [hmask]
      decide
    rw [hacts, clearMark_underway (by rw [hbanks, ht])]
    exact (if_neg hlast).trans (congrArg (completeSwitch bk) hset)
  have hround : sweepOnce s = completeSwitch bk
      ((adoptLine (bankBytes bk s) s).updBanks fun b => { b with mask := Vector.replicate 13 false }) := by
    unfold sweepOnce
    rw [hfeeders, adoptIf_unmarked (hunmarked 9 (by decide)), hline]
    exact adoptIf_of_settled _ _ _ (by rw [completeSwitch_banks])
  unfold finish
  rw [if_pos (by simp [switchPending, ht])]
  show rebuildConsumers (sweeps 12 (sweepOnce s)) = _
  rw [hround, sweeps_of_still]
  exact sweepOnce_of_settled (by rw [completeSwitch_banks])

/-- R80, R150: the last attempt ends, the line adopts, and the switch-over is complete. -/
theorem attemptEnd_completes {e : TxEntry} (ht : s.banks.target = some bk)
    (hm : s.banks.mask = (Vector.replicate 13 false).set 10 true) (hs : s.line.state = .sending)
    (hq : s.line.queue = [e]) (he : e.changed = false) :
      ∃ t, exec (.sendAttemptEnd true) s = .next t ∧ t.line.table = some (lineTableOf (bankBytes bk s)) ∧
        t.line.queue = [] ∧ t.line.state = .waiting ∧ t.banks.target = none ∧ t.banks.active = some bk ∧
        t.banks.mask = Vector.replicate 13 false ∧ bankState bk t = .active ∧
        t.reports = (report .active .bank (some (bankCode bk)) none s).reports := by
  obtain ⟨hqueue, hstate, hfree, hframe⟩ := endAttempt_last hs hq he
  have hexec : exec (.sendAttemptEnd true) s = .next (finish (endAttempt true s)) := rfl
  generalize endAttempt true s = v at hqueue hstate hfree hframe hexec
  have hbanks : v.banks = s.banks := by rw [hframe]
  have htime : v.time = s.time := by rw [hframe]
  have hreports : v.reports = s.reports := by rw [hframe]
  have hbytes : bankBytes bk v = bankBytes bk s := by cases bk <;> simp only [bankBytes, hbanks]
  rw [finish_line (by rw [hbanks, ht]) (by rw [hbanks, hm]) (by simp [lineSafe, hqueue, hstate]),
    adoptLine_waiting (by rw [htime]; exact hfree), hbytes] at hexec
  refine ⟨_, hexec, ?_⟩
  rw [rebuildConsumers_eq, completeSwitch_eq, completeSwitch_reports, completeSwitch_banks]
  refine ⟨rfl, hqueue, hstate, rfl, rfl, rfl, ?_, report_congr hreports htime ..⟩
  cases bk <;> rfl

/-! ## A switch-over begun (R148) -/

theorem StreamsAdopted.entry (h : StreamsAdopted bank s t) (k : Fin 24) :
    t.matcher.entries[k] = carryEntry s.matcher.entries (streamEntryOf bank k) := by
  rw [h.matcher]
  exact Vector.getElem_ofFn k.isLt

/-- R18: with nothing waiting, a channel keeps its record or is reset, whatever its list becomes. -/
theorem StreamsAdopted.rebuilt (h : StreamsAdopted bank s t) {c : Fin 24} (hw : (s.chan c).waiting = [])
    {r : State} (hr : rebuildConsumers t = r) :
    (feedOf s.matcher.entries c = feedOf t.matcher.entries c →
      r.chan c = { s.chan c with consumers := (r.chan c).consumers }) ∧
    (feedOf s.matcher.entries c ≠ feedOf t.matcher.entries c →
      r.chan c = { Channel.initial with consumers := (r.chan c).consumers }) := by
  have hc : r.chan c = { (if feedOf s.matcher.entries c = feedOf t.matcher.entries c then s.chan c
      else resetChannel (s.chan c)) with consumers := (r.chan c).consumers } := by
    rw [← hr, rebuildConsumers_chan, h.chan c]
  refine ⟨fun hf => ?_, fun hf => ?_⟩
  · rwa [if_pos hf] at hc
  · rw [if_neg hf, resetChannel, hw] at hc
    exact hc

/-- R148, R149: an ACTIVATE that is taken with nothing waiting between the blocks. -/
theorem activate_switches {src : Byte} (hm : Manages src s) (ht : s.banks.target = none)
    (hv : bankState (standby s) s = .valid) (hd : Drained s) (tag : Byte) : ∃ ring r w,
      exec (.activate src tag []) s = .next { w with ring := ring, chans := r.chans } ∧ rebuildConsumers w = r ∧
      Switching (standby s) s w ∧ StreamsAdopted (bankBytes (standby s) s) s w ∧ NoneMoves w := by
  obtain ⟨ring, e⟩ := activate_done hm ht hv tag
  rw [drainAll_of_drained (drained_goodFrame hd)] at e
  have hg : Steady ∅ s (goodFrame s) := Steady.rfl.goodFrame
  have hsw := hg.switching (switchDone_switching (goodFrame s))
  have hstreams := hg.streamsAdopted (switchDone_adopted (goodFrame s))
  have hbytes : bankBytes (standby s) (goodFrame s) = bankBytes (standby s) s := by
    cases standby s <;> simp only [bankBytes, goodFrame_banks]
  rw [standby_goodFrame] at hsw hstreams
  rw [hbytes] at hstreams
  exact ⟨ring, _, _, e, rfl, hsw, hstreams, switchDone_noneMoves (goodFrame s)⟩

end Sys2Proof.Machine

namespace Sys2Proof.Proofs
open Sys2Proof.Machine

/-- Settles O25: an ACTIVATE is the switch-over of `activate_done`, whose adoptions are those of `Switching` and
`StreamsAdopted` and whose rounds end where `NoneMoves`; the line that adopts last completes one by `finish_line`. -/
theorem firstActivation : Obligations.FirstActivation := by
  refine ⟨fun src tag s hm => ⟨fun ht => ?pending, fun ht hv => ?notValid, fun hactive ht hv => ?first⟩,
    fun src tag s hm ht hv hd => ?switchOver, fun bk e s ht hm hs hq he => ?line⟩
  case pending =>
    rw [activate_request hm, requestActivate_served (by simp [hm.2]), if_pos (by simpa [switchPending] using ht)]
    rfl
  case notValid =>
    rw [activate_request hm, requestActivate_served (by simp [hm.2]), if_neg (by simp [switchPending, ht]),
      if_pos (by simpa [standby_goodFrame, bankState_goodFrame] using hv)]
    rfl
  case first =>
    obtain ⟨t, e, hact, hA, hB, htarget, hmask, hbankA, hbankB, hclasses, hadopted⟩ := activate_first hm hactive ht hv tag
    exact ⟨t, e, hact, hA, hB, htarget, hmask, hbankA, hbankB,
      fun f => ⟨hadopted (.evaluator f), hadopted (.sequencer f), hadopted (.device (.fm f)), hadopted (.device (.ft f))⟩,
      hadopted .rectifier, hadopted (.device .dcm), hadopted (.device .acm), hadopted .line, hclasses,
      hadopted .capture⟩
  case switchOver =>
    obtain ⟨ring, r, w, e, hr, hsw, hstreams, hnone⟩ := activate_switches hm ht hv hd tag
    have haway {j : Fin 13} (hj : w.banks.mask[j] = true) : w.banks.target ≠ none := by
      simp [(hsw.pending hj).target]
    have hcounts : w.matcher.unmatched = s.matcher.unmatched ∧ w.matcher.malformed = s.matcher.malformed := by
      rw [hstreams.matcher]
      exact ⟨rfl, rfl⟩
    refine ⟨_, e, hcounts.1, hcounts.2,
      fun k => ?entry, fun c => (hstreams.rebuilt (hd.1 c) hr :),
      fun c f => ⟨hr ▸ evaluator_mem, hr ▸ sequencer_mem⟩, fun c => ⟨hr ▸ rectifier_mem, hr ▸ capture_mem⟩,
      hstreams.classes, hstreams.streamsMark, hstreams.reportsMark, fun f => ⟨fun hj => ?adopted, fun hj => ?marked⟩,
      fun hj => ⟨hsw.new .rectifier hj, hsw.new (.device .dcm) hj, hsw.new (.device .acm) hj⟩,
      fun hj => ⟨rect_away (s := w) hnone (haway (j := 9) hj) hj, hsw.old .rectifier hj, hsw.old (.device .dcm) hj,
        hsw.old (.device .acm) hj⟩,
      fun hj => hsw.new .line hj, fun hj => ⟨line_away (s := w) hnone (haway (j := 10) hj) hj, hsw.old .line hj⟩,
      fun hj => hsw.new .capture hj,
      fun hj => ⟨capture_away (s := w) hnone (haway (j := 12) hj) hj, hsw.old .capture hj⟩,
      hsw.bankA, hsw.bankB, fun hc => ?complete, fun hc => ?left⟩
    case entry =>
      intro _ n _
      have hn : n = carryEntry s.matcher.entries (streamEntryOf (bankBytes (standby s) s) k) := hstreams.entry k
      obtain ⟨hunit, hstream, hassign⟩ := carryEntry_key s.matcher.entries (streamEntryOf (bankBytes (standby s) s) k)
      rw [hn]
      refine ⟨hunit, hstream, hassign, fun j hu hj hfirst => carryEntry_carried hu hj hfirst, fun hno => ?_⟩
      rw [carryEntry_fresh hno]
      exact ⟨rfl, rfl, rfl, rfl, rfl, rfl, rfl, rfl, rfl⟩
    case adopted =>
      exact ⟨hsw.new (.evaluator f) hj, hsw.new (.sequencer f) hj, hsw.new (.device (.fm f)) hj,
        hsw.new (.device (.ft f)) hj⟩
    case marked =>
      exact ⟨feeder_away (s := w) hnone (haway (j := feederMark f) hj) hj, hsw.old (.evaluator f) hj,
        hsw.old (.sequencer f) hj, hsw.old (.device (.fm f)) hj, hsw.old (.device (.ft f)) hj⟩
    case complete =>
      obtain ⟨htarget, hactive, hstates, -⟩ := hsw.switched hc
      refine ⟨htarget, hactive, (hstates _).trans (if_pos rfl), fun old ho => (hstates old).trans ?_⟩
      rw [switchedState, if_neg (standby_ne_active s old ho), if_pos ho]
    case left =>
      obtain ⟨j, hj⟩ := not_forall.1 hc
      obtain ⟨htarget, hactive, hstates, -⟩ := hsw.pending (j := j) (by simpa using hj)
      exact ⟨htarget, hactive, hstates .a, hstates .b⟩
  case line => exact attemptEnd_completes ht hm hs hq he

end Sys2Proof.Proofs

end

section
-- As above: one proof after another.
set_option Elab.async false

/-! SUPPORT. An arrival at a Feeder Evaluator (R27 to R33): the copy is taken, its missing instants are worked,
and then its own, by the checks in their order. -/

namespace Sys2Proof.Machine
variable {s : State} {f : Fin 8} {ft : FeederSettings} {k : Copy} {rest : List Copy}

/-! ## Taking a copy (R25, R27) -/

/-- The evaluator evaluates: the only states in which an element runs (R27). -/
def Evaluating (e : Evaluator) : Prop := e.state = .quiet ∨ e.state = .rising

/-- What an evaluator works of a copy of its VALID channel: the missing instants, and then, if it still evaluates, the
own one. -/
def workCopy (f : Fin 8) (k : Copy) (s : State) : State :=
  match evaluates f k.chan (missingSteps f k.chan k.missing s) with
  | none => missingSteps f k.chan k.missing s
  | some t => ownStep f t k.own (k.hist.getD 3 missingInstant) (missingSteps f k.chan k.missing s)

/-- The record after the oldest copy is taken off, with the view it gives. -/
def takeOff (view : ChanState) (rest : List Copy) (e : Evaluator) : Evaluator :=
  { e with inbox := rest, chanView := view }

/-- With no switch-over pending nothing follows the copy. -/
theorem evaluatorArrival_settled (hs : Settled s) (hi : (s.ev f).inbox = k :: rest) : exec (.evaluatorArrival f) s =
    .next (takeEvaluatorCopy f k (s.updEv f fun e => { e with inbox := rest })) := by
  refine next_eq ?_
  show evaluatorTakes f s = _
  unfold evaluatorTakes
  rw [hi]
  have hkept := takeEvaluatorCopy_kept f k (s.updEv f fun e => { e with inbox := rest })
  exact finish_of_settled ((hkept.settled hs).target.trans hs)

/-- R25: where no element runs, the copy changes the view alone. -/
theorem takeEvaluatorCopy_view (hs : (s.ev f).settings = some ft) (hc : ft.chan = k.chan)
    (h : ¬ (Evaluating (s.ev f) ∧ k.after = .valid)) : takeEvaluatorCopy f k s = viewChange f k.after s := by
  unfold takeEvaluatorCopy
  rw [if_pos (by simp [hs, hc])]
  cases he : (s.ev f).state <;> simp only
  all_goals exact if_neg fun hv => h ⟨by simp [Evaluating, he], hv⟩

theorem viewChange_stays_valid (h : Evaluating (s.ev f)) :
    viewChange f .valid s = s.updEv f fun e => { e with chanView := .valid } := by
  unfold viewChange
  rcases h with h | h <;> simp [h]

/-- R27: a copy that leaves the channel VALID is worked in QUIET and RISING. -/
theorem takeEvaluatorCopy_works (hs : (s.ev f).settings = some ft) (hc : ft.chan = k.chan)
    (h : Evaluating (s.ev f)) (hv : k.after = .valid) :
    takeEvaluatorCopy f k s = workCopy f k (s.updEv f fun e => { e with chanView := .valid }) := by
  rw [← viewChange_stays_valid h]
  unfold takeEvaluatorCopy workCopy
  rw [if_pos (by simp [hs, hc])]
  rcases h with h | h <;> simp only [h, hv, if_true] <;> rfl

/-- R25: an arrival that runs no element. -/
theorem evaluatorArrival_views (hs : Settled s) (hi : (s.ev f).inbox = k :: rest) (ht : (s.ev f).settings = some ft)
    (hc : ft.chan = k.chan) (h : ¬ (Evaluating (s.ev f) ∧ k.after = .valid)) :
    exec (.evaluatorArrival f) s = .next (viewChange f k.after (s.updEv f fun e => { e with inbox := rest })) := by
  rw [evaluatorArrival_settled hs hi,
    takeEvaluatorCopy_view (ft := ft) (by simpa using ht) hc (by simpa [Evaluating] using h)]

/-- R27: an arrival that is worked. -/
theorem evaluatorArrival_works (hs : Settled s) (hi : (s.ev f).inbox = k :: rest) (ht : (s.ev f).settings = some ft)
    (hc : ft.chan = k.chan) (h : Evaluating (s.ev f)) (hv : k.after = .valid) :
    exec (.evaluatorArrival f) s = .next (workCopy f k (s.updEv f (takeOff .valid rest))) := by
  rw [evaluatorArrival_settled hs hi,
    takeEvaluatorCopy_works (ft := ft) (by simpa using ht) hc (by simpa [Evaluating] using h) hv, updEv_updEv]
  rfl

theorem evaluates_some {c : Fin 24} (ht : (s.ev f).settings = some ft) (hc : ft.chan = c) (h : Evaluating (s.ev f)) :
    evaluates f c s = some ft := by
  unfold evaluates
  rcases h with h | h <;> simp [ht, hc, h]

/-- R27: with no missing instant left, the own one is worked. -/
theorem workCopy_own (ht : (s.ev f).settings = some ft) (hc : ft.chan = k.chan) (h : Evaluating (s.ev f))
    (hm : k.missing = 0) : workCopy f k s = ownStep f ft k.own (k.hist.getD 3 missingInstant) s := by
  unfold workCopy
  simp only [hm, missingSteps, evaluates_some ht hc h]

/-- R27, R28: the oldest missing instant is worked first. -/
theorem workCopy_missing {m : Nat} (hs : Settled s) (ht : (s.ev f).settings = some ft) (hc : ft.chan = k.chan)
    (h : Evaluating (s.ev f)) (hm : k.missing = m + 1) :
    workCopy f k s = workCopy f { k with missing := m } (missingStep f ft s) := by
  have hstep : finish (missingStep f ft s) = missingStep f ft s :=
    finish_of_settled ((Steady.rfl (x := ∅)).missingStep.target.trans hs)
  unfold workCopy
  simp only [hm, missingSteps, evaluates_some ht hc h, hstep]

/-- R27: an arrival whose own instant comes alone. -/
theorem evaluatorArrival_own (hs : Settled s) (hi : (s.ev f).inbox = k :: rest) (ht : (s.ev f).settings = some ft)
    (hc : ft.chan = k.chan) (h : Evaluating (s.ev f)) (hv : k.after = .valid) (hm : k.missing = 0) :
    exec (.evaluatorArrival f) s =
      .next (ownStep f ft k.own (k.hist.getD 3 missingInstant) (s.updEv f (takeOff .valid rest))) := by
  have hev : (s.updEv f (takeOff .valid rest)).ev f = takeOff .valid rest (s.ev f) := State.updEv_ev_same ..
  rw [evaluatorArrival_works hs hi ht hc h hv,
    workCopy_own (ft := ft) (by rw [hev]; exact ht) hc (by rw [hev]; exact h) hm]

/-! ## The checks of an own instant (R29 to R33) -/

section
variable {th n : Nat} {own old : Instant}

/-- R31: the instants that count against a threshold. -/
theorem overThreshold_iff : overThreshold th own = true ↔
    (usable own = true ∧ (th : Int) ≤ signed own) ∨ (own.mark = .saturated ∧ 0 < signed own) := by
  simp [overThreshold]

/-- R30, R31: a count of instants in a row. -/
def countTo (th : Nat) (own : Instant) (n : Nat) : Nat := if overThreshold th own then n + 1 else 0

/-- R30: the second counting instant in a row. -/
theorem two_le_countTo : 2 ≤ countTo th own n ↔ overThreshold th own = true ∧ 1 ≤ n := by
  unfold countTo
  split <;> simp_all

/-- R31: the definite-time decision on the count with the own instant. -/
theorem definiteMet_countTo : definiteMet ft own (countTo ft.iDt own n) = true ↔
    overThreshold ft.iDt own = true ∧ 8 * ft.tDt ≤ n + 1 := by
  unfold definiteMet countTo
  split <;> simp_all

theorem deltaMet_iff {e : Evaluator} : deltaMet ft own e = true ↔
    usable own = true ∧ (ft.deltaISet : Int) ≤ signed own - e.iBase ∧ ft.tDelay ≤ e.elapsed := by
  simp [deltaMet, and_assoc]

/-- Counts that go by an instant's mark and value are these. -/
theorem eq_countTo {m : Nat} (hc : overThreshold th own = true → m = n + 1)
    (hn : ¬ overThreshold th own = true → m = 0) : m = countTo th own n := by
  unfold countTo
  split
  · next h => exact hc h
  · next h => exact hn h

/-- R30, R31: the record after the counts have moved on. -/
def countedEv (ft : FeederSettings) (own : Instant) (e : Evaluator) : Evaluator :=
  { e with instCount := countTo ft.iMax own e.instCount, dtCount := countTo ft.iDt own e.dtCount }

/-- R30 to R32: the checks in QUIET, in their order. -/
theorem ownStep_quiet (h : (s.ev f).state = .quiet) : ownStep f ft own old s =
    if 2 ≤ countTo ft.iMax own (s.ev f).instCount then tripDecision f .instant (signed own) s
    else if definiteMet ft own (countTo ft.iDt own (s.ev f).dtCount) then tripDecision f .definite (signed own) s
    else startTest f ft own old (s.updEv f (countedEv ft own)) := by
  unfold ownStep
  simp only [h]
  rfl

/-- R30, R33: the record after the own instant in RISING, before the end tests. -/
def risingEv (ft : FeederSettings) (own : Instant) (e : Evaluator) : Evaluator :=
  { countedEv ft own e with
    elapsed := e.elapsed + 1, peak := if usable own then max e.peak (signed own - e.iBase) else e.peak }

/-- R30 to R33: the checks in RISING, in their order. -/
theorem ownStep_rising (h : (s.ev f).state = .rising) : ownStep f ft own old s =
    if 2 ≤ countTo ft.iMax own (s.ev f).instCount then tripDecision f .instant (signed own) s
    else if deltaMet ft own (risingEv ft own (s.ev f)) then tripDecision f .deltaI (signed own - (s.ev f).iBase) s
    else if definiteMet ft own (countTo ft.iDt own (s.ev f).dtCount) then tripDecision f .definite (signed own) s
    else testEnd f ft (slopeOf own old) (s.updEv f (risingEv ft own)) := by
  unfold ownStep
  refine ite_congr rfl (fun _ => rfl) fun _ => ?_
  dsimp only
  split
  · next hq => exact absurd (h.symm.trans hq) (by decide)
  · rfl
  · next _ hr => exact absurd h hr

/-- R32: a slope below the start threshold starts nothing. -/
theorem startTest_below (h : slopeOf own old < ft.dStart) : startTest f ft own old s = s := if_neg (by omega)

/-- R32: the record of an event's start. -/
def startedEv (own old : Instant) (e : Evaluator) : Evaluator :=
  { e with state := .rising, iBase := signed old, elapsed := 0, hold := 0, peak := signed own - signed old }

/-- R32: a slope at the start threshold starts the event, with its trigger when the settings ask for one. -/
theorem startTest_met (h : (ft.dStart : Int) ≤ slopeOf own old) : startTest f ft own old s =
    if ft.captureOnRising then triggerOnly .rising (.feeder f) (s.updEv f (startedEv own old))
    else s.updEv f (startedEv own old) := if_pos h

end

/-! ## The end tests (R32) -/

section
variable {slope : Int}

/-- R32: the hold count after the stop test's slope. -/
def heldTo (ft : FeederSettings) (slope : Int) (n : Nat) : Nat := if (ft.dStop : Int) ≤ slope then 0 else n + 1

/-- The hold reaches stop_hold: the event ends with cause 1. -/
theorem testEnd_stopped (h : ft.stopHold ≤ heldTo ft slope (s.ev f).hold) : testEnd f ft slope s =
    report .eventEnd (.feeder f) (some 1) (some (s.ev f).peak) (s.updEv f Evaluator.endEvent) := by
  have htests : endTests ft slope (s.ev f) = (some 1, (s.ev f).endEvent) := if_pos h
  unfold testEnd
  rw [htests]
  rfl

/-- The event has lasted t_max: it ends with cause 2. -/
theorem testEnd_lapsed (h : heldTo ft slope (s.ev f).hold < ft.stopHold) (ht : ft.tMax ≤ (s.ev f).elapsed) :
    testEnd f ft slope s =
      report .eventEnd (.feeder f) (some 2) (some (s.ev f).peak) (s.updEv f Evaluator.endEvent) := by
  have htests : endTests ft slope (s.ev f) = (some 2, (s.ev f).endEvent) :=
    (if_neg (Nat.not_le.2 h)).trans (if_pos ht)
  unfold testEnd
  rw [htests]
  rfl

/-- The record after end tests of which neither is met. -/
def heldEv (ft : FeederSettings) (slope : Int) (e : Evaluator) : Evaluator := { e with hold := heldTo ft slope e.hold }

/-- Neither is met: the event goes on. -/
theorem testEnd_goesOn (h : heldTo ft slope (s.ev f).hold < ft.stopHold) (ht : (s.ev f).elapsed < ft.tMax) :
    testEnd f ft slope s = s.updEv f (heldEv ft slope) := by
  have htests : endTests ft slope (s.ev f) = (none, heldEv ft slope (s.ev f)) :=
    (if_neg (Nat.not_le.2 h)).trans (if_neg (Nat.not_le.2 ht))
  unfold testEnd
  rw [htests]
  rfl

end

/-! ## Missing instants (R28) -/

/-- R28: the counts after a missing instant. -/
def uncounted (e : Evaluator) : Evaluator := { e with instCount := 0, dtCount := 0 }

theorem missingStep_quiet (h : (s.ev f).state = .quiet) : missingStep f ft s = s.updEv f uncounted := by
  unfold missingStep
  simp only [h]
  rfl

/-- R28: a missing instant in RISING goes on with the end tests at slope 0. -/
theorem missingStep_rising (h : (s.ev f).state = .rising) :
    missingStep f ft s = testEnd f ft 0 (s.updEv f fun e => { uncounted e with elapsed := e.elapsed + 1 }) := by
  unfold missingStep
  simp only [h, updEv_updEv]
  rfl

/-- R28: any number of missing instants in QUIET set the counts to 0 and do no more. -/
theorem workCopy_quiet_missing {m : Nat} (hs : Settled s) (ht : (s.ev f).settings = some ft) (hc : ft.chan = k.chan)
    (h : (s.ev f).state = .quiet) (hm : k.missing = m + 1) :
    workCopy f k s = workCopy f { k with missing := 0 } (s.updEv f uncounted) := by
  induction m generalizing k s with
  | zero => rw [workCopy_missing hs ht hc (.inl h) hm, missingStep_quiet h]
  | succ m ih =>
    have hev : (s.updEv f uncounted).ev f = uncounted (s.ev f) := State.updEv_ev_same ..
    have hrest := ih (s := s.updEv f uncounted) (k := { k with missing := m + 1 }) hs (by rw [hev]; exact ht) hc
      (by rw [hev]; exact h) rfl
    rw [workCopy_missing hs ht hc (.inl h) hm, missingStep_quiet h, hrest, updEv_updEv]
    rfl

/-- R27, R28: what is left of a copy is worked like an arrival of its own. -/
theorem evaluatorArrival_resumes {u : State} {m : Nat} (hs : Settled s) (hi : (s.ev f).inbox = k :: rest)
    (ht : (s.ev f).settings = some ft) (hc : ft.chan = k.chan) (h : Evaluating (s.ev f)) (hv : k.after = .valid)
    (hu : Settled u) (hui : (u.ev f).inbox = { k with missing := m } :: rest) (hut : (u.ev f).settings = some ft)
    (huv : Evaluating (u.ev f))
    (hwork : workCopy f k (s.updEv f (takeOff .valid rest)) =
      workCopy f { k with missing := m } (u.updEv f (takeOff .valid rest))) :
    exec (.evaluatorArrival f) s = exec (.evaluatorArrival f) u := by
  rw [evaluatorArrival_works hs hi ht hc h hv, hwork, evaluatorArrival_works hu hui hut hc huv hv]

/-- A report looks at no evaluator record. -/
theorem report_updEv (code : ReportCode) (src : Source) (cause : Option Nat) (value : Option Int)
    (g : Evaluator → Evaluator) (s : State) :
    (report code src cause value s).updEv f g = report code src cause value (s.updEv f g) := rfl

@[simp] theorem report_ev (code : ReportCode) (src : Source) (cause : Option Nat) (value : Option Int) (s : State) :
    (report code src cause value s).ev f = s.ev f := rfl

end Sys2Proof.Machine

namespace Sys2Proof.Proofs
open Sys2Proof.Machine

/-- Settles O33: an own instant by the checks of `ownStep_quiet`, in their order; missing ones by
`workCopy_quiet_missing`. -/
theorem evaluatorInQuiet : Obligations.EvaluatorInQuiet := by
  refine ⟨fun f k rest t s hs hi ht hc hq hv hm => ?own, fun f k rest t s hs hi ht hc hq hv hm => ?missing⟩
  case own =>
    intro e own old counts slope inst dt
    have hcounts (th : Nat) : counts th ↔ overThreshold th own = true := overThreshold_iff.symm
    have hev : (s.updEv f (takeOff .valid rest)).ev f = takeOff .valid rest (s.ev f) := State.updEv_ev_same ..
    have hexec : exec (.evaluatorArrival f) s = .next (
        if 2 ≤ countTo t.iMax own inst then tripDecision f .instant (signed own) (s.updEv f (takeOff .valid rest))
        else if definiteMet t own (countTo t.iDt own dt) then
          tripDecision f .definite (signed own) (s.updEv f (takeOff .valid rest))
        else startTest f t own old ((s.updEv f (takeOff .valid rest)).updEv f (countedEv t own))) := by
      rw [evaluatorArrival_own hs hi ht hc (.inl hq) hv hm, ownStep_quiet (by rw [hev]; exact hq), hev]
      rfl
    simp only [hcounts]
    refine ⟨fun hmax hinst => ?instant, fun hno hdt hset => ?definite, fun i' dt' hno hno' hi1 hi0 hd1 hd0 => ?counted⟩
    case instant =>
      rw [hexec, if_pos (two_le_countTo.2 ⟨hmax, hinst⟩)]
      exact ⟨_, rfl, tripDecision_tripped rfl _ _⟩
    case definite =>
      rw [hexec, if_neg (two_le_countTo.not.2 hno), if_pos (definiteMet_countTo.2 ⟨hdt, hset⟩)]
      exact ⟨_, rfl, tripDecision_tripped rfl _ _⟩
    case counted =>
      obtain rfl := eq_countTo hi1 hi0
      obtain rfl := eq_countTo hd1 hd0
      rw [hexec, if_neg (two_le_countTo.not.2 hno), if_neg (definiteMet_countTo.not.2 hno'), updEv_updEv]
      refine ⟨fun hbelow => ?below, fun hstart hcap => ?starts, fun hstart hcap => ?captured⟩
      case below =>
        rw [startTest_below hbelow]
        rfl
      case starts =>
        rw [startTest_met hstart, hcap, updEv_updEv]
        rfl
      case captured =>
        rw [startTest_met hstart, hcap, updEv_updEv]
        rfl
  case missing =>
    obtain ⟨m, hm⟩ := Nat.exists_eq_add_one.2 hm
    have hev : (s.updEv f (takeOff .valid rest)).ev f = takeOff .valid rest (s.ev f) := State.updEv_ev_same ..
    have hwork := workCopy_quiet_missing (s := s.updEv f (takeOff .valid rest)) hs (by rw [hev]; exact ht) hc
      (by rw [hev]; exact hq) hm
    refine evaluatorArrival_resumes hs hi ht hc (.inl hq) hv hs (m := 0) ?_ ?_ ?_ ?_
    · simp
    · simpa using ht
    · simpa [Evaluating] using .inl hq
    · rw [hwork]
      simp only [updEv_updEv]
      rfl

/-- Settles O34: an own instant by the checks of `ownStep_rising` and the end tests; a missing one by
`missingStep_rising`, after which the rest of the copy is worked as an arrival of its own. -/
theorem evaluatorInRising : Obligations.EvaluatorInRising := by
  refine ⟨fun f k rest t s hs hi ht hc hr hv hm => ?own, fun f k rest t m s hs hi ht hc hr hv hm hstop => ?missing⟩
  case own =>
    intro e own old counts slope delta peak hold counted quiet inst rate definite
    have hev : (s.updEv f (takeOff .valid rest)).ev f = takeOff .valid rest (s.ev f) := State.updEv_ev_same ..
    have hexec : exec (.evaluatorArrival f) s = .next (
        if 2 ≤ countTo t.iMax own e.instCount then
          tripDecision f .instant (signed own) (s.updEv f (takeOff .valid rest))
        else if deltaMet t own (risingEv t own (takeOff .valid rest e)) then
          tripDecision f .deltaI delta (s.updEv f (takeOff .valid rest))
        else if definiteMet t own (countTo t.iDt own e.dtCount) then
          tripDecision f .definite (signed own) (s.updEv f (takeOff .valid rest))
        else testEnd f t slope ((s.updEv f (takeOff .valid rest)).updEv f (risingEv t own))) := by
      rw [evaluatorArrival_own hs hi ht hc (.inr hr) hv hm, ownStep_rising (by rw [hev]; exact hr), hev]
      rfl
    have hinst : 2 ≤ countTo t.iMax own e.instCount ↔ inst := two_le_countTo
    have hrate : deltaMet t own (risingEv t own (takeOff .valid rest e)) = true ↔ rate := deltaMet_iff
    have hdefinite : definiteMet t own (countTo t.iDt own e.dtCount) = true ↔ definite := definiteMet_countTo
    have hworked : ((s.updEv f (takeOff .valid rest)).updEv f (risingEv t own)).ev f =
        risingEv t own (takeOff .valid rest e) := by rw [State.updEv_ev_same, hev]
    have htests (hi : ¬ inst) (hr : ¬ rate) (hd : ¬ definite) : exec (.evaluatorArrival f) s =
        .next (testEnd f t slope ((s.updEv f (takeOff .valid rest)).updEv f (risingEv t own))) := by
      rw [hexec, if_neg (hinst.not.2 hi), if_neg (hrate.not.2 hr), if_neg (hdefinite.not.2 hd)]
    refine ⟨fun hi => ?instant, fun hi hr => ?deltaI, fun hi hr hd => ?definite, fun hi hr hd hstop => ?stopped,
      fun hi hr hd hgo hmax => ?lapsed, fun hi hr hd hgo hmax => ?goesOn⟩
    case instant =>
      rw [hexec, if_pos (hinst.2 hi)]
      exact ⟨_, rfl, tripDecision_tripped rfl _ _⟩
    case deltaI =>
      rw [hexec, if_neg (hinst.not.2 hi), if_pos (hrate.2 hr)]
      exact ⟨_, rfl, tripDecision_tripped rfl _ _⟩
    case definite =>
      rw [hexec, if_neg (hinst.not.2 hi), if_neg (hrate.not.2 hr), if_pos (hdefinite.2 hd)]
      exact ⟨_, rfl, tripDecision_tripped rfl _ _⟩
    case stopped =>
      rw [htests hi hr hd, testEnd_stopped (by rw [hworked]; exact hstop), hworked, updEv_updEv, updEv_updEv]
      rfl
    case lapsed =>
      rw [htests hi hr hd, testEnd_lapsed (by rw [hworked]; exact hgo) (by rw [hworked]; exact hmax), hworked,
        updEv_updEv, updEv_updEv]
      rfl
    case goesOn =>
      rw [htests hi hr hd, testEnd_goesOn (by rw [hworked]; exact hgo) (by rw [hworked]; exact hmax), updEv_updEv,
        updEv_updEv]
      rfl
  case missing =>
    intro e left quiet ended
    have hev : (s.updEv f (takeOff .valid rest)).ev f = takeOff .valid rest (s.ev f) := State.updEv_ev_same ..
    have hwork := workCopy_missing (s := s.updEv f (takeOff .valid rest)) hs (by rw [hev]; exact ht) hc
      (by rw [hev]; exact .inr hr) hm
    rw [missingStep_rising (by rw [hev]; exact hr)] at hwork
    generalize hu : (s.updEv f (takeOff .valid rest)).updEv f
      (fun e => { uncounted e with elapsed := e.elapsed + 1 }) = u at hwork
    have hworked : u.ev f = { uncounted (takeOff .valid rest e) with elapsed := e.elapsed + 1 } := by
      rw [← hu, State.updEv_ev_same, hev]
      rfl
    have hheld : heldTo t 0 (u.ev f).hold = e.hold + 1 := by
      rw [hworked]
      exact if_neg (by omega)
    have helapsed : (u.ev f).elapsed = e.elapsed + 1 := by rw [hworked]
    have hends (c : Nat) (hc' : testEnd f t 0 u = report .eventEnd (.feeder f) (some c) (some (u.ev f).peak)
        (u.updEv f Evaluator.endEvent)) : exec (.evaluatorArrival f) s = exec (.evaluatorArrival f) (ended c) := by
      refine evaluatorArrival_resumes hs hi ht hc (.inr hr) hv hs (u := ended c) (m := m) ?_ ?_ ?_ ?_
      · simp [ended, quiet, left]
      · simpa [ended, quiet, left] using ht
      · simp [ended, quiet, left, Evaluating]
      · rw [hwork, hc', hworked, ← hu]
        simp only [ended, report_updEv, updEv_updEv]
        rfl
    refine ⟨fun hend => ?stopped, fun hgo hmax => ?lapsed, fun hgo hmax => ?goesOn⟩
    case stopped => exact hends 1 (testEnd_stopped (by rw [hheld]; exact hend))
    case lapsed => exact hends 2 (testEnd_lapsed (by rw [hheld]; exact hgo) (by rw [helapsed]; exact hmax))
    case goesOn =>
      refine evaluatorArrival_resumes hs hi ht hc (.inr hr) hv hs (m := m) ?_ ?_ ?_ ?_
      · simp [left]
      · simpa [left] using ht
      · simpa [left, Evaluating] using .inr hr
      · rw [hwork, testEnd_goesOn (by rw [hheld]; exact hgo) (by rw [helapsed]; exact hmax), ← hheld, hworked, ← hu]
        simp only [updEv_updEv]
        rfl

end Sys2Proof.Proofs

/-! SUPPORT. The view changes and position notices of a Feeder Evaluator (R24 to R26). -/

namespace Sys2Proof.Machine
variable {s : State} {f : Fin 8} {ft : FeederSettings}

/-! ## Settling (R23) and the view (R25) -/

/-- R23: an evaluator that does not settle as DEGRADED makes no report. -/
theorem settle_quietly {st : EvState} (hst : settledState (s.ev f) = st) (hd : st ≠ .degraded) :
    settle f s = s.updEv f fun e => { e.clearElements with state := st } := by
  subst hst
  unfold settle
  simp only [hd, decide_false, Bool.false_and, Bool.false_eq_true, if_false]
  rfl

/-- R23: the state an evaluator with settings settles in. -/
theorem settledState_eq {e : Evaluator} (hs : e.settings = some ft) : settledState e =
    if !ft.inService then .off else if e.chanView ≠ .valid then .degraded else if e.posView = .opened then .off
    else .quiet := by
  simp only [settledState, inService, hs]

theorem inService_eq {e : Evaluator} (hs : e.settings = some ft) : inService e = ft.inService := by
  simp [inService, hs]

/-- R25: in TRIPPING a view is taken and nothing follows. -/
theorem viewChange_tripping (h : (s.ev f).state = .tripping) (new : ChanState) :
    viewChange f new s = s.updEv f fun e => { e with chanView := new } := by
  unfold viewChange
  simp only [h]

/-- R25: in OFF a view that does not leave VALID in service is taken and nothing follows. -/
theorem viewChange_stays_off {new : ChanState} (hs : (s.ev f).settings = some ft) (h : (s.ev f).state = .off)
    (hk : (!ft.inService || (s.ev f).chanView ≠ .valid || new = .valid) = true) :
    viewChange f new s = s.updEv f fun e => { e with chanView := new } := by
  unfold viewChange
  simp only [h]
  refine if_neg ?_
  rw [inService_eq hs]
  simp only [Bool.or_eq_true, Bool.not_eq_true', decide_eq_true_eq] at hk
  simp only [Bool.and_eq_true, decide_eq_true_eq, not_and, not_not]
  rintro ⟨hi, hv⟩
  simpa [hi, hv] using hk

/-- R25: in DEGRADED a view that becomes VALID settles the evaluator, as OFF or QUIET. -/
theorem viewChange_recovers {new : ChanState} (hs : (s.ev f).settings = some ft) (h : (s.ev f).state = .degraded)
    (hn : new = .valid) : viewChange f new s = s.updEv f fun e => { e.clearElements with
      chanView := new, state := if !ft.inService || (s.ev f).posView = .opened then .off else .quiet } := by
  have hst : settledState ((s.updEv f fun e => { e with chanView := new }).ev f) =
      if !ft.inService || (s.ev f).posView = .opened then .off else .quiet := by
    rw [State.updEv_ev_same, settledState_eq (e := { s.ev f with chanView := new }) hs]
    cases ft.inService <;> simp [hn]
  unfold viewChange
  simp only [h, if_pos hn]
  rw [settle_quietly hst (by split <;> decide), updEv_updEv]
  rfl

/-! ## Position notices (R24) -/

/-- R24: the record with the position noticed. -/
def noticedEv (new : Position) (e : Evaluator) : Evaluator := { e with posView := new }

/-- R24: in OFF, in service on a VALID channel, a position other than OPEN brings the evaluator to QUIET. -/
theorem evaluatorNotice_starts {new : Position} (hs : (s.ev f).settings = some ft) (h : (s.ev f).state = .off)
    (hn : new ≠ .opened) (hi : ft.inService = true) (hv : (s.ev f).chanView = .valid) : evaluatorNotice f new s =
      s.updEv f fun e => { (noticedEv new e).clearElements with state := .quiet } := by
  have hst : settledState ((s.updEv f (noticedEv new)).ev f) = .quiet := by
    rw [State.updEv_ev_same, settledState_eq (e := noticedEv new (s.ev f)) hs]
    simp [noticedEv, hi, hv, hn]
  have hsettles : evaluatorNotice f new s = settle f (s.updEv f (noticedEv new)) := by
    unfold evaluatorNotice
    simp only [h]
    exact if_pos (by simp [inService_eq hs, hi, hv, hn])
  rw [hsettles, settle_quietly hst (by decide), updEv_updEv]
  rfl

/-- R24: OPEN in QUIET or RISING brings the evaluator to OFF. -/
theorem evaluatorNotice_stops (h : Evaluating (s.ev f)) : evaluatorNotice f .opened s =
    s.updEv f fun e => { (noticedEv .opened e).clearElements with state := .off } := by
  unfold evaluatorNotice
  rcases h with h | h <;> simp only [h, if_true, updEv_updEv] <;> rfl

/-- R24: the record from which a tripped evaluator settles. -/
def untrippedEv (e : Evaluator) : Evaluator := { noticedEv .opened e with pendingTrip := none }

/-- R24: the record of a tripped evaluator whose main breaker is reported OPEN. -/
def openedEv (st : EvState) (e : Evaluator) : Evaluator :=
  { (untrippedEv e).clearElements with state := st }

/-- R24: OPEN in TRIPPING ends the trip, and the evaluator settles. -/
theorem evaluatorNotice_tripping (h : (s.ev f).state = .tripping) : evaluatorNotice f .opened s =
    settle f (s.updEv f untrippedEv) := by
  unfold evaluatorNotice
  simp only [h, if_true, updEv_updEv]
  rfl

/-- R24: out of service or on a VALID channel it settles as OFF. -/
theorem evaluatorNotice_tripping_off (hs : (s.ev f).settings = some ft) (h : (s.ev f).state = .tripping)
    (hk : ft.inService = false ∨ (s.ev f).chanView = .valid) :
    evaluatorNotice f .opened s = s.updEv f (openedEv .off) := by
  have hst : settledState ((s.updEv f untrippedEv).ev f) = .off := by
    rw [State.updEv_ev_same, settledState_eq (e := untrippedEv (s.ev f)) hs]
    rcases hk with hk | hk <;> simp [untrippedEv, noticedEv, hk]
  rw [evaluatorNotice_tripping h, settle_quietly hst (by decide), updEv_updEv]
  rfl

/-- R24, R26: in service with the channel lost it settles as DEGRADED. -/
theorem evaluatorNotice_tripping_degraded (hs : (s.ev f).settings = some ft) (h : (s.ev f).state = .tripping)
    (hi : ft.inService = true) (hv : (s.ev f).chanView ≠ .valid) : evaluatorNotice f .opened s =
      report .feederDegraded (.feeder f) none (some ft.chan.val) (s.updEv f (openedEv .degraded)) := by
  have hev : (s.updEv f untrippedEv).ev f = untrippedEv (s.ev f) := State.updEv_ev_same ..
  have hst : settledState ((s.updEv f untrippedEv).ev f) = .degraded := by
    rw [hev, settledState_eq (e := untrippedEv (s.ev f)) hs]
    simp [untrippedEv, noticedEv, hi, hv]
  rw [evaluatorNotice_tripping h, settle_degraded (ft := ft) (by rw [hev]; exact hs) hst, updEv_updEv]
  · rfl
  · rw [hev]
    exact fun hd => absurd (h.symm.trans hd) (by decide)

/-- R24: the state in which a trip ends. -/
def endState (ft : FeederSettings) (e : Evaluator) : EvState :=
  if ft.inService = true ∧ e.chanView ≠ .valid then .degraded else .off

/-- R24: OPEN in TRIPPING, evaluator by evaluator. -/
theorem evaluatorNotice_tripping_ev (hs : (s.ev f).settings = some ft) (h : (s.ev f).state = .tripping) :
    (evaluatorNotice f .opened s).ev f = openedEv (endState ft (s.ev f)) (s.ev f) ∧
      (evaluatorNotice f .opened s).devs = s.devs ∧ ∀ g, g ≠ f → (evaluatorNotice f .opened s).ev g = s.ev g := by
  unfold endState
  by_cases hk : ft.inService = true ∧ (s.ev f).chanView ≠ .valid
  · rw [evaluatorNotice_tripping_degraded hs h hk.1 hk.2, if_pos hk]
    exact ⟨State.updEv_ev_same .., rfl, fun g hg => State.updEv_ev_ne _ _ hg⟩
  · rw [evaluatorNotice_tripping_off hs h ((not_and_or.1 hk).imp Bool.eq_false_iff.2 not_not.1), if_neg hk]
    exact ⟨State.updEv_ev_same .., rfl, fun g hg => State.updEv_ev_ne _ _ hg⟩

/-- R24: the notices that change the position alone. -/
theorem evaluatorNotice_keeps {new : Position} (hs : (s.ev f).settings = some ft)
    (h : (s.ev f).state = .degraded ∨ (new = .opened ∧ (s.ev f).state = .off) ∨
      (new ≠ .opened ∧ (s.ev f).state = .off ∧ ¬ (ft.inService = true ∧ (s.ev f).chanView = .valid)) ∨
      (new ≠ .opened ∧ ((s.ev f).state = .quiet ∨ (s.ev f).state = .rising ∨ (s.ev f).state = .tripping))) :
    evaluatorNotice f new s = s.updEv f (noticedEv new) := by
  unfold evaluatorNotice
  rcases h with h | ⟨hn, h⟩ | ⟨hn, h, hready⟩ | ⟨hn, h | h | h⟩ <;> simp only [h]
  · rfl
  · exact if_neg (by simp [hn])
  · exact if_neg (by simpa [hn, inService_eq hs] using hready)
  · exact if_neg hn
  · exact if_neg hn
  · exact if_neg hn

end Sys2Proof.Machine

/-! SUPPORT. A POSITION frame (R45, R46): the record it names, and what a change to OPEN of a main breaker leaves of the
evaluators, whatever the feeder's sequence makes of it. -/
namespace Sys2Proof.Machine
variable {s t : State} {f : Fin 8}

/-! ## The frame and its record (R45, R184) -/

/-- R184: a broadcast POSITION frame is relayed, and taken by the Switchgear Supervisor. -/
theorem arriveFrame_position {fr : Frame} (hd : fr.dst = 0xFF) (ht : fr.type = 2) (hs : fr.src ≠ s.ring.own) :
    arriveFrame fr s = finish (takePosition fr ((goodFrame s).updRing (joinRelay fr))) := by
  unfold arriveFrame sortFrame useFrame
  rw [if_neg (by rw [hd]; decide), if_neg hs, if_pos hd, ht]
  rfl

theorem positionFrame_settled {fr : Frame} (hd : fr.dst = 0xFF) (ht : fr.type = 2) (hs : fr.src ≠ s.ring.own)
    (hset : Settled s) :
    exec (.positionFrame fr) s = .next (takePosition fr ((goodFrame s).updRing (joinRelay fr))) := by
  refine next_eq ((arriveFrame_position hd ht hs).trans ?_)
  have hg : ((goodFrame s).updRing (joinRelay fr)).banks.target = none := by simpa [Settled] using hset
  exact finish_of_settled (((takePosition_kept fr _).settled hg).target.trans hg)

theorem deviceList_nodup : deviceList.Nodup := by decide

/-- R45: the one record whose address a frame names. -/
theorem matchingDevices_one {unit elem : Byte} {d : Device} (hd : (s.dev d).addr = some (unit, elem))
    (ho : ∀ e, e ≠ d → (s.dev e).addr ≠ some (unit, elem)) : matchingDevices unit elem s = [d] := by
  have hiff (e : Device) : decide ((s.dev e).addr = some (unit, elem)) = decide (e = d) := by
    by_cases he : e = d
    · simp [he, hd]
    · simp [he, ho e he]
  unfold matchingDevices
  simp only [hiff]
  rw [List.filter_eq, List.count_eq_one_of_mem deviceList_nodup (mem_deviceList d)]
  rfl

/-- R45: a well-formed frame that names one record. -/
theorem takePosition_one {fr : Frame} {el po : Byte} {new : Position} {d : Device} (hp : fr.payload = [el, po])
    (hel : el.toNat ≤ 1) (hpo : framePosition po = some new) (hd : (s.dev d).addr = some (fr.src, el))
    (ho : ∀ e, e ≠ d → (s.dev e).addr ≠ some (fr.src, el)) : takePosition fr s = matchPosition new d s := by
  have h0 : byteAt fr.payload 0 = el := by rw [hp]; rfl
  have h1 : byteAt fr.payload 1 = po := by rw [hp]; rfl
  unfold takePosition
  simp only [h0, h1, hpo, matchingDevices_one hd ho]
  exact if_neg (by simp [hp, hel])

/-! ## What leaves the evaluators alone -/

@[simp] theorem waitDead_evs (f : Fin 8) (n : Nat) (s : State) : (waitDead f n s).evs = s.evs := by
  unfold waitDead
  split <;> rfl

@[simp] theorem requestClose_evs (d : Device) (by_ : Requester) (s : State) : (requestClose d by_ s).2.evs = s.evs := by
  rcases requestClose_cases d by_ s with ⟨_, e⟩ | ⟨_, _, e⟩ | ⟨_, _, e⟩ <;> rw [e]
  exact takeCommand_evs ..

@[simp] theorem closingEntry_evs (f : Fin 8) (s : State) : (closingEntry f s).evs = s.evs := by
  unfold closingEntry
  split
  · exact lockout_evs ..
  · split
    · rfl
    · split
      · rfl
      · dsimp only
        split
        · exact requestClose_evs (.fm f) .sequencer s
        · rw [lockout_evs, requestClose_evs]

@[simp] theorem testingEntry_evs (f : Fin 8) (s : State) : (testingEntry f s).evs = s.evs := by
  unfold testingEntry
  split
  · exact lockout_evs ..
  · dsimp only
    split
    · exact closingEntry_evs ..
    · split
      · exact requestClose_evs (.ft f) .sequencer s
      · rw [lockout_evs, requestClose_evs]

@[simp] theorem testStart_evs (f : Fin 8) (s : State) : (testStart f s).evs = s.evs := by
  unfold testStart
  split
  · rfl
  · split
    · rfl
    · exact testingEntry_evs f s

@[simp] theorem testCleared_evs (f : Fin 8) (s : State) : (testCleared f s).evs = s.evs := by
  unfold testCleared
  dsimp only
  split
  · rfl
  · exact closingEntry_evs f s
  · exact closingEntry_evs f s
  · split
    · exact waitDead_evs ..
    · exact lockout_evs ..
  · split <;> rfl
  · exact lockout_evs ..
  · split
    · rfl
    · exact testStart_evs f s

@[simp] theorem sequencerCompletion_evs (f : Fin 8) (isMain : Bool) (c : Command) (s : State) :
    (sequencerCompletion f isMain c s).evs = s.evs := by
  unfold sequencerCompletion
  dsimp only
  split
  · rfl
  · exact testCleared_evs f s
  · rfl
  · split
    · split
      · rfl
      · exact testStart_evs f s
    · rfl
  · rfl

/-- R51: the end of a main breaker's command is told to its sequence alone. -/
theorem completeCommand_main_evs (f : Fin 8) (s : State) : (completeCommand (.fm f) s).evs = s.evs := by
  unfold completeCommand tellCompleted
  dsimp only
  rw [sequencerCompletion_evs]
  split <;> rfl

theorem commandChecks_opened_evs (h : (s.dev (.fm f)).pos = .opened) : (commandChecks (.fm f) s).evs = s.evs := by
  unfold commandChecks
  simp only [h]
  cases (s.dev (.fm f)).cmd
  · rfl
  · exact completeCommand_main_evs f s
  · rfl

/-! ## A sequence that waits or ends (R86 to R103) -/

/-- What a sequence does that asks for no command: its record, the reports and the transmit queue change. -/
def SequenceOnly (s t : State) : Prop := t = { s with seqs := t.seqs, reports := t.reports, line := t.line }

theorem SequenceOnly.trans {u : State} (h : SequenceOnly s t) (k : SequenceOnly t u) : SequenceOnly s u := by
  unfold SequenceOnly at *
  rw [k, h]

theorem SequenceOnly.report {code : ReportCode} {src : Source} {cause : Option Nat} {value : Option Int}
    (h : SequenceOnly s t) : SequenceOnly s (report code src cause value t) := h.trans rfl

theorem SequenceOnly.updSeq {g : Sequencer → Sequencer} (h : SequenceOnly s t) : SequenceOnly s (t.updSeq f g) :=
  h.trans rfl

theorem SequenceOnly.enterIdle {st : SeqState} (h : SequenceOnly s t) : SequenceOnly s (enterIdle f st t) := h.trans rfl

theorem SequenceOnly.lockout {cause : LockoutCause} (h : SequenceOnly s t) : SequenceOnly s (lockout f cause t) :=
  h.trans (lockout_eq f cause t)

theorem SequenceOnly.waitDead {n : Nat} (h : SequenceOnly s t) : SequenceOnly s (waitDead f n t) := by
  unfold Machine.waitDead
  split
  · exact h.trans rfl
  · exact h.trans rfl

theorem SequenceOnly.ite {u : State} {p : Prop} [Decidable p] (ht : SequenceOnly s t) (hu : SequenceOnly s u) :
    SequenceOnly s (if p then t else u) := by split <;> assumption

theorem SequenceOnly.sequenceStart (h : SequenceOnly s t) : SequenceOnly s (sequenceStart f t) :=
  .ite h.updSeq.enterIdle <| .ite h.updSeq.report.lockout <| .ite h.updSeq.report.lockout h.updSeq.report.waitDead

theorem SequenceOnly.retrip (h : SequenceOnly s t) : SequenceOnly s (retrip f t) :=
  .ite h.updSeq.lockout <| .ite h.updSeq.waitDead h.updSeq.lockout

/-- R86, R89, R101 to R103: whatever a sequence makes of its main breaker's notice, it asks for no command. -/
theorem mainNotice_sequenceOnly (f : Fin 8) (old new : Position) (mark : Bool) (s : State) :
    SequenceOnly s (mainNotice f old new mark s) := by
  have h : SequenceOnly s s := rfl
  have habandoned : SequenceOnly s (if new = .closed then reportAbandoned f 1 (enterIdle f .idleClosed s) else s) :=
    .ite h.enterIdle.report h
  unfold mainNotice
  dsimp only
  split
  · exact .ite h.enterIdle.updSeq (.ite h.sequenceStart h)
  · exact .ite (.ite h.sequenceStart h.enterIdle) h
  · exact habandoned
  · exact habandoned
  · exact habandoned
  · exact .ite h.retrip h
  · exact .ite h.retrip h
  · exact .ite h.updSeq h
  · exact h
  · exact h
  · exact h

/-! ## A main breaker reported OPEN (R46) -/

theorem positionReport_eq (d : Device) (r : DevRecord) (new : Position) (s : State) : positionReport d r new s =
    { s with reports := (positionReport d r new s).reports } := by
  unfold positionReport
  split
  · rfl
  · split
    · rfl
    · split <;> rfl

/-- R46: a main breaker's change to OPEN is reported, noticed to the evaluator and then to the sequence; no guard
follows. -/
theorem changePosition_opened (hs : Settled s) : ∃ old mark, changePosition (.fm f) .opened s =
    mainNotice f old .opened mark (evaluatorNotice f .opened (positionReport (.fm f) (s.dev (.fm f)) .opened
      (s.updDev (.fm f) fun r => { r with pos := .opened }))) := by
  have hnoticed : Steady ∅ s (evaluatorNotice f .opened (positionReport (.fm f) (s.dev (.fm f)) .opened
      (s.updDev (.fm f) fun r => { r with pos := .opened }))) := Steady.rfl.updDev.positionReport.evaluatorNotice
  refine ⟨(s.dev (.fm f)).pos, uncommanded (s.dev (.fm f)) .opened, ?_⟩
  unfold changePosition ownerNotice
  dsimp only
  rw [finish_of_settled (hnoticed.target.trans hs), finish_of_settled (hnoticed.mainNotice.target.trans hs),
    guardPosition_main_of_safe, finish_of_settled (hnoticed.mainNotice.target.trans hs)]
  simp

/-- R24, R46: what a frame that reports a tripped feeder's main breaker OPEN leaves of the evaluators. -/
theorem matchPosition_opened_tripping {ft : FeederSettings} (hs : Settled s) (hp : (s.dev (.fm f)).pos ≠ .opened)
    (ht : (s.ev f).settings = some ft) (h : (s.ev f).state = .tripping) :
    (matchPosition .opened (.fm f) s).ev f = openedEv (endState ft (s.ev f)) (s.ev f) ∧
      ∀ g, g ≠ f → (matchPosition .opened (.fm f) s).ev g = s.ev g := by
  unfold matchPosition
  dsimp only
  rw [if_neg hp]
  generalize hfresh : s.updDev (.fm f) (fun r => { r with ageAt := some (deadline s 50) }) = fresh
  have hfev : fresh.evs = s.evs := by rw [← hfresh]; rfl
  have hfs : Settled fresh := by rw [← hfresh]; exact hs
  obtain ⟨old, mark, hchange⟩ := changePosition_opened (f := f) hfs
  rw [hchange]
  generalize hw : positionReport (.fm f) (fresh.dev (.fm f)) .opened
    (fresh.updDev (.fm f) fun r => { r with pos := .opened }) = w
  have hwev (g : Fin 8) : w.ev g = s.ev g := by
    rw [← hw, positionReport_eq]
    exact congrArg (fun v : Vector Evaluator 8 => v[g]) hfev
  have hwpos : (w.dev (.fm f)).pos = .opened := by
    rw [← hw, positionReport_eq]
    exact congrArg DevRecord.pos (State.updDev_dev_same fresh (.fm f) fun r => { r with pos := .opened })
  obtain ⟨hself, hdevs, hother⟩ := evaluatorNotice_tripping_ev (s := w) (f := f) (ft := ft) (by rw [hwev, ht])
    (by rw [hwev, h])
  have hmain := mainNotice_sequenceOnly f old .opened mark (evaluatorNotice f .opened w)
  generalize mainNotice f old .opened mark (evaluatorNotice f .opened w) = v at hmain
  have hvev (g : Fin 8) : (commandChecks (.fm f) v).ev g = (evaluatorNotice f .opened w).ev g := by
    have hpos : (v.dev (.fm f)).pos = .opened := by
      rw [hmain]
      exact (congrArg (fun p : PerDevice DevRecord => (p.get (.fm f)).pos) hdevs).trans hwpos
    have hevs : v.evs = (evaluatorNotice f .opened w).evs := by rw [hmain]
    exact congrArg (fun e : Vector Evaluator 8 => e[g]) ((commandChecks_opened_evs hpos).trans hevs)
  exact ⟨by rw [hvev, hself, hwev], fun g hg => by rw [hvev, hother g hg, hwev]⟩

end Sys2Proof.Machine

namespace Sys2Proof.Proofs
open Sys2Proof.Machine

/-- Settles O32: the arrivals by the view change they come to, the notices by R24's table, and the frame by
`matchPosition_opened_tripping`. -/
theorem evaluatorOutsideProtection : Obligations.EvaluatorOutsideProtection := by
  refine ⟨fun f k rest t s hs hi ht hc => ?arrivals, fun f new t s ht => ?notices,
    fun fr f el t s hdst htype hsrc hs hp hel ha ho hpos htrip ht => ?frame⟩
  case arrivals =>
    intro e viewed fresh
    have hev : (s.updEv f fun e => { e with inbox := rest }).ev f = { s.ev f with inbox := rest } :=
      State.updEv_ev_same ..
    have hviews (h : ¬ (Evaluating e ∧ k.after = .valid)) := evaluatorArrival_views hs hi ht hc h
    have hidle {st : EvState} (h : e.state = st) (hq : st ≠ .quiet) (hr : st ≠ .rising) :
        ¬ (Evaluating e ∧ k.after = .valid) :=
      fun ⟨hev, _⟩ => hev.elim (fun hq' => hq (h.symm.trans hq')) fun hr' => hr (h.symm.trans hr')
    refine ⟨fun h => ?tripping, fun h hv => ?degraded, fun h hv => ?recovers, fun h hk => ?off,
      fun h hin hv hn => ?lost, fun h hn hl => ?hold, fun h hn hl => ?trip⟩
    case tripping =>
      rw [hviews (hidle h (by decide) (by decide)), viewChange_tripping (by rw [hev]; exact h), updEv_updEv]
      rfl
    case degraded =>
      rw [hviews (hidle h (by decide) (by decide)),
        viewChange_keeps (ft := t) (by rw [hev]; exact ht) hv (by rw [hev]; exact .inr (.inl h)), updEv_updEv]
      rfl
    case recovers =>
      rw [hviews (hidle h (by decide) (by decide)),
        viewChange_recovers (ft := t) (by rw [hev]; exact ht) (by rw [hev]; exact h) hv, updEv_updEv, hev]
      rfl
    case off =>
      rw [hviews (hidle h (by decide) (by decide)),
        viewChange_stays_off (ft := t) (by rw [hev]; exact ht) (by rw [hev]; exact h) (by rw [hev]; exact hk),
        updEv_updEv]
      rfl
    case lost =>
      rw [hviews (hidle h (by decide) (by decide)), viewChange_off (ft := t) (by rw [hev]; exact ht) hn
        (by rw [hev]; exact h) hin (by rw [hev]; exact hv), updEv_updEv]
      rfl
    case hold =>
      rw [hviews fun hb => hn hb.2, viewChange_hold (ft := t) (by rw [hev]; exact ht) hn (by rw [hev]; exact h) hl,
        updEv_updEv]
      rfl
    case trip =>
      rw [hviews fun hb => hn hb.2, viewChange_trip (ft := t) (by rw [hev]; exact ht) hn (by rw [hev]; exact h) hl,
        updEv_updEv]
      exact ⟨_, rfl, tripDecision_tripped rfl _ _⟩
  case notices =>
    intro e u viewed fresh ready
    refine ⟨fun hn h hready => ?starts, fun hn h => ?stops, fun hn h hk => ?ends, fun hn h hin hv => ?endsDegraded,
      fun h => ?keeps⟩
    case starts => exact evaluatorNotice_starts ht h hn hready.1 hready.2
    case stops =>
      subst hn
      exact evaluatorNotice_stops h
    case ends =>
      subst hn
      exact evaluatorNotice_tripping_off ht h hk
    case endsDegraded =>
      subst hn
      exact evaluatorNotice_tripping_degraded ht h hin hv
    case keeps => exact evaluatorNotice_keeps ht h
  case frame =>
    generalize hg : (goodFrame s).updRing (joinRelay fr) = g
    have hdev (d : Device) : g.dev d = s.dev d := by
      rw [← hg]
      exact congrArg (fun p : PerDevice DevRecord => p.get d) (goodFrame_devs s)
    have hev (i : Fin 8) : g.ev i = s.ev i := by
      rw [← hg]
      exact congrArg (fun v : Vector Evaluator 8 => v[i]) (goodFrame_evs s)
    have hgs : Settled g := by
      rw [← hg]
      simpa [Settled] using hs
    have hmatch : takePosition fr g = matchPosition .opened (.fm f) g :=
      takePosition_one hp hel rfl (by rw [hdev, ha]) fun e he => by rw [hdev]; exact ho e he
    obtain ⟨hself, hother⟩ := matchPosition_opened_tripping (f := f) (ft := t) hgs (by rw [hdev]; exact hpos)
      (by rw [hev, ht]) (by rw [hev, htrip])
    refine ⟨_, positionFrame_settled hdst htype hsrc hs, ?_⟩
    rw [hg, hmatch, hself, hev]
    exact ⟨rfl, rfl, rfl, rfl, fun i hi => by rw [hother i hi, hev]⟩

end Sys2Proof.Proofs

end

section
set_option Elab.async false

/-! SUPPORT. The state after reset, block by block, against the invariants of Safety. -/

namespace Sys2Proof.Machine

theorem reset_dev (d : Device) : State.reset.dev d = DevRecord.initial := PerDevice.get_replicate DevRecord.initial d

theorem reset_seq (f : Fin 8) : State.reset.seq f = Sequencer.initial := by
  simp [State.reset, State.cold, State.seq]

theorem reset_slot (i : Fin 4) : State.reset.capture.slots[i] = Slot.initial := by
  simp [State.reset, State.cold, CaptureUnit.initial]

theorem reset_mask (k : Fin 13) : State.reset.banks.mask[k] = false := by
  exact Vector.getElem_replicate ..

/-- No device has a command (R62). -/
theorem interlocked_reset : Interlocked State.reset := by
  refine ⟨fun d h => ?_, fun f h => ?_, fun f h => ?_⟩ <;> rw [reset_dev] at h <;> exact absurd h (by decide)

/-- The rectifier is OFF, with GATE_EN low and every output low (R137). -/
theorem gatesSafe_reset : GatesSafe State.reset := by
  refine ⟨rfl, fun _ => ⟨rfl, fun g => ?_⟩⟩
  simp [State.reset, State.cold, Rectifier.initial]

/-- Every sequence is idle, with no attempt made (R109). -/
theorem sequencesInLimit_reset : SequencesInLimit State.reset := by
  intro f
  rw [reset_seq]
  rfl

/-- Neither bank is active, VALIDATING or the target of a switch-over (R152). -/
theorem banksConsistent_reset : BanksConsistent State.reset := by
  have hstate (k : BankId) : bankState k State.reset = .unchecked := by cases k <;> rfl
  refine ⟨⟨List.length_replicate, List.length_replicate⟩, fun k => ?active, fun k => ?validating, fun k h => ?target,
    fun _ k => reset_mask k⟩
  case active =>
    rw [hstate]
    exact ⟨nofun, nofun⟩
  case validating =>
    rw [hstate]
    exact ⟨nofun, fun h => absurd rfl h.2⟩
  case target => cases h

theorem ringBounded_reset : RingBounded State.reset := ⟨Nat.zero_le _, Nat.zero_le _, rfl⟩

/-- Every slot is FREE, and no capture settings are adopted (R180). -/
theorem slotsConsistent_reset : SlotsConsistent State.reset := by
  have hfree (i : Fin 4) : State.reset.capture.slots[i].state = .free := by rw [reset_slot]; rfl
  refine ⟨fun i j h => ?_, fun i j h => ?_, List.nodup_nil, fun i => ?_, fun h => absurd rfl h⟩
  · rw [hfree] at h
    cases h
  · rw [hfree] at h
    cases h
  · rw [hfree]
    exact ⟨nofun, nofun⟩

/-- Both wires are high and the line is WAITING, with the bus-free timer running (R82, notes/assumptions/4). -/
theorem transmitConsistent_reset : TransmitConsistent State.reset := by
  refine ⟨⟨?free, nofun, nofun, nofun, nofun, nofun⟩, List.nodup_nil, nofun, nofun⟩
  exact ⟨fun _ => ⟨nofun, nofun, rfl, rfl⟩, nofun⟩

theorem channelsConsistent_reset : ChannelsConsistent State.reset := by
  intro c
  have hc : State.reset.chan c = Channel.initial := by simp [State.reset, State.cold, State.chan]
  rw [hc]
  exact channelConsistent_initial

end Sys2Proof.Machine

namespace Sys2Proof.Proofs
open Sys2Proof.Machine

/-- Settles O4: invariant by invariant. -/
theorem resetMeetsInvariants : Obligations.ResetMeetsInvariants :=
  ⟨interlocked_reset, gatesSafe_reset, sequencesInLimit_reset, ⟨Nat.zero_le _, rfl⟩, banksConsistent_reset,
    ringBounded_reset, slotsConsistent_reset, transmitConsistent_reset, channelsConsistent_reset⟩

end Sys2Proof.Proofs
end

section
set_option Elab.async false

/-! SUPPORT. OPEN and CLOSE requests to a device record (R48 to R50): the record a taken command leaves, and the checks
that refuse one. -/

namespace Sys2Proof.Machine
variable {s : State} {d : Device}

/-- R48, R49: the record of a device that has taken a command. -/
def commandedRecord (d : Device) (c : Command) (by_ : Option Requester) (s : State) (r : DevRecord) : DevRecord :=
  { r with
    cmd := c, requester := by_, cmdTimer := some (deadline s (commandTime d c s)), cmdStart := some (nowMs s),
    repeatAt := some (deadline s 1) }

/-- R49: every assigned record takes an OPEN. -/
theorem requestOpen_taken (ha : (s.dev d).addr ≠ none) (by_ : Requester) : (requestOpen d by_ s).1 = true := by
  rcases requestOpen_cases d by_ s with ⟨h, _⟩ | ⟨_, _, e⟩ | ⟨_, _, e⟩ | ⟨_, _, e⟩
  · exact absurd h ha
  all_goals rw [e]

/-- R49: an OPEN finds OPEN outstanding, and leaves it. -/
theorem requestOpen_outstanding (ha : (s.dev d).addr ≠ none) (hc : (s.dev d).cmd = .toOpen) (by_ : Requester) :
    requestOpen d by_ s = (true, s) := by
  simp [requestOpen, ha, hc]

/-- R49: an OPEN finds no command. -/
theorem requestOpen_idle (ha : (s.dev d).addr ≠ none) (hc : (s.dev d).cmd = .none) (by_ : Requester) :
    requestOpen d by_ s = (true, guardCommand d (takeCommand d .toOpen (some by_) s)) := by
  simp [requestOpen, ha, hc]

/-- R49: an OPEN finds CLOSE outstanding, and replaces it. -/
theorem requestOpen_replaces (ha : (s.dev d).addr ≠ none) (hc : (s.dev d).cmd = .toClose) (by_ : Requester) :
    requestOpen d by_ s = (true, guardCommand d (takeCommand d .toOpen (some by_) (reportWithdrawn d s))) := by
  simp [requestOpen, ha, hc]

/-- R49: the record after a taken OPEN; the guard that follows leaves it. -/
theorem requestOpen_dev (ha : (s.dev d).addr ≠ none) (hc : (s.dev d).cmd ≠ .toOpen) (by_ : Requester) :
    (requestOpen d by_ s).2.dev d = commandedRecord d .toOpen (some by_) s (s.dev d) := by
  rcases requestOpen_cases d by_ s with ⟨h, _⟩ | ⟨_, h, _⟩ | ⟨_, _, e⟩ | ⟨_, _, e⟩
  · exact absurd h ha
  · exact absurd h hc
  · rw [e, guardCommand_dev, takeCommand_same d .toOpen _ _ ha nofun]
    rfl
  · rw [e, guardCommand_dev, takeCommand_same d .toOpen _ (reportWithdrawn d s) ha nofun]
    rfl

/-- Only a change of FTf's command calls for a guard (R56). -/
theorem guardCommand_of_not_test (hd : ∀ f, d ≠ .ft f) (s : State) : guardCommand d s = s := by
  cases d with
  | ft f => exact absurd rfl (hd f)
  | fm f => rfl
  | dcm => rfl
  | acm => rfl

@[simp] theorem takeCommand_reports (d : Device) (c : Command) (by_ : Option Requester) (s : State) :
    (takeCommand d c by_ s).reports = s.reports := by rw [takeCommand_eq]

/-- R49: the report of a CLOSE that is withdrawn, with its requester. -/
theorem reportWithdrawn_eq (d : Device) (s : State) : reportWithdrawn d s =
    report .commandWithdrawn (deviceSource d) (some (deviceCause d))
      (some (((s.dev d).requester.map requesterCode).getD 0 : Nat)) s := by
  unfold reportWithdrawn breakerReport
  cases (s.dev d).requester <;> rfl

/-- The other device of a feeder, whose rest the interlock asks for (R50). -/
def interlockPartner : Device → Option Device
  | .fm f => some (.ft f)
  | .ft f => some (.fm f)
  | _ => none

theorem openAtRest_iff {r : DevRecord} : openAtRest r = true ↔ r.pos = .opened ∧ r.cmd = .none := by
  simp [openAtRest, noCommand]

/-- R50: the interlock refuses a CLOSE while the partner is not at rest in OPEN. -/
theorem interlocked_iff : interlocked d s = true ↔
    ∃ p, interlockPartner d = some p ∧ ((s.dev p).pos ≠ .opened ∨ (s.dev p).cmd ≠ .none) := by
  have hrest (p : Device) : (!openAtRest (s.dev p)) = true ↔ (s.dev p).pos ≠ .opened ∨ (s.dev p).cmd ≠ .none := by
    rw [Bool.not_eq_true', ← Bool.not_eq_true, openAtRest_iff, not_and_or]
  cases d <;> simp [interlocked, interlockPartner, hrest]

/-- R43, R50: the checks that refuse a CLOSE. -/
theorem closeRefused_iff : closeRefused d s = true ↔ (s.dev d).addr = none ∨ (s.dev d).cmd = .toOpen ∨
    (s.dev d).flag ≠ .none ∨ (s.dev d).pos = .unknown ∨ (s.dev d).pos = .faulty ∨
    ∃ p, interlockPartner d = some p ∧ ((s.dev p).pos ≠ .opened ∨ (s.dev p).cmd ≠ .none) := by
  rw [← interlocked_iff]
  simp [closeRefused, or_assoc]

/-- R50: a CLOSE that is taken, of a record with no command. -/
theorem requestClose_taken (hr : closeRefused d s = false) (hc : (s.dev d).cmd = .none) (by_ : Requester) :
    requestClose d by_ s = (true, takeCommand d .toClose (some by_) s) := by
  simp [requestClose, hr, hc]

/-- R50: a CLOSE that is taken finds CLOSE outstanding, and leaves it. -/
theorem requestClose_outstanding (hr : closeRefused d s = false) (hc : (s.dev d).cmd = .toClose) (by_ : Requester) :
    requestClose d by_ s = (true, s) := by
  simp [requestClose, hr, hc]

/-- R50: a CLOSE that is refused leaves the state. -/
theorem requestClose_refused (hr : closeRefused d s = true) (by_ : Requester) : requestClose d by_ s = (false, s) :=
  if_pos hr

end Sys2Proof.Machine

namespace Sys2Proof.Proofs
open Sys2Proof.Machine

/-- Settles O38: by the four ways in which an OPEN is taken, and the checks that refuse a CLOSE. -/
theorem deviceRequests : Obligations.DeviceRequests := by
  refine ⟨fun d by_ s => ?opens, fun d by_ s => ?closes⟩
  case opens =>
    intro r taken
    refine ⟨fun ha => if_pos ha, fun ha => requestOpen_taken ha by_, fun ha hc => ?keeps,
      fun ha hc => requestOpen_dev ha hc by_, fun ha hc hd => ?silent, fun ha hc hd => ?withdrawn⟩
    case keeps => rw [requestOpen_outstanding ha hc]
    case silent => rw [requestOpen_idle ha hc, guardCommand_of_not_test hd, takeCommand_reports]
    case withdrawn =>
      rw [requestOpen_replaces ha hc, guardCommand_of_not_test hd, takeCommand_reports, reportWithdrawn_eq]
  case closes =>
    intro r partner refused
    have hpartner : partner = interlockPartner d := by cases d <;> rfl
    have hrefused : refused ↔ closeRefused d s = true := by
      rw [closeRefused_iff, ← hpartner]
    have hpasses (h : ¬ refused) : closeRefused d s = false := Bool.eq_false_iff.2 fun hr => h (hrefused.2 hr)
    refine ⟨fun h => requestClose_refused (hrefused.1 h) by_, fun h => ?isTaken, fun h hc => ?same, fun h hc => ?takes⟩
    case isTaken =>
      unfold requestClose
      simp only [hpasses h, Bool.false_eq_true, if_false]
      split <;> rfl
    case same => rw [requestClose_outstanding (hpasses h) hc]
    case takes =>
      rw [requestClose_taken (hpasses h) hc]
      exact ⟨takeCommand_same d .toClose _ s (assigned_of_not_refused (hpasses h)) nofun,
        fun e he => takeCommand_other d e .toClose _ s he⟩

end Sys2Proof.Proofs
end

section
set_option Elab.async false

/-! SUPPORT. The interlock of main breaker and test contactor (R56, R57) through every operation. While a change of a
position waits for its guard, the interlock can be broken for that feeder: `InterlockBut` says what holds meanwhile, and
each operation of the model is met once. -/

namespace Sys2Proof.Machine

/-- A command is outstanding only on an assigned record (R43). -/
def DevRecord.Addressed (r : DevRecord) : Prop := r.cmd ≠ .none → r.addr ≠ none

/-- What FMf and FTf are to each other (R56, R57): `waitsMain` while a change of FTf waits for R56's guard, `waitsTest`
while a change of FMf waits for R57's, which needs FTf's record assigned. -/
structure Paired (waitsMain waitsTest : Prop) (fm ft : DevRecord) : Prop where
  main : ¬ waitsMain → fm.cmd = .toClose → openAtRest ft = true
  apart : ft.cmd = .toClose → fm.cmd ≠ .toClose
  test : ¬ waitsTest → ft.cmd = .toClose → fm.pos ≠ .closed ∧ fm.pos ≠ .travel
  assigned : waitsTest → ft.addr ≠ none

/-- The interlock, but for the feeders `m` that wait for R56's guard and the feeders `w` that wait for R57's. -/
structure InterlockBut (m w : Set (Fin 8)) (p : PerDevice DevRecord) : Prop where
  addressed : ∀ d, (p.get d).Addressed
  paired : ∀ f, Paired (f ∈ m) (f ∈ w) (p.get (.fm f)) (p.get (.ft f))

/-- With no guard waiting it is the interlock. -/
theorem interlocked_iff_but (s : State) : Interlocked s ↔ InterlockBut ∅ ∅ s.devs := by
  constructor
  · rintro ⟨haddr, hmain, htest⟩
    refine ⟨haddr, fun f => ⟨fun _ h => openAtRest_iff.2 (hmain f h), fun h => (htest f h).2.2,
      fun _ h => ⟨(htest f h).1, (htest f h).2.1⟩, fun hf => absurd hf (Set.notMem_empty f)⟩⟩
  · intro h
    refine ⟨h.addressed, fun f hc => openAtRest_iff.1 ((h.paired f).main (Set.notMem_empty f) hc), fun f hc => ?_⟩
    obtain ⟨hclosed, htravel⟩ := (h.paired f).test (Set.notMem_empty f) hc
    exact ⟨hclosed, htravel, (h.paired f).apart hc⟩

/-! ## Changes of one record -/

namespace InterlockBut
variable {m w : Set (Fin 8)} {p q : PerDevice DevRecord} {f : Fin 8} {d : Device} {r : DevRecord}

theorem setMain (h : InterlockBut m w p) (ha : r.Addressed) (hr : Paired (f ∈ m) (f ∈ w) r (p.get (.ft f))) :
    InterlockBut m w (p.set (.fm f) r) where
  addressed d := by
    by_cases hd : d = .fm f
    · rw [hd, PerDevice.get_set_same]
      exact ha
    · rw [PerDevice.get_set_ne p r hd]
      exact h.addressed d
  paired g := by
    rw [PerDevice.get_set_ne p r (d := .fm f) (e := .ft g) nofun]
    by_cases hg : g = f
    · rw [hg, PerDevice.get_set_same]
      exact hr
    · rw [PerDevice.get_set_ne p r fun e => hg (Device.fm.inj e)]
      exact h.paired g

theorem setTest (h : InterlockBut m w p) (ha : r.Addressed) (hr : Paired (f ∈ m) (f ∈ w) (p.get (.fm f)) r) :
    InterlockBut m w (p.set (.ft f) r) where
  addressed d := by
    by_cases hd : d = .ft f
    · rw [hd, PerDevice.get_set_same]
      exact ha
    · rw [PerDevice.get_set_ne p r hd]
      exact h.addressed d
  paired g := by
    rw [PerDevice.get_set_ne p r (d := .ft f) (e := .fm g) nofun]
    by_cases hg : g = f
    · rw [hg, PerDevice.get_set_same]
      exact hr
    · rw [PerDevice.get_set_ne p r fun e => hg (Device.ft.inj e)]
      exact h.paired g

/-- DCM and ACM have no part in the interlock. -/
theorem setOther (h : InterlockBut m w p) (ha : r.Addressed) (hfm : ∀ f, d ≠ .fm f) (hft : ∀ f, d ≠ .ft f) :
    InterlockBut m w (p.set d r) where
  addressed e := by
    by_cases he : e = d
    · rw [he, PerDevice.get_set_same]
      exact ha
    · rw [PerDevice.get_set_ne p r he]
      exact h.addressed e
  paired g := by
    rw [PerDevice.get_set_ne p r (Ne.symm (hfm g)), PerDevice.get_set_ne p r (Ne.symm (hft g))]
    exact h.paired g

/-- More feeders may wait for R56's guard. -/
theorem waits (h : InterlockBut m w p) (f : Fin 8) : InterlockBut (insert f m) w p where
  addressed := h.addressed
  paired g := { h.paired g with main := fun hg => (h.paired g).main fun hm => hg (Set.mem_insert_of_mem f hm) }

/-- R56's guard has nothing to do. -/
theorem guarded (h : InterlockBut (insert f m) w p)
    (hf : (p.get (.fm f)).cmd = .toClose → openAtRest (p.get (.ft f)) = true) : InterlockBut m w p where
  addressed := h.addressed
  paired g := { h.paired g with
    main := fun hg hc => by
      by_cases e : g = f
      · subst e
        exact hf hc
      · exact (h.paired g).main (fun hm => hm.elim e hg) hc }

/-- A change that keeps command and position, and does not take an address away. -/
theorem keep (h : InterlockBut m w p) (hcmd : r.cmd = (p.get d).cmd) (hpos : r.pos = (p.get d).pos)
    (haddr : (p.get d).addr ≠ none → r.addr ≠ none) : InterlockBut m w (p.set d r) := by
  have ha : r.Addressed := fun hr => haddr (h.addressed d (hcmd ▸ hr))
  cases d with
  | fm f =>
    obtain ⟨hmain, hapart, htest, hassigned⟩ := h.paired f
    exact h.setMain ha ⟨by rwa [hcmd], by rwa [hcmd], by rwa [hpos], hassigned⟩
  | ft f =>
    obtain ⟨hmain, hapart, htest, hassigned⟩ := h.paired f
    refine h.setTest ha ⟨?_, by rwa [hcmd], by rwa [hcmd], fun hw => haddr (hassigned hw)⟩
    simpa only [openAtRest_iff, hcmd, hpos] using hmain
  | dcm => exact h.setOther ha nofun nofun
  | acm => exact h.setOther ha nofun nofun

/-- A command ends. -/
theorem ends (h : InterlockBut m w p) (hcmd : r.cmd = .none) (hpos : r.pos = (p.get d).pos)
    (haddr : r.addr = (p.get d).addr) : InterlockBut m w (p.set d r) := by
  have ha : r.Addressed := fun hr => absurd hcmd hr
  have hopen : r.cmd ≠ .toClose := by rw [hcmd]; nofun
  cases d with
  | fm f =>
    obtain ⟨hmain, hapart, htest, hassigned⟩ := h.paired f
    exact h.setMain ha ⟨fun _ hc => absurd hc hopen, fun _ => hopen, by rwa [hpos], hassigned⟩
  | ft f =>
    obtain ⟨hmain, hapart, htest, hassigned⟩ := h.paired f
    refine h.setTest ha ⟨fun hm hc => ?_, fun hc => absurd hc hopen, fun _ hc => absurd hc hopen, by rwa [haddr]⟩
    exact openAtRest_iff.2 ⟨hpos.trans (openAtRest_iff.1 (hmain hm hc)).1, hcmd⟩
  | dcm => exact h.setOther ha nofun nofun
  | acm => exact h.setOther ha nofun nofun

/-- The feeders that wait for R56's guard once a device has taken an OPEN or changed its position. -/
def waiting (d : Device) (m : Set (Fin 8)) : Set (Fin 8) :=
  match d with
  | .ft f => insert f m
  | _ => m

/-- An assigned device takes an OPEN. -/
theorem opens (h : InterlockBut m w p) (hcmd : r.cmd = .toOpen) (hpos : r.pos = (p.get d).pos)
    (haddr : r.addr ≠ none) : InterlockBut (waiting d m) w (p.set d r) := by
  have ha : r.Addressed := fun _ => haddr
  have hopen : r.cmd ≠ .toClose := by rw [hcmd]; nofun
  cases d with
  | fm f =>
    obtain ⟨hmain, hapart, htest, hassigned⟩ := h.paired f
    exact h.setMain ha ⟨fun _ hc => absurd hc hopen, fun _ => hopen, by rwa [hpos], hassigned⟩
  | ft f =>
    exact (h.waits f).setTest ha ⟨fun hm => absurd (Set.mem_insert f m) hm, fun hc => absurd hc hopen,
      fun _ hc => absurd hc hopen, fun _ => haddr⟩
  | dcm => exact h.setOther ha nofun nofun
  | acm => exact h.setOther ha nofun nofun

/-- A device's position becomes one that is not CLOSED or TRAVEL, or that of a device other than a main breaker changes
in whatever way. -/
theorem moves (h : InterlockBut m w p) (hcmd : r.cmd = (p.get d).cmd)
    (haddr : (p.get d).addr ≠ none → r.addr ≠ none)
    (hpos : (∀ f, d ≠ .fm f) ∨ (r.pos ≠ .closed ∧ r.pos ≠ .travel)) : InterlockBut (waiting d m) w (p.set d r) := by
  have ha : r.Addressed := fun hr => haddr (h.addressed d (hcmd ▸ hr))
  cases d with
  | fm f =>
    obtain ⟨hmain, hapart, htest, hassigned⟩ := h.paired f
    have hp : r.pos ≠ .closed ∧ r.pos ≠ .travel := hpos.resolve_left fun hf => hf f rfl
    exact h.setMain ha ⟨by rwa [hcmd], by rwa [hcmd], fun _ _ => hp, hassigned⟩
  | ft f =>
    obtain ⟨hmain, hapart, htest, hassigned⟩ := h.paired f
    exact (h.waits f).setTest ha ⟨fun hm => absurd (Set.mem_insert f m) hm, by rwa [hcmd], by rwa [hcmd],
      fun hw => haddr (hassigned hw)⟩
  | dcm => exact h.setOther ha nofun nofun
  | acm => exact h.setOther ha nofun nofun

end InterlockBut

end Sys2Proof.Machine
end

section
set_option Elab.async false

/-! SUPPORT. The interlock through commands, guards and requests, and what leaves the device records alone. -/

namespace Sys2Proof.Machine

/-! ## The records after a command -/

/-- The device records are the same when each of the eighteen is. -/
theorem PerDevice.ext_get {α : Type} {p q : PerDevice α} (h : ∀ d, p.get d = q.get d) : p = q := by
  cases p
  cases q
  simp only [PerDevice.mk.injEq]
  exact ⟨Vector.ext fun i hi => h (.fm ⟨i, hi⟩), Vector.ext fun i hi => h (.ft ⟨i, hi⟩), h .dcm, h .acm⟩

/-- R48, R49: the records after an assigned device takes an OPEN or a CLOSE. -/
theorem takeCommand_devs {d : Device} {c : Command} {s : State} (ha : (s.dev d).addr ≠ none) (hc : c ≠ .none)
    (by_ : Option Requester) :
    (takeCommand d c by_ s).devs = s.devs.set d (commandedRecord d c by_ s (s.dev d)) := by
  refine PerDevice.ext_get fun e => ?_
  by_cases he : e = d
  · rw [he, PerDevice.get_set_same]
    exact takeCommand_same d c by_ s ha hc
  · rw [PerDevice.get_set_ne _ _ he]
    exact takeCommand_other d e c by_ s he

theorem takeOpen_devs {d : Device} {s : State} (ha : (s.dev d).addr ≠ none) (by_ : Option Requester) :
    (takeCommand d .toOpen by_ s).devs = s.devs.set d (commandedRecord d .toOpen by_ s (s.dev d)) :=
  takeCommand_devs ha (by decide) by_

theorem takeClose_devs {d : Device} {s : State} (ha : (s.dev d).addr ≠ none) (by_ : Option Requester) :
    (takeCommand d .toClose by_ s).devs = s.devs.set d (commandedRecord d .toClose by_ s (s.dev d)) :=
  takeCommand_devs ha (by decide) by_

/-! ## What leaves the records alone -/

@[simp] theorem trigger_devs (cause : Cause) (src : Source) (s : State) : (trigger cause src s).2.devs = s.devs := by
  rw [trigger_eq]

@[simp] theorem triggerOnly_devs (cause : Cause) (src : Source) (s : State) : (triggerOnly cause src s).devs = s.devs :=
  trigger_devs cause src s

@[simp] theorem tellTrip_devs (f : Fin 8) (cause : Cause) (s : State) : (tellTrip f cause s).devs = s.devs := by
  rw [tellTrip_frame]

theorem SequenceOnly.devs {s t : State} (h : SequenceOnly s t) : t.devs = s.devs := by rw [h]

@[simp] theorem settle_devs (f : Fin 8) (s : State) : (settle f s).devs = s.devs := by
  unfold settle
  dsimp only
  split <;> rfl

@[simp] theorem evaluatorNotice_devs (f : Fin 8) (new : Position) (s : State) :
    (evaluatorNotice f new s).devs = s.devs := by
  unfold evaluatorNotice
  dsimp only
  split
  · split
    · exact settle_devs ..
    · rfl
  · split <;> rfl
  · split <;> rfl
  · split
    · exact settle_devs ..
    · rfl
  · rfl

@[simp] theorem testEnd_devs (f : Fin 8) (ft : FeederSettings) (slope : Int) (s : State) :
    (testEnd f ft slope s).devs = s.devs := by
  unfold testEnd
  dsimp only
  split <;> rfl

@[simp] theorem missingStep_devs (f : Fin 8) (ft : FeederSettings) (s : State) :
    (missingStep f ft s).devs = s.devs := by
  unfold missingStep
  dsimp only
  split
  · exact testEnd_devs ..
  · rfl

@[simp] theorem startTest_devs (f : Fin 8) (ft : FeederSettings) (own old : Instant) (s : State) :
    (startTest f ft own old s).devs = s.devs := by
  unfold startTest
  dsimp only
  split
  · split
    · exact triggerOnly_devs ..
    · rfl
  · rfl

@[simp] theorem mainNotice_devs (f : Fin 8) (old new : Position) (mark : Bool) (s : State) :
    (mainNotice f old new mark s).devs = s.devs := (mainNotice_sequenceOnly f old new mark s).devs

@[simp] theorem waitDead_devs (f : Fin 8) (k : Nat) (s : State) : (waitDead f k s).devs = s.devs :=
  (show SequenceOnly s s from rfl).waitDead.devs

@[simp] theorem positionReport_devs (d : Device) (r : DevRecord) (new : Position) (s : State) :
    (positionReport d r new s).devs = s.devs := by rw [positionReport_eq]

/-! ## The interlock -/

namespace InterlockBut
variable {m w : Set (Fin 8)} {s t : State} {f : Fin 8} {d : Device} {by_ : Requester}

/-- The interlock is the device records'. -/
theorem frame (h : InterlockBut m w s.devs) (e : t.devs = s.devs) : InterlockBut m w t.devs := e ▸ h

protected theorem ite {p : Prop} [Decidable p] (hs : InterlockBut m w s.devs) (ht : InterlockBut m w t.devs) :
    InterlockBut m w (if p then s else t).devs := by split <;> assumption

/-- What each turn of a forEach keeps of it, the whole keeps. -/
protected theorem forEach {α : Type} {l : List α} {k : α → State → State} (h : InterlockBut m w s.devs)
    (hk : ∀ a u, InterlockBut m w u.devs → InterlockBut m w (k a u).devs) : InterlockBut m w (forEach l k s).devs :=
  forEach_keeps (fun u => InterlockBut m w u.devs) k l (fun a _ u => hk a u) s h

/-- A change of a record's timers, flag or requester. -/
theorem updDev {g : DevRecord → DevRecord} (h : InterlockBut m w s.devs)
    (hg : ∀ r, (g r).cmd = r.cmd ∧ (g r).pos = r.pos ∧ (g r).addr = r.addr := by exact fun _ => ⟨rfl, rfl, rfl⟩) :
    InterlockBut m w (s.updDev d g).devs := by
  obtain ⟨hcmd, hpos, haddr⟩ := hg (s.devs.get d)
  exact h.keep hcmd hpos (haddr ▸ id)

protected theorem advanceTo {n : Nat} (h : InterlockBut m w s.devs) : InterlockBut m w (advanceTo n s).devs :=
  h.frame (advanceTo_devs n s)

protected theorem lockout {cause : LockoutCause} (h : InterlockBut m w s.devs) :
    InterlockBut m w (lockout f cause s).devs := h.frame (lockout_devs f cause s)

protected theorem sendCommand (h : InterlockBut m w s.devs) : InterlockBut m w (sendCommand d s).devs := by
  unfold Machine.sendCommand
  split
  · exact h
  · exact h.updDev (d := d) (g := fun r => { r with repeatAt := some (deadline s 1) })

/-! ### Commands taken and ended -/

theorem takeOpen (h : InterlockBut m w s.devs) (ha : (s.dev d).addr ≠ none) {q : Option Requester} :
    InterlockBut (waiting d m) w (takeCommand d .toOpen q s).devs := by
  rw [takeOpen_devs ha]
  exact h.opens rfl rfl ha

protected theorem endCommand (h : InterlockBut m w s.devs) : InterlockBut m w (endCommand d s).devs :=
  h.ends rfl rfl rfl

/-- R56: the guard puts right what waited for it. -/
protected theorem guardMain (h : InterlockBut (insert f m) w s.devs) : InterlockBut m w (guardMain f s).devs := by
  unfold Machine.guardMain
  split
  · next hc =>
    simp only [Bool.and_eq_true, decide_eq_true_eq] at hc
    have ha : (s.dev (.fm f)).addr ≠ none := h.addressed (.fm f) (by rw [show s.devs.get _ = s.dev _ from rfl, hc.1]; nofun)
    refine InterlockBut.lockout (InterlockBut.guarded (f := f) (takeOpen (d := .fm f) (s := reportWithdrawn (.fm f) s) h ha) ?_)
    intro hclose
    rw [takeOpen_devs (s := reportWithdrawn (.fm f) s) ha, PerDevice.get_set_same] at hclose
    cases hclose
  · next hc =>
    refine h.guarded fun hclose => ?_
    by_contra hrest
    exact hc (by simpa [State.dev, hclose] using hrest)

/-- R56: the guard after a device has taken an OPEN. -/
protected theorem guardCommand (h : InterlockBut (waiting d m) w s.devs) : InterlockBut m w (guardCommand d s).devs := by
  cases d with
  | ft f => exact h.guardMain
  | fm f => exact h
  | dcm => exact h
  | acm => exact h

protected theorem requestOpen (h : InterlockBut m w s.devs) : InterlockBut m w (requestOpen d by_ s).2.devs := by
  rcases requestOpen_cases d by_ s with ⟨_, e⟩ | ⟨_, _, e⟩ | ⟨ha, _, e⟩ | ⟨ha, _, e⟩ <;> rw [e]
  · exact h
  · exact h
  · exact (h.takeOpen ha).guardCommand
  · exact (takeOpen (s := reportWithdrawn d s) h ha).guardCommand

protected theorem askOpen (h : InterlockBut m w s.devs) : InterlockBut m w (askOpen d by_ s).devs := h.requestOpen

/-- R50: a CLOSE is taken only by a record whose partner is at rest in OPEN. -/
protected theorem requestClose (h : InterlockBut m w s.devs) : InterlockBut m w (requestClose d by_ s).2.devs := by
  rcases requestClose_cases d by_ s with ⟨_, e⟩ | ⟨_, _, e⟩ | ⟨hr, _, e⟩ <;> rw [e]
  · exact h
  · exact h
  · have ha := assigned_of_not_refused hr
    have hi : interlocked d s = false := by
      cases hi : interlocked d s with
      | false => rfl
      | true => simp [closeRefused, hi] at hr
    rw [takeClose_devs ha]
    cases d with
    | fm f =>
      have hrest : openAtRest (s.dev (.ft f)) = true := by simpa [interlocked] using hi
      have hcmd : (s.devs.get (.ft f)).cmd ≠ .toClose := by
        rw [show (s.devs.get (.ft f)).cmd = .none from (openAtRest_iff.1 hrest).2]
        nofun
      exact h.setMain (fun _ => ha) ⟨fun _ _ => hrest, fun hc => absurd hc hcmd, fun _ hc => absurd hc hcmd,
        (h.paired f).assigned⟩
    | ft f =>
      have hrest : openAtRest (s.dev (.fm f)) = true := by simpa [interlocked] using hi
      obtain ⟨hpos, hcmd⟩ := openAtRest_iff.1 hrest
      have hclose : (s.devs.get (.fm f)).cmd ≠ .toClose := by
        rw [show (s.devs.get (.fm f)).cmd = .none from hcmd]
        nofun
      refine h.setTest (fun _ => ha) ⟨fun _ hc => absurd hc hclose, fun _ => hclose, fun _ _ => ?_, fun _ => ha⟩
      rw [show (s.devs.get (.fm f)).pos = .opened from hpos]
      exact ⟨nofun, nofun⟩
    | dcm => exact h.setOther (fun _ => ha) nofun nofun
    | acm => exact h.setOther (fun _ => ha) nofun nofun

/-! ### Guards of a position -/

/-- R57's guard has nothing more to do. -/
theorem opened {p : PerDevice DevRecord} (h : InterlockBut m (insert f w) p)
    (hf : (p.get (.ft f)).cmd ≠ .toClose) : InterlockBut m w p where
  addressed := h.addressed
  paired g := { h.paired g with
    test := fun hg hc => by
      by_cases e : g = f
      · subst e
        exact absurd hc hf
      · exact (h.paired g).test (fun hw => hw.elim e hg) hc
    assigned := fun hg => (h.paired g).assigned (Set.mem_insert_of_mem f hg) }

/-- R57: a test contactor that waits for its guard is given OPEN. -/
protected theorem openTest (h : InterlockBut m (insert f w) s.devs) : InterlockBut m w (openTest f s).devs := by
  have ha : (s.dev (.ft f)).addr ≠ none := (h.paired f).assigned (Set.mem_insert f w)
  refine InterlockBut.lockout ((h.askOpen (d := .ft f) (by_ := .sequencer)).opened ?_)
  rw [show ((Machine.askOpen (.ft f) .sequencer s).devs.get (.ft f)).cmd = .toOpen from askOpen_cmd ha .sequencer]
  nofun

/-- Where nothing waits for it, the guard keeps the interlock. -/
protected theorem guardPosition {changed : State} (h : InterlockBut m w s.devs) :
    InterlockBut m w (guardPosition d changed s).devs := by
  cases d with
  | fm f => exact .ite h.askOpen.lockout h
  | ft f => exact (h.waits f).guardMain
  | dcm => exact h
  | acm => exact h

/-- The guard after a device's position has changed. -/
theorem guardMoved {changed : State} (h : InterlockBut (waiting d m) w s.devs) :
    InterlockBut m w (Machine.guardPosition d changed s).devs := by
  cases d with
  | fm f => exact h.guardPosition
  | ft f => exact h.guardMain
  | dcm => exact h
  | acm => exact h

protected theorem repeatExpired (h : InterlockBut m w s.devs) : InterlockBut m w (repeatExpired d s).devs :=
  .ite h h.sendCommand

protected theorem clearFlagAtRest (h : InterlockBut m w s.devs) : InterlockBut m w (clearFlagAtRest d s).devs :=
  .ite h.updDev h

protected theorem restartSwitchgear (h : InterlockBut m w s.devs) : InterlockBut m w (restartSwitchgear s).devs :=
  h.forEach (l := deviceList) (k := fun d s => (Machine.endCommand d s).updDev d fun r => { r with flag := .none })
    fun _ _ hu => hu.endCommand.updDev

end InterlockBut

end Sys2Proof.Machine
end

section
set_option Elab.async false

/-! SUPPORT. The interlock through the evaluators, the sequencers and the rectifier: each asks for commands by the requests
alone. -/

namespace Sys2Proof.Machine

namespace InterlockBut
variable {m w : Set (Fin 8)} {s t : State} {f : Fin 8}

/-! ## The Feeder Evaluators -/

protected theorem tripDecision {cause : Cause} {value : Int} (h : InterlockBut m w s.devs) :
    InterlockBut m w (tripDecision f cause value s).devs := by
  have hasked : InterlockBut m w (askOpen (.fm f) .feederProtection (s.updEv f fun e => { e.clearElements with
      state := .tripping, pendingTrip := some cause, lastTrip := some (cause, value) })).devs := InterlockBut.askOpen h
  unfold Machine.tripDecision
  dsimp only
  rw [tellTrip_devs]
  split
  · exact hasked.frame (trigger_devs ..)
  · rw [enqueue_devs]
    exact hasked.frame (trigger_devs ..)

protected theorem channelLoss (h : InterlockBut m w s.devs) : InterlockBut m w (channelLoss f s).devs := by
  unfold Machine.channelLoss
  split
  · exact h
  · split
    · exact h
    · exact h.tripDecision

protected theorem viewChange {new : ChanState} (h : InterlockBut m w s.devs) :
    InterlockBut m w (viewChange f new s).devs := by
  have hsettled : InterlockBut m w (settle f (s.updEv f fun e => { e with chanView := new })).devs :=
    h.frame (settle_devs ..)
  have hlost : InterlockBut m w (Machine.channelLoss f (s.updEv f fun e => { e with chanView := new })).devs :=
    InterlockBut.channelLoss h
  unfold Machine.viewChange
  dsimp only
  split
  · exact .ite hsettled h
  · exact .ite hsettled h
  · exact h
  · exact .ite hlost h
  · exact .ite hlost h

protected theorem intertripTrip {code : Byte} (h : InterlockBut m w s.devs) :
    InterlockBut m w (intertripTrip f code s).devs := by
  unfold Machine.intertripTrip
  dsimp only
  split
  · exact .ite h h.tripDecision
  · exact .ite h h.tripDecision
  · exact .ite h h.tripDecision
  · exact h
  · exact h

protected theorem ownStep {ft : FeederSettings} {own old : Instant} (h : InterlockBut m w s.devs) :
    InterlockBut m w (ownStep f ft own old s).devs := by
  refine .ite h.tripDecision ?_
  dsimp only
  split
  · exact .ite h.tripDecision (h.frame (startTest_devs ..))
  · exact .ite h.tripDecision (.ite h.tripDecision (h.frame (testEnd_devs ..)))
  · exact h

/-! ## The Reclose Sequencers -/

protected theorem closingEntry (h : InterlockBut m w s.devs) : InterlockBut m w (closingEntry f s).devs := by
  have hasked : InterlockBut m w (requestClose (.fm f) .sequencer s).2.devs := h.requestClose
  exact .ite h.lockout <| .ite h <| .ite h <| .ite hasked hasked.lockout

protected theorem testingEntry (h : InterlockBut m w s.devs) : InterlockBut m w (testingEntry f s).devs := by
  have hasked : InterlockBut m w (requestClose (.ft f) .sequencer s).2.devs := h.requestClose
  exact .ite h.lockout <| .ite (InterlockBut.closingEntry h) <| .ite hasked hasked.lockout

protected theorem testStart (h : InterlockBut m w s.devs) : InterlockBut m w (testStart f s).devs :=
  .ite h <| .ite h h.testingEntry

protected theorem testOutcome {o : TestOutcome} {r uB uL : Option Nat} {value : Option Int}
    (h : InterlockBut m w s.devs) : InterlockBut m w (testOutcome f o r uB uL value s).devs :=
  InterlockBut.askOpen (d := .ft f) (by_ := .sequencer) (s := testResult f o r uB uL value s) h

protected theorem workOut (h : InterlockBut m w s.devs) : InterlockBut m w (workOut f s).devs :=
  .ite h.testOutcome <| .ite h.testOutcome h.testOutcome

protected theorem settleExpired (h : InterlockBut m w s.devs) : InterlockBut m w (settleExpired f s).devs :=
  .ite h h.testOutcome

protected theorem takeSequencerCopy {k : Copy} (h : InterlockBut m w s.devs) :
    InterlockBut m w (takeSequencerCopy f k s).devs := by
  have hadded (b l : Bool) : InterlockBut m w (s.updSeq f (addReading b l k.own)).devs := h
  unfold Machine.takeSequencerCopy
  dsimp only
  split
  · refine .ite ?_ h
    split
    · exact h.closingEntry
    · exact h.testingEntry
  · exact .ite (.ite h.testOutcome (.ite (hadded _ _).workOut (hadded _ _))) h
  · exact h

protected theorem sequencerStateNotice {n : StateNotice} (h : InterlockBut m w s.devs) :
    InterlockBut m w (sequencerStateNotice f n s).devs := .ite h.testOutcome h

protected theorem busChannelChanged (h : InterlockBut m w s.devs) : InterlockBut m w (busChannelChanged f s).devs :=
  .ite (.ite h h.testOutcome) h

protected theorem interruptTest (h : InterlockBut m w s.devs) : InterlockBut m w (interruptTest f s).devs :=
  InterlockBut.askOpen (d := .ft f) (by_ := .sequencer) (s := clearSums f s) h

protected theorem testCleared (h : InterlockBut m w s.devs) : InterlockBut m w (testCleared f s).devs := by
  unfold Machine.testCleared
  dsimp only
  split
  · exact h
  · exact h.closingEntry
  · exact h.closingEntry
  · exact .ite (h.frame (waitDead_devs ..)) (InterlockBut.lockout h)
  · exact .ite h h
  · exact h.lockout
  · exact .ite h h.testStart

protected theorem holdNotice (h : InterlockBut m w s.devs) : InterlockBut m w (holdNotice f s).devs := by
  unfold Machine.holdNotice
  dsimp only
  split
  · exact h
  · exact h
  · exact InterlockBut.interruptTest h
  · exact InterlockBut.interruptTest h
  · exact .ite (InterlockBut.askOpen (d := .fm f) (by_ := .sequencer) h) h
  · exact h

protected theorem releaseHold (h : InterlockBut m w s.devs) : InterlockBut m w (releaseHold f s).devs :=
  .ite (InterlockBut.testStart h) h

protected theorem testNotice {old new : Position} (h : InterlockBut m w s.devs) :
    InterlockBut m w (testNotice f old new s).devs := .ite h.askOpen.lockout h

protected theorem sequencerCompletion {isMain : Bool} {c : Command} (h : InterlockBut m w s.devs) :
    InterlockBut m w (sequencerCompletion f isMain c s).devs := by
  unfold Machine.sequencerCompletion
  dsimp only
  split
  · exact h
  · exact h.testCleared
  · exact h
  · exact .ite (.ite h h.testStart) h
  · exact h

protected theorem reclaimExpired (h : InterlockBut m w s.devs) : InterlockBut m w (reclaimExpired f s).devs :=
  h.frame (enqueue_devs ..)

/-- R104: the sequence of a feeder whose breaker the operator opens is abandoned. -/
protected theorem abandoned (h : InterlockBut m w s.devs) : InterlockBut m w
    (if seqIdle (s.seq f).state then (enterIdle f .idleOpen (clearSums f s)).updSeq f fun q => { q with noted := none }
      else reportAbandoned f 2 ((enterIdle f .idleOpen (clearSums f s)).updSeq f fun q => { q with noted := none })).devs :=
  .ite h h

protected theorem operatorOpen (h : InterlockBut m w s.devs) : InterlockBut m w (operatorOpen f s).2.devs := by
  have hasked : InterlockBut m w (requestOpen (.fm f) .operator s).2.devs := h.requestOpen
  unfold Machine.operatorOpen
  dsimp only
  generalize requestOpen (.fm f) .operator s = r at hasked
  have hboth : InterlockBut m w (askOpen (.ft f) .operator r.2).devs := hasked.askOpen
  generalize askOpen (.ft f) .operator r.2 = both at hboth
  split
  · exact h
  · split
    · split
      · exact hboth
      · exact hboth.abandoned
    · split
      · exact hasked
      · exact hasked.abandoned

protected theorem operatorClose (h : InterlockBut m w s.devs) : InterlockBut m w (operatorClose f s).devs :=
  InterlockBut.testStart (f := f) (s := report .sequenceStart (.feeder f) (some 6) (some 1)
    (s.updSeq f fun q => { q with attempts := 0, limit := 1, noted := none })) h

protected theorem resetLockout (h : InterlockBut m w s.devs) : InterlockBut m w (resetLockout f s).devs := by
  have hcleared : InterlockBut m w (clearFlagAtRest (.ft f) (clearFlagAtRest (.fm f) s)).devs :=
    h.clearFlagAtRest.clearFlagAtRest
  unfold Machine.resetLockout
  rw [enqueue_devs]
  generalize clearFlagAtRest (.ft f) (clearFlagAtRest (.fm f) s) = u at hcleared
  exact hcleared

/-! ## The Rectifier Group Controller -/

protected theorem rectTrip {cause : Cause} {value : Int} (h : InterlockBut m w s.devs) :
    InterlockBut m w (rectTrip cause value s).devs := by
  have htold {u : State} {c : Option Nat} (hu : InterlockBut m w u.devs) : InterlockBut m w
      (submit .rectTrip .rectifier c (some value) (trigger cause .rectifier u).1 (trigger cause .rectifier u).2).devs :=
    hu.frame (trigger_devs ..)
  unfold Machine.rectTrip
  split
  · exact h
  · exact h
  · refine htold (.ite (InterlockBut.askOpen ?_) ?_)
    · exact h
    · exact h

protected theorem cancelWait {cause : Nat} (h : InterlockBut m w s.devs) : InterlockBut m w (cancelWait cause s).devs :=
  .ite h <| .ite (InterlockBut.askOpen h) h

protected theorem stopFailed (h : InterlockBut m w s.devs) : InterlockBut m w (stopFailed s).devs := .ite h h.rectTrip

protected theorem beginBreakerStep {n : Nat} {d : Device} (h : InterlockBut m w s.devs) :
    InterlockBut m w (beginBreakerStep n d s).devs := by
  have hasked : InterlockBut m w (requestOpen d .rectifier (setStopStep n s)).2.devs := InterlockBut.requestOpen h
  exact .ite hasked hasked.stopFailed

@[simp] theorem becomeBlocked_devs (s : State) : (becomeBlocked s).devs = s.devs := by
  unfold becomeBlocked
  dsimp only
  split <;> rfl

protected theorem stopArrival {rt : RectSettings} {k : Copy} (h : InterlockBut m w s.devs) :
    InterlockBut m w (stopArrival rt k s).devs := .ite (.ite h.beginBreakerStep h) h

protected theorem currentLost {c : Fin 24} {left : Bool} (h : InterlockBut m w s.devs) :
    InterlockBut m w (currentLost c left s).devs := .ite h.rectTrip <| .ite h.stopFailed h

protected theorem overcurrent {rt : RectSettings} {k : Copy} (h : InterlockBut m w s.devs) :
    InterlockBut m w (overcurrent rt k s).devs := .ite (.ite h.rectTrip h) h

protected theorem addCurrent {i : Instant} (h : InterlockBut m w s.devs) : InterlockBut m w (addCurrent i s).devs :=
  .ite h h

protected theorem takeCurrentCopy {k : Copy} (h : InterlockBut m w s.devs) :
    InterlockBut m w (takeCurrentCopy k s).devs := by
  unfold Machine.takeCurrentCopy
  split
  · exact h
  · exact .ite (InterlockBut.ite h h.currentLost).overcurrent.addCurrent.stopArrival h

protected theorem takeBusCopy {k : Copy} (h : InterlockBut m w s.devs) : InterlockBut m w (takeBusCopy k s).devs :=
  .ite (.ite h h) h

protected theorem trackerTo {st : TrackState} {cause value : Nat} (h : InterlockBut m w s.devs) :
    InterlockBut m w (trackerTo st cause value s).devs :=
  .ite (.ite (InterlockBut.rectTrip h) (InterlockBut.cancelWait h)) h

protected theorem rectStateNotice {n : StateNotice} (h : InterlockBut m w s.devs) :
    InterlockBut m w (rectStateNotice n s).devs := by
  unfold Machine.rectStateNotice
  split
  · exact h
  · next r _ =>
    have htracked : InterlockBut m w (if r.uabChan = n.chan then trackerChannelLost s else s).devs := .ite h.trackerTo h
    exact .ite (.ite htracked.currentLost htracked) h

protected theorem acNotice {new : Position} {mark : Bool} (h : InterlockBut m w s.devs) :
    InterlockBut m w (acNotice new mark s).devs := by
  have hended : InterlockBut m w (if (cancelWait 4 (rectGo .off s)).rect.stopStep = 4 then cancelWait 4 (rectGo .off s)
      else setStopStep 0 (cancelWait 4 (rectGo .off s))).devs := .ite (InterlockBut.cancelWait h) (InterlockBut.cancelWait h)
  unfold Machine.acNotice
  dsimp only
  split
  · exact .ite h (.ite h h)
  · exact .ite h (.ite hended hended)
  · exact .ite h.rectTrip h
  · exact .ite h.rectTrip h
  · exact .ite h.rectTrip h
  · exact h

protected theorem dcNotice {old new : Position} (h : InterlockBut m w s.devs) :
    InterlockBut m w (dcNotice old new s).devs :=
  .ite h <| .ite (h.frame (becomeBlocked_devs s)) <| .ite h.cancelWait h

protected theorem rectCompletion {d : Device} {c : Command} (h : InterlockBut m w s.devs) :
    InterlockBut m w (rectCompletion d c s).devs := by
  unfold Machine.rectCompletion
  split
  · exact .ite h h
  · exact .ite h.beginBreakerStep h
  · exact .ite h h
  · exact h

protected theorem dcCloseFailed (h : InterlockBut m w s.devs) : InterlockBut m w (dcCloseFailed s).devs :=
  .ite h.rectTrip h

protected theorem rectOpenFailed {d : Device} (h : InterlockBut m w s.devs) :
    InterlockBut m w (rectOpenFailed d s).devs := by
  unfold Machine.rectOpenFailed
  split
  · exact .ite h h.stopFailed
  · exact .ite h.stopFailed h
  · exact h

protected theorem closeAc (h : InterlockBut m w s.devs) : InterlockBut m w (closeAc s).2.devs := by
  unfold Machine.closeAc
  split
  · exact h.requestClose
  · exact h

protected theorem deblock (h : InterlockBut m w s.devs) : InterlockBut m w (deblock s).2.devs := by
  unfold Machine.deblock
  split
  · exact h
  · split
    · exact h
    · dsimp only
      split
      · exact h
      · split
        · exact h.requestClose (d := .dcm) (by_ := .rectifier)
        · exact h

@[simp] theorem block_devs (s : State) : (block s).2.devs = s.devs := by
  unfold block
  split <;> rfl

protected theorem stopFull (h : InterlockBut m w s.devs) : InterlockBut m w (stopFull s).2.devs := by
  unfold Machine.stopFull
  split
  · exact h
  · split
    · exact h
    · exact h
    · exact h
    · exact h.cancelWait (cause := 5)
    · exact h

protected theorem resetRect (h : InterlockBut m w s.devs) : InterlockBut m w (resetRect s).2.devs := by
  unfold Machine.resetRect
  split
  · exact h.clearFlagAtRest.clearFlagAtRest (d := .acm)
  · exact h

/-! ## The regulator and the firing scheduler -/

@[simp] theorem resumeRegulator_devs (s : State) : (resumeRegulator s).devs = s.devs := by
  unfold resumeRegulator
  split <;> rfl

@[simp] theorem setLimitFlag_devs (b : Bool) (s : State) : (setLimitFlag b s).devs = s.devs := by
  unfold setLimitFlag
  split <;> rfl

@[simp] theorem testRunning_devs (rt : RectSettings) (uTgt : Int) (s : State) : (testRunning rt uTgt s).devs = s.devs := by
  unfold testRunning
  split <;> rfl

@[simp] theorem regulatorStep_devs (rt : RectSettings) (s : State) : (regulatorStep rt s).devs = s.devs := by
  unfold regulatorStep
  dsimp only
  split
  · split <;> rfl
  · rw [testRunning_devs, State.updRect_devs, setLimitFlag_devs, resumeRegulator_devs]

protected theorem endWait {rt : RectSettings} {at_ : Int} (h : InterlockBut m w s.devs) :
    InterlockBut m w (endWait rt at_ s).devs := .ite h.cancelWait <| .ite h.cancelWait h

@[simp] theorem firingFallsDue_devs (s : State) : (firingFallsDue s).devs = s.devs := by
  unfold firingFallsDue
  split
  · rfl
  · dsimp only
    split
    · exact (becomeBlocked_devs _).trans (advanceTo_devs ..)
    · exact advanceTo_devs ..

protected theorem timeoutCheck (h : InterlockBut m w s.devs) : InterlockBut m w (timeoutCheck s).devs := by
  unfold Machine.timeoutCheck
  dsimp only
  split
  · exact .ite h.trackerTo h
  · exact h

/-! ## Positions -/

protected theorem giveNotice {d : Device} {old new : Position} {mark : Bool} (h : InterlockBut m w s.devs) :
    InterlockBut m w (giveNotice d old new mark s).devs := by
  unfold Machine.giveNotice
  split
  · exact h.frame ((mainNotice_devs ..).trans (evaluatorNotice_devs ..))
  · exact h.testNotice
  · exact h.dcNotice
  · exact h.acNotice

protected theorem escalate {d : Device} (h : InterlockBut m w s.devs) : InterlockBut m w (escalate d s).devs := by
  unfold Machine.escalate
  split
  · exact InterlockBut.lockout (h.askOpen.rectTrip.frame ((trigger_devs ..).trans (enqueue_devs ..)))
  · exact InterlockBut.lockout h
  · exact InterlockBut.rectOpenFailed (h.askOpen (d := .acm) (by_ := .escalation))
  · exact InterlockBut.rectOpenFailed h

protected theorem openFailed {d : Device} (h : InterlockBut m w s.devs) : InterlockBut m w (openFailed d s).devs :=
  h.updDev.escalate

protected theorem tellCloseFailed {d : Device} (h : InterlockBut m w s.devs) :
    InterlockBut m w (tellCloseFailed d s).devs := by
  unfold Machine.tellCloseFailed
  split
  · exact h.lockout
  · exact h.lockout
  · exact h.dcCloseFailed
  · exact h

/-- R55: a CLOSE that has failed becomes an OPEN, which the owner is told before the guard of its change. -/
protected theorem closeFailed {d : Device} (h : InterlockBut m w s.devs) (ha : (s.dev d).addr ≠ none) :
    InterlockBut m w (closeFailed d s).devs := by
  refine InterlockBut.guardCommand (InterlockBut.tellCloseFailed (InterlockBut.takeOpen (d := d)
    (s := s.updDev d fun r => { r with flag := .closeFail }) h.updDev ?_))
  rw [State.updDev_dev_same]
  exact ha

protected theorem tellCompleted {d : Device} {c : Command} (h : InterlockBut m w s.devs) :
    InterlockBut m w (tellCompleted d c s).devs := by
  unfold Machine.tellCompleted
  split
  · exact h.sequencerCompletion
  · exact h.sequencerCompletion
  · exact h.rectCompletion

protected theorem completeCommand {d : Device} (h : InterlockBut m w s.devs) :
    InterlockBut m w (completeCommand d s).devs := by
  have hended : InterlockBut m w ((Machine.endCommand d s).updDev d fun x => { x with
      flag := if x.flag = .closeFail then .none else x.flag }).devs := h.endCommand.updDev
  exact InterlockBut.tellCompleted (.ite hended hended)

/-- R51, R52: the command checks. A command that completes or fails is outstanding, so its record is assigned. -/
protected theorem commandChecks {d : Device} (h : InterlockBut m w s.devs) : InterlockBut m w (commandChecks d s).devs := by
  unfold Machine.commandChecks
  dsimp only
  split
  · exact h.completeCommand
  · exact h.completeCommand
  · exact .ite h h.openFailed
  · next hc _ => exact h.closeFailed (h.addressed d (by rw [show (s.devs.get d).cmd = .toClose from hc]; nofun))
  · exact h

protected theorem openTimerExpired {d : Device} (h : InterlockBut m w s.devs) :
    InterlockBut m w (openTimerExpired d s).devs := .ite h.openFailed h

protected theorem closeTimerExpired {d : Device} (h : InterlockBut m w s.devs) :
    InterlockBut m w (closeTimerExpired d s).devs := by
  unfold Machine.closeTimerExpired
  split
  · next hc => exact h.closeFailed (h.addressed d (by rw [show (s.devs.get d).cmd = .toClose from hc]; nofun))
  · exact h

end InterlockBut

end Sys2Proof.Machine
end

section
set_option Elab.async false

/-! SUPPORT. The interlock through adoption, a change of position, and the arrivals at the consumers. -/

namespace Sys2Proof.Machine

namespace InterlockBut
variable {m w : Set (Fin 8)} {s t : State} {f : Fin 8} {d : Device}

/-! ## Adoption -/

/-- The guard that a device's change waits for may be waited for at any time. -/
theorem wait {p : PerDevice DevRecord} (h : InterlockBut m w p) (d : Device) : InterlockBut (waiting d m) w p := by
  cases d with
  | ft f => exact h.waits f
  | fm f => exact h
  | dcm => exact h
  | acm => exact h

/-- R47: a new address, with the frame that its outstanding command is then sent in. -/
theorem readdress {a : Byte × Byte} (h : InterlockBut m w s.devs)
    (hmoved : InterlockBut m w (s.updDev d fun r => { r with addr := some a, pos := .unknown, ageAt := none }).devs) :
    InterlockBut m w (readdress d a s).devs :=
  .ite h <| .ite hmoved <| .ite hmoved.sendCommand hmoved.updDev

protected theorem takeAddress {a : Byte × Byte} (h : InterlockBut m w s.devs) :
    InterlockBut m w (takeAddress d a s).devs := by
  unfold Machine.takeAddress
  dsimp only
  split
  · next hsame =>
    simp only [Bool.or_eq_true, decide_eq_true_eq] at hsame
    rcases hsame with haddr | hpos
    · rw [show Machine.readdress d a s = s from if_pos haddr]
      exact h
    · exact h.readdress (h.keep rfl (show Position.unknown = (s.dev d).pos from hpos.symm) nofun)
  · exact guardMoved (InterlockBut.giveNotice
      ((h.wait d).readdress (h.moves rfl (fun _ => nofun) (.inr ⟨nofun, nofun⟩))))

protected theorem evaluatorAdopt {ft : FeederSettings} {b : Bool} (h : InterlockBut m w s.devs) :
    InterlockBut m w (evaluatorAdopt f ft b s).devs := by
  have hsettled {g : Evaluator → Evaluator} : InterlockBut m w (settle f (s.updEv f g)).devs := h.frame (settle_devs ..)
  exact .ite (.ite hsettled hsettled) h

protected theorem adoptFeeder {b : Bool} {bank : List Byte} (h : InterlockBut m w s.devs) :
    InterlockBut m w (adoptFeeder b bank f s).devs :=
  (InterlockBut.takeAddress (s := sequencerAdopt f (planOf bank f) (evaluatorAdopt f (feederOf bank f) b s))
    h.evaluatorAdopt).takeAddress

protected theorem rectChannelsMove {old : Option RectSettings} {rt : RectSettings} (h : InterlockBut m w s.devs) :
    InterlockBut m w (rectChannelsMove old rt s).devs := by
  have hbus : InterlockBut m w (if old.map (fun o => o.busChan) = some rt.busChan then s
      else forEach feeders busChannelChanged s).devs := .ite h (h.forEach fun _ _ hu => hu.busChannelChanged)
  unfold Machine.rectChannelsMove
  dsimp only
  split
  · exact .ite hbus hbus.trackerTo
  · have huab := InterlockBut.ite (p := old.map (fun o => o.uabChan) = some rt.uabChan) hbus
      (hbus.trackerTo (st := .unlocked) (cause := 4)
        (value := (if old.map (fun o => o.busChan) = some rt.busChan then s
          else forEach feeders busChannelChanged s).rect.tracker.p256))
    exact .ite (InterlockBut.rectTrip huab) huab

protected theorem adoptRect {bank : List Byte} (h : InterlockBut m w s.devs) :
    InterlockBut m w (adoptRect bank s).devs := by
  rw [adoptRect_eq]
  exact (InterlockBut.takeAddress (InterlockBut.rectChannelsMove (s := clampAlpha (rectOf bank) s) h)).takeAddress

@[simp] theorem becomeFree_devs (s : State) : (becomeFree s).devs = s.devs := by
  unfold becomeFree
  split <;> rfl

protected theorem adoptLine {bank : List Byte} (h : InterlockBut m w s.devs) :
    InterlockBut m w (adoptLine bank s).devs := by
  refine h.frame ?_
  unfold Machine.adoptLine adoptLineTable
  dsimp only
  split
  · rfl
  · split
    · exact becomeFree_devs ..
    · rfl

protected theorem adoptCapture {bank : List Byte} (h : InterlockBut m w s.devs) :
    InterlockBut m w (adoptCapture bank s).devs := h

protected theorem clearMark {k : Fin 13} (h : InterlockBut m w s.devs) : InterlockBut m w (clearMark k s).devs := by
  rw [clearMark_eq]
  exact h

protected theorem adoptIf {k : Fin 13} {safe : State → Bool} {adopt : List Byte → State → State}
    (h : InterlockBut m w s.devs) (ha : ∀ bank u, InterlockBut m w u.devs → InterlockBut m w (adopt bank u).devs) :
    InterlockBut m w (adoptIf k safe adopt s).devs := by
  rcases adoptIf_cases k safe adopt s with e | ⟨_, _, _, _, e⟩ <;> rw [e]
  · exact h
  · exact (ha _ _ h).clearMark

protected theorem sweepOnce (h : InterlockBut m w s.devs) : InterlockBut m w (sweepOnce s).devs := by
  have hfeeders := h.forEach (l := feeders)
    (k := fun f => Machine.adoptIf (feederMark f) (feederSafe f) fun b => Machine.adoptFeeder true b f)
    fun _ _ hu => hu.adoptIf fun _ _ hv => hv.adoptFeeder
  exact ((hfeeders.adoptIf fun _ _ => InterlockBut.adoptRect).adoptIf fun _ _ => InterlockBut.adoptLine).adoptIf
    fun _ _ => InterlockBut.adoptCapture

protected theorem sweeps {n : Nat} (h : InterlockBut m w s.devs) : InterlockBut m w (sweeps n s).devs :=
  sweeps_keeps (fun u => InterlockBut m w u.devs) (fun _ => InterlockBut.sweepOnce) n s h

protected theorem rebuildConsumers (h : InterlockBut m w s.devs) : InterlockBut m w (rebuildConsumers s).devs :=
  h.frame (by
    unfold Machine.rebuildConsumers
    rfl)

protected theorem finish (h : InterlockBut m w s.devs) : InterlockBut m w (finish s).devs :=
  .ite h.sweeps.rebuildConsumers h

protected theorem adoptRectAtCrossing (h : InterlockBut m w s.devs) : InterlockBut m w (adoptRectAtCrossing s).devs :=
  .ite (InterlockBut.adoptIf h fun _ _ => InterlockBut.adoptRect).rebuildConsumers h

/-- R148: a consumer adopts whatever its state. -/
protected theorem adoptAlways {k : Fin 13} {adopt : List Byte → State → State}
    (h : InterlockBut m w s.devs) (ha : ∀ bank u, InterlockBut m w u.devs → InterlockBut m w (adopt bank u).devs) :
    InterlockBut m w (adoptAlways k adopt s).devs := h.adoptIf ha

protected theorem adoptTheRest {b : Bool} (h : InterlockBut m w s.devs) : InterlockBut m w (adoptTheRest b s).devs := by
  have hfeeders := h.forEach (l := feeders)
    (k := fun f => Machine.adoptAlways (feederMark f) fun bank => Machine.adoptFeeder b bank f)
    fun _ _ hu => hu.adoptAlways fun _ _ hv => hv.adoptFeeder
  exact ((hfeeders.adoptAlways fun _ _ => InterlockBut.adoptRect).adoptAlways
    fun _ _ => InterlockBut.adoptLine).adoptAlways fun _ _ => InterlockBut.adoptCapture

protected theorem completePending (h : InterlockBut m w s.devs) : InterlockBut m w (completePending s).devs :=
  .ite (h.adoptTheRest (b := false)).rebuildConsumers h

protected theorem noticeTo {n : StateNotice} {k : Consumer} (h : InterlockBut m w s.devs) :
    InterlockBut m w (noticeTo n k s).devs := by
  unfold Machine.noticeTo
  split
  · exact h.viewChange
  · exact h.sequencerStateNotice
  · exact h.rectStateNotice
  · exact h

protected theorem stateNotice {n : StateNotice} (h : InterlockBut m w s.devs) :
    InterlockBut m w (stateNotice n s).devs := h.forEach fun _ _ hu => hu.noticeTo

protected theorem adoptChannel {old new : Vector StreamEntry 24} {c : Fin 24} (h : InterlockBut m w s.devs) :
    InterlockBut m w (adoptChannel old new c s).devs := by
  have hreset : InterlockBut m w (s.updChan c resetChannel).devs := h.frame (State.updChan_devs ..)
  exact .ite h (.ite hreset hreset.stateNotice)

protected theorem adoptStreams {bank : List Byte} (h : InterlockBut m w s.devs) :
    InterlockBut m w (adoptStreams bank s).devs := by
  rw [adoptStreams_eq]
  exact (h.frame (State.updMatcher_devs ..)).forEach fun _ _ hu => hu.adoptChannel

protected theorem startSwitch (h : InterlockBut m w s.devs) : InterlockBut m w (startSwitch s).devs := by
  have hbegun (u : State) (hu : InterlockBut m w u.devs) : InterlockBut m w
      (Machine.adoptAlways 11 adoptReports (Machine.adoptAlways 0 Machine.adoptStreams u)).devs :=
    InterlockBut.adoptAlways (hu.adoptAlways fun _ _ => InterlockBut.adoptStreams) fun _ _ hv => hv
  have hmarked : InterlockBut m w (s.updBanks fun k => { k with
      target := some (standby s), mask := Vector.replicate 13 true }).devs := h
  have hlast (u : State) (hu : InterlockBut m w u.devs) :
      InterlockBut m w (rebuildConsumers (Machine.sweeps 13 u)).devs := hu.sweeps.rebuildConsumers
  unfold Machine.startSwitch
  dsimp only
  refine hlast _ ?_
  split
  · exact (hbegun _ hmarked).adoptTheRest
  · exact hbegun _ hmarked

/-! ## Positions -/

protected theorem ownerNotice {old new : Position} {mark : Bool} (h : InterlockBut m w s.devs) :
    InterlockBut m w (ownerNotice d old new mark s).devs := by
  unfold Machine.ownerNotice
  split
  · next f =>
    exact ((h.frame (evaluatorNotice_devs f new s)).finish.frame (mainNotice_devs f old new mark _)).finish
  · exact h.giveNotice.finish

/-- R57: FMf reads CLOSED or TRAVEL with a CLOSE of FTf outstanding: it waits for the guard that opens FTf. -/
theorem exposes {r : DevRecord} (h : InterlockBut m w s.devs) (hcmd : r.cmd = (s.dev (.fm f)).cmd)
    (haddr : r.addr = (s.dev (.fm f)).addr) (hclose : (s.dev (.ft f)).cmd = .toClose) :
    InterlockBut m (insert f w) (s.devs.set (.fm f) r) := by
  have hassigned : (s.dev (.ft f)).addr ≠ none := h.addressed (.ft f) (by
    rw [show (s.devs.get (.ft f)).cmd = .toClose from hclose]
    nofun)
  have hwider : InterlockBut m (insert f w) s.devs := ⟨h.addressed, fun g =>
    { h.paired g with
      test := fun hg => (h.paired g).test fun hw => hg (Set.mem_insert_of_mem f hw)
      assigned := fun hg => hg.elim (fun e => e ▸ hassigned) (h.paired g).assigned }⟩
  obtain ⟨hmain, hapart, _, hassigned'⟩ := hwider.paired f
  refine hwider.setMain (fun hr => ?_) ⟨?_, ?_, fun hn => absurd (Set.mem_insert f w) hn, hassigned'⟩
  · rw [haddr]
    exact h.addressed (.fm f) (hcmd ▸ hr)
  · rwa [hcmd]
  · rwa [hcmd]

/-- R57: with no CLOSE of FTf outstanding FMf may read any position. -/
theorem movesMain {r : DevRecord} (h : InterlockBut m w s.devs) (hcmd : r.cmd = (s.dev (.fm f)).cmd)
    (haddr : r.addr = (s.dev (.fm f)).addr) (hopen : (s.dev (.ft f)).cmd ≠ .toClose) :
    InterlockBut m w (s.devs.set (.fm f) r) := by
  obtain ⟨hmain, hapart, _, hassigned⟩ := h.paired f
  refine h.setMain (fun hr => ?_) ⟨?_, ?_, fun _ hc => absurd hc hopen, hassigned⟩
  · rw [haddr]
    exact h.addressed (.fm f) (hcmd ▸ hr)
  · rwa [hcmd]
  · rwa [hcmd]

protected theorem changePosition {new : Position} (h : InterlockBut m w s.devs) :
    InterlockBut m w (changePosition d new s).devs := by
  have hnotice {m' w' : Set (Fin 8)}
      (hc : InterlockBut m' w' (s.updDev d fun r => { r with pos := new }).devs) : InterlockBut m' w'
        (ownerNotice d (s.dev d).pos new (uncommanded (s.dev d) new)
          (positionReport d (s.dev d) new (s.updDev d fun r => { r with pos := new }))).devs :=
    (hc.frame (positionReport_devs ..)).ownerNotice
  unfold Machine.changePosition
  refine InterlockBut.finish ?_
  by_cases hmoves : (∀ f, d ≠ .fm f) ∨ (new ≠ .closed ∧ new ≠ .travel)
  · exact (hnotice (h.moves rfl id hmoves)).guardMoved
  · rw [not_or, not_forall] at hmoves
    obtain ⟨⟨f, hd⟩, hnew⟩ := hmoves
    rw [not_not] at hd
    subst hd
    by_cases hclose : (s.dev (.ft f)).cmd = .toClose
    · have hexposed : testExposed f (s.updDev (.fm f) fun r => { r with pos := new }) = true := by
        have hft : (s.updDev (.fm f) fun r => { r with pos := new }).dev (.ft f) = s.dev (.ft f) :=
          State.updDev_dev_ne s _ nofun
        have hfm : new = .closed ∨ new = .travel := by tauto
        simp [testExposed, hft, hclose, hfm]
      have hopened := (hnotice (h.exposes rfl rfl hclose)).openTest
      rw [← show guardPosition (.fm f) (s.updDev (.fm f) fun r => { r with pos := new }) _ = _ from if_pos hexposed]
        at hopened
      exact hopened
    · exact (hnotice (h.movesMain rfl rfl hclose)).guardPosition

protected theorem positionAged (h : InterlockBut m w s.devs) : InterlockBut m w (positionAged d s).devs := by
  unfold Machine.positionAged
  dsimp only
  split
  · next hpos => exact h.keep rfl (show Position.unknown = (s.dev d).pos from hpos.symm) id
  · have haged : InterlockBut (waiting d m) w
        (breakerReport .positionUnknown d (positionCode (s.dev d).pos)
          (s.updDev d fun r => { r with pos := .unknown, ageAt := none })).devs :=
      h.moves rfl id (.inr ⟨nofun, nofun⟩)
    exact haged.ownerNotice.guardMoved

protected theorem matchPosition {new : Position} (h : InterlockBut m w s.devs) :
    InterlockBut m w (matchPosition new d s).devs := by
  have hfresh : InterlockBut m w (s.updDev d fun r => { r with ageAt := some (deadline s 50) }).devs := h.updDev
  exact InterlockBut.commandChecks (.ite hfresh hfresh.changePosition)

protected theorem takePosition {fr : Frame} (h : InterlockBut m w s.devs) :
    InterlockBut m w (takePosition fr s).devs := by
  unfold Machine.takePosition
  dsimp only
  split
  · exact h
  · split
    · exact h
    · split
      · exact h
      · exact h.forEach fun _ _ hu => hu.matchPosition

/-! ## Arrivals at the consumers -/

protected theorem missingSteps {c : Fin 24} {n : Nat} (h : InterlockBut m w s.devs) :
    InterlockBut m w (missingSteps f c n s).devs := by
  induction n generalizing s with
  | zero => exact h
  | succ n ih =>
    unfold Machine.missingSteps
    split
    · exact h
    · exact ih (h.frame (missingStep_devs ..)).finish

protected theorem takeEvaluatorCopy {k : Copy} (h : InterlockBut m w s.devs) :
    InterlockBut m w (takeEvaluatorCopy f k s).devs := by
  have hview : InterlockBut m w (viewChange f k.after s).devs := h.viewChange
  have hwork : InterlockBut m w (missingSteps f k.chan k.missing (viewChange f k.after s)).devs := hview.missingSteps
  have harrive : InterlockBut m w (if k.after = .valid then
      match evaluates f k.chan (missingSteps f k.chan k.missing (viewChange f k.after s)) with
      | none => missingSteps f k.chan k.missing (viewChange f k.after s)
      | some t => ownStep f t k.own (k.hist.getD 3 missingInstant)
          (missingSteps f k.chan k.missing (viewChange f k.after s))
      else viewChange f k.after s).devs := by
    refine .ite ?_ hview
    split
    · exact hwork
    · exact hwork.ownStep
  unfold Machine.takeEvaluatorCopy
  refine .ite ?_ h
  split
  · exact harrive
  · exact harrive
  · exact hview

protected theorem evaluatorTakes (h : InterlockBut m w s.devs) : InterlockBut m w (evaluatorTakes f s).devs := by
  unfold Machine.evaluatorTakes
  split
  · exact h
  · exact InterlockBut.finish (InterlockBut.takeEvaluatorCopy (s := s.updEv f _) h)

protected theorem sequencerTakes (h : InterlockBut m w s.devs) : InterlockBut m w (sequencerTakes f s).devs := by
  unfold Machine.sequencerTakes
  split
  · exact h
  · exact InterlockBut.finish (InterlockBut.takeSequencerCopy (s := s.updSeq f _) h)

protected theorem lockedCrossing {back : Nat} (h : InterlockBut m w s.devs) :
    InterlockBut m w (lockedCrossing back s).devs := by
  have ha : InterlockBut m w (adoptRectAtCrossing (dropFirings s)).devs :=
    InterlockBut.adoptRectAtCrossing (s := dropFirings s) h
  unfold Machine.lockedCrossing
  dsimp only
  split
  · exact ha
  · next rt _ =>
    have hregulated : InterlockBut m w (regulatorStep rt (adoptRectAtCrossing (dropFirings s))).devs :=
      ha.frame (regulatorStep_devs ..)
    split
    · exact hregulated
    · exact hregulated
    · exact ha
    · exact .ite ha.endWait ha
    · exact ha

protected theorem takeCrossing {time : BitVec 40} {back : Nat} {n : BitVec 32} (h : InterlockBut m w s.devs) :
    InterlockBut m w (takeCrossing time back n s).devs := by
  unfold Machine.takeCrossing
  dsimp only
  split
  · exact h
  · refine .ite ?_ h
    split <;> exact h
  · exact .ite (InterlockBut.lockedCrossing (s := (noteCrossing time n s).updRect _) h)
      (InterlockBut.trackerTo (s := rejectPeriod (noteCrossing time n s)) h)

protected theorem takeTrackerCopy {k : Copy} (h : InterlockBut m w s.devs) :
    InterlockBut m w (takeTrackerCopy k s).devs := by
  unfold Machine.takeTrackerCopy
  dsimp only
  refine .ite (.ite (InterlockBut.timeoutCheck ?_) (.ite h (InterlockBut.trackerTo (s := s.updRect _) h))) h
  split
  · exact h
  · exact InterlockBut.takeCrossing (s := s.updRect _) h

protected theorem trackerTakes (h : InterlockBut m w s.devs) : InterlockBut m w (trackerTakes s).devs := by
  unfold Machine.trackerTakes
  split
  · exact h
  · exact InterlockBut.finish (InterlockBut.takeTrackerCopy (s := s.updRect _) h)

protected theorem currentTakes (h : InterlockBut m w s.devs) : InterlockBut m w (currentTakes s).devs := by
  unfold Machine.currentTakes
  split
  · exact h
  · exact InterlockBut.finish (InterlockBut.takeCurrentCopy (s := s.updRect _) h)

protected theorem busTakes (h : InterlockBut m w s.devs) : InterlockBut m w (busTakes s).devs := by
  unfold Machine.busTakes
  split
  · exact h
  · exact InterlockBut.takeBusCopy (s := s.updRect _) h

protected theorem captureTakes (h : InterlockBut m w s.devs) : InterlockBut m w (captureTakes s).devs := by
  have htaken {u : State} {k : Copy} (hu : InterlockBut m w u.devs) : InterlockBut m w (takeCaptureCopy k u).devs :=
    .ite (InterlockBut.forEach (s := u.updCapture _) hu fun _ _ hv => .ite hv hv) hu
  unfold Machine.captureTakes
  split
  · exact h
  · exact (htaken (u := s.updCapture _) h).finish

/-- What one turn keeps of it, any number of turns keeps. -/
protected theorem times {k : State → State} {n : Nat} (h : InterlockBut m w s.devs)
    (hk : ∀ u, InterlockBut m w u.devs → InterlockBut m w (k u).devs) : InterlockBut m w (times n k s).devs := by
  induction n generalizing s with
  | zero => exact h
  | succ n ih => exact ih (hk s h)

protected theorem drainConsumer {k : Consumer} (h : InterlockBut m w s.devs) :
    InterlockBut m w (drainConsumer k s).devs := by
  unfold Machine.drainConsumer
  split
  · exact h.times fun _ => InterlockBut.evaluatorTakes
  · exact h.times fun _ => InterlockBut.sequencerTakes
  · exact h.times fun _ => InterlockBut.captureTakes
  · exact ((h.times fun _ => InterlockBut.trackerTakes).times fun _ => InterlockBut.currentTakes).times
      fun _ => InterlockBut.busTakes

/-! ## Arrivals at a channel -/

protected theorem handCopy {k : Copy} {taker : Consumer} (h : InterlockBut m w s.devs) :
    InterlockBut m w (handCopy k taker s).devs := by
  unfold Machine.handCopy
  split
  · exact h
  · exact h
  · exact h
  · split <;> exact h

protected theorem channelReport {code : ReportCode} {c : Fin 24} {value : Option Int} (h : InterlockBut m w s.devs) :
    InterlockBut m w (channelReport code c value s).devs := .ite h h

protected theorem fileOldest {c : Fin 24} (h : InterlockBut m w s.devs) : InterlockBut m w (fileOldest c s).devs := by
  unfold Machine.fileOldest
  dsimp only
  split
  · exact h
  · exact InterlockBut.forEach (.ite (InterlockBut.channelReport (s := s.updChan c _) h) h) fun _ _ hu => hu.handCopy

protected theorem drainAll (h : InterlockBut m w s.devs) : InterlockBut m w (drainAll s).devs :=
  (h.forEach fun _ _ hu => hu.times fun _ => InterlockBut.fileOldest).forEach fun _ _ hu => hu.drainConsumer

protected theorem stalenessExpired {c : Fin 24} (h : InterlockBut m w s.devs) :
    InterlockBut m w (stalenessExpired c s).devs := by
  have hstale {u : State} (hu : InterlockBut m w u.devs) : InterlockBut m w (goStale c u).devs :=
    InterlockBut.channelReport (s := u.updChan c _) hu
  exact .ite (hstale (h.forEach fun _ _ hu => hu.drainConsumer)).stateNotice.finish h

end InterlockBut

end Sys2Proof.Machine
end

section
set_option Elab.async false

/-! SUPPORT. The interlock through the intertrip line, RESTART, the requests and the frames, and through every command. -/

namespace Sys2Proof.Machine

namespace InterlockBut
variable {m w : Set (Fin 8)} {s t : State} {f : Fin 8} {d : Device}

/-! ## Messages on the intertrip line -/

protected theorem applyMessage {code : Byte} {k : Kind} (h : InterlockBut m w s.devs) :
    InterlockBut m w (applyMessage code k f s).devs := by
  unfold Machine.applyMessage
  split
  · exact h.intertripTrip.holdNotice
  · exact h.holdNotice
  · exact h.releaseHold

protected theorem applyAccepted (h : InterlockBut m w s.devs) : InterlockBut m w (applyAccepted s).devs := by
  unfold Machine.applyAccepted
  split
  · exact h
  · exact InterlockBut.forEach (s := s.updLine _) h fun _ _ hu => hu.applyMessage

@[simp] theorem judgeBits_devs (bits : List Bool) (s : State) : (judgeBits bits s).devs = s.devs := by
  unfold judgeBits
  split <;> rfl

protected theorem judgeRecord (h : InterlockBut m w s.devs) : InterlockBut m w (judgeRecord s).devs :=
  .ite (h.frame (judgeBits_devs ..)) h

protected theorem abandonMessage {b : Bool} (h : InterlockBut m w s.devs) :
    InterlockBut m w (abandonMessage b s).devs := by
  have hended {u : State} (hu : InterlockBut m w u.devs) : InterlockBut m w (endMessage b u).devs := .ite hu hu
  exact .ite (hended (.ite h h)) h

protected theorem dataFalls (h : InterlockBut m w s.devs) : InterlockBut m w (dataFalls s).devs := by
  unfold Machine.dataFalls
  dsimp only
  split
  · exact .ite h h
  · exact .ite h h
  · exact .ite h h.abandonMessage
  · exact h
  · exact h

protected theorem lostArbitration {clock : Fin 14} (h : InterlockBut m w s.devs) :
    InterlockBut m w (lostArbitration clock s).devs := by
  have hlost : InterlockBut m w (loseArbitration clock s).devs := .ite h h
  exact .ite hlost.judgeRecord h

protected theorem receiveSample {bit : Bool} (h : InterlockBut m w s.devs) :
    InterlockBut m w (receiveSample bit s).devs :=
  .ite h <| .ite (InterlockBut.judgeRecord h) h

protected theorem senderSample {bit : Bool} (h : InterlockBut m w s.devs) :
    InterlockBut m w (senderSample bit s).devs := by
  refine .ite h ?_
  split
  · exact h.lostArbitration
  · exact h

protected theorem sampleLine {bit : Bool} (h : InterlockBut m w s.devs) : InterlockBut m w (sampleLine bit s).devs := by
  unfold Machine.sampleLine
  split
  · exact h.receiveSample
  · exact h.senderSample
  all_goals exact h

protected theorem receiveMessage {r : Reception} {b : Bool} (h : InterlockBut m w s.devs) :
    InterlockBut m w (receiveMessage r b s).devs := by
  have hended {u : State} (hu : InterlockBut m w u.devs) : InterlockBut m w (endMessage b u).devs := .ite hu hu
  unfold Machine.receiveMessage
  split
  · exact h.sampleLine
  · exact .ite (hended (InterlockBut.applyAccepted (.ite h (h.frame (judgeBits_devs ..))))) h

protected theorem receiverClock (h : InterlockBut m w s.devs) : InterlockBut m w (receiverClock s).devs :=
  .ite (InterlockBut.finish (InterlockBut.applyAccepted h)) h

protected theorem clockFalls (h : InterlockBut m w s.devs) : InterlockBut m w (clockFalls s).devs := by
  unfold Machine.clockFalls
  dsimp only
  split
  · exact h
  · exact h.receiverClock
  · exact h
  · exact h
  · exact h

protected theorem lineLow {x : Wire} (h : InterlockBut m w s.devs) : InterlockBut m w (lineLow x s).devs := by
  unfold Machine.lineLow
  split
  · exact .ite h h.clockFalls
  · exact .ite h h.dataFalls

protected theorem idleCycle (h : InterlockBut m w s.devs) : InterlockBut m w (idleCycle s).devs := by
  have hends : InterlockBut m w (phaseEnds (tick s)).devs := .ite h.advanceTo (InterlockBut.lineLow h.advanceTo)
  exact .ite hends h.advanceTo

protected theorem bothHigh (h : InterlockBut m w s.devs) : InterlockBut m w (bothHigh s).devs :=
  .ite h (.ite h.abandonMessage h)

@[simp] theorem lowExpired_devs (b : Held) (s : State) : (lowExpired b s).devs = s.devs := by
  unfold lowExpired whenExpired
  split <;> split
  · rfl
  · exact advanceTo_devs ..
  · rfl
  · exact advanceTo_devs ..

@[simp] theorem busFreeExpired_devs (s : State) : (busFreeExpired s).devs = s.devs := by
  unfold busFreeExpired
  split
  · rfl
  · split
    · exact (becomeFree_devs _).trans (advanceTo_devs ..)
    · rfl

@[simp] theorem startSending_devs (s : State) : (startSending s).devs = s.devs := by
  unfold startSending
  split <;> rfl

@[simp] theorem settleHead_devs (b : Bool) (s : State) : (settleHead b s).devs = s.devs := by
  unfold settleHead
  split
  · rfl
  · repeat' split
    all_goals rfl

protected theorem endAttempt {b : Bool} (h : InterlockBut m w s.devs) : InterlockBut m w (endAttempt b s).devs := by
  have hsettled : InterlockBut m w (goWaiting (settleHead b (s.updLine fun l =>
      { l with counters := { l.counters with sent := bump l.counters.sent } }))).devs := h.frame (settleHead_devs ..)
  exact .ite hsettled h

/-! ## RESTART (R194) -/

protected theorem restartEvaluator (h : InterlockBut m w s.devs) : InterlockBut m w (restartEvaluator f s).devs := by
  unfold Machine.restartEvaluator
  dsimp only
  split
  · split
    · exact h.askOpen
    · exact h.askOpen.frame (tellTrip_devs ..)
  · exact .ite h h

@[simp] theorem restartLine_devs (s : State) : (restartLine s).devs = s.devs := by
  unfold restartLine
  dsimp only
  split <;> rfl

@[simp] theorem abandonValidation_devs (s : State) : (abandonValidation s).devs = s.devs := by
  unfold abandonValidation
  split <;> rfl

protected theorem restartAll (h : InterlockBut m w s.devs) : InterlockBut m w (restartAll s).devs := by
  have hswitchgear : InterlockBut m w (restartSwitchgear (restartMeasurement (restartReports s))).devs :=
    InterlockBut.restartSwitchgear (s := restartMeasurement (restartReports s)) h
  have hsequencers : InterlockBut m w (forEach feeders restartSequencer
      (restartLine (restartSwitchgear (restartMeasurement (restartReports s))))).devs :=
    (hswitchgear.frame (restartLine_devs _)).forEach fun _ _ hu => hu
  have hring (u : State) (hu : InterlockBut m w u.devs) :
      InterlockBut m w (restartRing (abandonValidation (restartCapture (restartRect u)))).devs :=
    hu.frame (abandonValidation_devs (restartCapture (restartRect u)))
  have hidle := (hring _ hsequencers).completePending.forEach (l := feeders) (k := restartIdle) fun _ _ hu => hu
  have harmed (u : State) (hu : InterlockBut m w u.devs) : InterlockBut m w (armAfterRestart u).devs := hu
  exact harmed _ (hidle.forEach fun _ _ hu => hu.restartEvaluator)

end InterlockBut

/-- R182: after a cold reset no command is outstanding. -/
theorem coldReset_interlocked (addr : BitVec 6) (gw : BitVec 2) (s : State) :
    InterlockBut ∅ ∅ (coldReset addr gw s).devs := by
  have hdev (d : Device) : (coldReset addr gw s).devs.get d = DevRecord.initial := coldReset_dev addr gw s d
  refine ⟨fun d hd => ?_, fun f => ?_⟩
  · rw [hdev] at hd
    exact absurd rfl hd
  · rw [hdev, hdev]
    exact ⟨nofun, nofun, nofun, nofun⟩

/-! ## Requests -/

/-- The service of a request keeps the interlock. -/
def ServesInterlocked (m w : Set (Fin 8)) (request : State → Reply) : Prop :=
  ∀ u, InterlockBut m w u.devs → InterlockBut m w (request u).2.devs

namespace ServesInterlocked
variable {m w : Set (Fin 8)} {request : State → Reply} {src tag : Byte} {params : List Byte}

theorem of_devs (h : ∀ u, (request u).2.devs = u.devs) : ServesInterlocked m w request := fun u hu => hu.frame (h u)

/-- R189: a request that fails its checks changes nothing. -/
theorem checked {fromManager : Bool} {len : Nat} {serve_ : State → Reply} (h : ServesInterlocked m w serve_) :
    ServesInterlocked m w (checked fromManager len src params serve_) := by
  intro u hu
  unfold Machine.checked
  split
  · exact hu
  · split
    · exact hu
    · exact h u hu

theorem requestReadFeeder : ServesInterlocked m w (requestReadFeeder src params) :=
  .checked (of_devs fun u => by split <;> rfl)

theorem requestReadChannel : ServesInterlocked m w (requestReadChannel src params) :=
  .checked (of_devs fun u => by split <;> rfl)

theorem readGroup_devs (option : Nat) (data : State → List Byte) {clear : State → State} {s : State}
    (h : (clear s).devs = s.devs) : (readGroup option data clear s).2.devs = s.devs := by
  unfold readGroup
  split
  · rfl
  · split
    · exact h
    · rfl

theorem groupByCode_devs (group option selector : Nat) (s : State) :
    (groupByCode group option selector s).2.devs = s.devs := by
  unfold groupByCode streamsGroup
  split
  · exact readGroup_devs _ _ rfl
  · split
    · split
      · exact readGroup_devs _ _ rfl
      · split
        · exact readGroup_devs _ _ rfl
        · rfl
    · rfl
  · exact readGroup_devs _ _ rfl
  · exact readGroup_devs _ _ rfl
  · exact readGroup_devs _ _ rfl
  · exact readGroup_devs _ _ rfl
  · rfl

theorem requestReadCounters : ServesInterlocked m w (requestReadCounters src params) :=
  .checked (of_devs (groupByCode_devs _ _ _))

theorem requestWriteTable : ServesInterlocked m w (requestWriteTable src params) := by
  refine of_devs fun u => ?_
  unfold Machine.requestWriteTable serveWrite
  dsimp only
  split
  · rfl
  · repeat' split
    all_goals rfl

theorem requestReadTable : ServesInterlocked m w (requestReadTable src params) := by
  refine .checked (of_devs fun u => ?_)
  dsimp only
  repeat' split
  all_goals rfl

theorem requestValidate : ServesInterlocked m w (requestValidate src tag params) := by
  refine .checked (of_devs fun u => ?_)
  repeat' split
  all_goals rfl

theorem requestActivate : ServesInterlocked m w (requestActivate src params) := by
  refine .checked fun u hu => ?_
  split
  · exact hu
  · split
    · exact hu
    · exact hu.drainAll.startSwitch

/-- A refused operation leaves the state as it was. -/
theorem doneOrState {before : State} {r : Bool × State} (hb : InterlockBut m w before.devs)
    (h : InterlockBut m w r.2.devs) : InterlockBut m w (doneOrState before r).2.devs := by
  unfold Machine.doneOrState
  split
  · exact h
  · exact hb

theorem operateFeeder (f : Fin 8) (action : Nat) : ServesInterlocked m w (operateFeeder f action) := by
  intro u hu
  unfold Machine.operateFeeder
  split
  · exact doneOrState hu hu.operatorOpen.finish
  · split
    · exact hu.operatorClose.finish
    · exact hu
  · split
    · exact hu.resetLockout.finish
    · exact hu
  · exact hu

theorem operateRect (action : Nat) : ServesInterlocked m w (operateRect action) := by
  intro u hu
  unfold Machine.operateRect
  split
  · exact doneOrState hu hu.closeAc
  · exact doneOrState hu hu.deblock
  · exact doneOrState hu (hu.frame (InterlockBut.block_devs u))
  · exact doneOrState hu hu.stopFull
  · exact doneOrState hu hu.resetRect
  · exact hu

theorem requestOperate : ServesInterlocked m w (requestOperate src params) := by
  refine .checked fun u hu => ?_
  split
  · exact operateFeeder _ _ u hu
  · split
    · exact operateRect _ u hu
    · exact hu

theorem requestReadReports : ServesInterlocked m w (requestReadReports src params) := by
  refine .checked (of_devs fun u => ?_)
  dsimp only
  split <;> rfl

theorem requestReadCapture : ServesInterlocked m w (requestReadCapture src params) := by
  refine .checked (of_devs fun u => ?_)
  unfold serveReadCapture
  dsimp only
  repeat' split
  all_goals rfl

theorem requestReleaseCapture : ServesInterlocked m w (requestReleaseCapture src params) := by
  refine .checked (of_devs fun u => ?_)
  dsimp only
  repeat' split
  all_goals rfl

theorem requestTriggerCapture : ServesInterlocked m w (requestTriggerCapture src params) :=
  .checked (of_devs fun u => trigger_devs _ _ u)

theorem requestSetTime : ServesInterlocked m w (requestSetTime src params) := by
  refine .checked (of_devs fun u => ?_)
  dsimp only
  split <;> rfl

theorem requestRestart : ServesInterlocked m w (requestRestart src params) := by
  refine .checked fun u hu => ?_
  split
  · exact hu.restartAll
  · exact hu

theorem requestStatus : ServesInterlocked m w (requestStatus src params) := .checked (of_devs fun _ => rfl)

theorem requestReadRectifier : ServesInterlocked m w (requestReadRectifier src params) :=
  .checked (of_devs fun _ => rfl)

theorem requestCaptureList : ServesInterlocked m w (requestCaptureList src params) := .checked (of_devs fun _ => rfl)

theorem requestByCode (code : Byte) : ServesInterlocked m w (requestByCode code src tag params) := by
  intro u hu
  unfold Machine.requestByCode
  split
  · exact requestStatus u hu
  · exact requestReadFeeder u hu
  · exact requestReadRectifier u hu
  · exact requestReadChannel u hu
  · exact requestReadCounters u hu
  · exact requestWriteTable u hu
  · exact requestReadTable u hu
  · exact requestValidate u hu
  · exact requestActivate u hu
  · exact requestOperate u hu
  · exact requestReadReports u hu
  · exact requestCaptureList u hu
  · exact requestReadCapture u hu
  · exact requestReleaseCapture u hu
  · exact requestTriggerCapture u hu
  · exact requestSetTime u hu
  · exact requestRestart u hu
  · exact hu

/-- R188: an answer, a held place and an overrun are the Ring Port's. -/
theorem respond {s : State} (h : ServesInterlocked m w request) (hs : InterlockBut m w s.devs) :
    InterlockBut m w (respond src tag request s).devs := by
  unfold Machine.respond placeReply
  split
  · split
    · exact h s hs
    · exact h s hs
  · exact hs

theorem takeManage {s : State} {payload : List Byte} (hs : InterlockBut m w s.devs) :
    InterlockBut m w (takeManage src payload s).devs := by
  have hno (p : List Byte) : ServesInterlocked m w (requestNoTag src p) := fun u hu => by rwa [requestNoTag_state]
  unfold Machine.takeManage
  split
  · exact (requestByCode _).respond hs
  · split
    · exact (hno _).respond (s := freeTaken s) hs
    · exact (hno _).respond hs

theorem onRequest {s : State} (h : ServesInterlocked m w request) (hs : InterlockBut m w s.devs) :
    InterlockBut m w (onRequest src tag request s).devs := by
  unfold Machine.onRequest
  split
  · exact hs
  · split
    · exact hs
    · exact h.respond (hs.frame (goodFrame_devs s))

end ServesInterlocked

/-! ## Frames and timers -/

namespace InterlockBut
variable {m w : Set (Fin 8)} {s t : State}

@[simp] theorem takeSample_devs (fr : Frame) (s : State) : (takeSample fr s).devs = s.devs := by
  unfold takeSample
  split
  · rfl
  · split
    · rfl
    · dsimp only
      split
      · rfl
      · refine forEach_frame State.devs _ _ (fun p u => ?_) _
        dsimp only
        split <;> rfl

protected theorem useFrame {fr : Frame} {b : Bool} (h : InterlockBut m w s.devs) :
    InterlockBut m w (useFrame fr b s).devs := by
  unfold Machine.useFrame
  split
  · exact h.frame (takeSample_devs ..)
  · exact h.takePosition.finish
  · split
    · exact ServesInterlocked.takeManage h
    · exact h
  · exact h

protected theorem arriveFrame {fr : Frame} (h : InterlockBut m w s.devs) : InterlockBut m w (arriveFrame fr s).devs := by
  have hg : InterlockBut m w (goodFrame s).devs := h.frame (goodFrame_devs s)
  unfold Machine.arriveFrame sortFrame
  split
  · exact h
  · split
    · exact h
    · split
      · exact InterlockBut.useFrame (s := (goodFrame s).updRing (joinRelay fr)) hg
      · split
        · exact hg.useFrame
        · exact hg

protected theorem arriveBytes {bytes : List Byte} (h : InterlockBut m w s.devs) :
    InterlockBut m w (arriveBytes bytes s).devs := by
  unfold Machine.arriveBytes
  split
  · exact h
  · split
    · exact h
    · exact h.arriveFrame

/-- A timer's expiry: stopped, or run out at its time. -/
protected theorem whenExpired {timer : Option Nat} {k : State → State} (h : InterlockBut m w s.devs)
    (hk : ∀ u, InterlockBut m w u.devs → InterlockBut m w (k u).devs) :
    InterlockBut m w (whenExpired timer k s).devs := by
  unfold Machine.whenExpired
  split
  · exact h
  · exact hk _ h.advanceTo

protected theorem whenSequenceTimer {f : Fin 8} {st : SeqState} {k : State → State} (h : InterlockBut m w s.devs)
    (hk : ∀ u, InterlockBut m w u.devs → InterlockBut m w (k u).devs) :
    InterlockBut m w (whenSequenceTimer f st k s).devs :=
  .ite (h.whenExpired fun u hu => (hk u hu).finish) h

@[simp] theorem completeValidation_devs (s : State) : (completeValidation s).devs = s.devs := by
  unfold completeValidation endValid
  split
  · rfl
  · split
    · rfl
    · dsimp only
      split <;> rfl

end InterlockBut

/-! ## Every command -/

/-- Every command keeps the interlock. -/
theorem exec_keeps_interlock (c : Instr) (s : State) (h : InterlockBut ∅ ∅ s.devs) :
    ∃ t, exec c s = .next t ∧ InterlockBut ∅ ∅ t.devs := by
  have request {src tag : Byte} {r : State → Reply} (hr : ServesInterlocked ∅ ∅ r) :
      InterlockBut ∅ ∅ (onRequest src tag r s).devs := hr.onRequest h
  cases c with
  | coldReset addr gw => exact ⟨_, rfl, coldReset_interlocked addr gw s⟩
  | ringFrame bytes => exact ⟨_, rfl, h.arriveBytes⟩
  | sampleFrame frame => exact ⟨_, rfl, h.arriveFrame⟩
  | channelArrival c => exact ⟨_, rfl, h.fileOldest⟩
  | stalenessTimerExpiry c => exact ⟨_, rfl, h.whenExpired fun _ => InterlockBut.stalenessExpired⟩
  | evaluatorArrival f => exact ⟨_, rfl, h.evaluatorTakes⟩
  | sequencerArrival f => exact ⟨_, rfl, h.sequencerTakes⟩
  | trackerArrival => exact ⟨_, rfl, h.trackerTakes⟩
  | rectCurrentArrival => exact ⟨_, rfl, h.currentTakes⟩
  | rectBusArrival => exact ⟨_, rfl, h.busTakes⟩
  | captureArrival => exact ⟨_, rfl, h.captureTakes⟩
  | positionFrame frame => exact ⟨_, rfl, h.arriveFrame⟩
  | positionAgeExpiry d => exact ⟨_, rfl, h.whenExpired fun _ hu => hu.positionAged.finish⟩
  | repeatTimerExpiry d => exact ⟨_, rfl, h.whenExpired fun _ => InterlockBut.repeatExpired⟩
  | openTimerExpiry d => exact ⟨_, rfl, .ite (h.whenExpired fun _ hu => hu.openTimerExpired.finish) h⟩
  | closeTimerExpiry d => exact ⟨_, rfl, .ite (h.whenExpired fun _ hu => hu.closeTimerExpired.finish) h⟩
  | deadTimeExpiry f => exact ⟨_, rfl, h.whenSequenceTimer fun _ => InterlockBut.testStart⟩
  | settleTimerExpiry f => exact ⟨_, rfl, h.whenSequenceTimer fun _ => InterlockBut.settleExpired⟩
  | reclaimExpiry f => exact ⟨_, rfl, h.whenSequenceTimer fun _ => InterlockBut.reclaimExpired⟩
  | holdTimerExpiry f => exact ⟨_, rfl, h.whenExpired fun _ hu => hu.releaseHold.finish⟩
  | busWaitExpiry f => exact ⟨_, rfl, .ite (h.whenExpired fun _ hu => hu.lockout.finish) h⟩
  | stopStepTimerExpiry => exact ⟨_, rfl, .ite (h.whenExpired fun _ hu => hu.stopFailed.finish) h⟩
  | firingDue => exact ⟨_, rfl, (h.frame (InterlockBut.firingFallsDue_devs s)).finish⟩
  | gatePulseEnd g => exact ⟨_, rfl, h.whenExpired fun _ hu => hu⟩
  | fillTimerExpiry slot =>
    refine ⟨_, rfl, h.whenExpired fun u hu => ?_⟩
    have hfilled : InterlockBut ∅ ∅ (fillExpired slot u).devs := .ite hu hu
    exact hfilled.finish
  | validationComplete => exact ⟨_, rfl, h.frame (InterlockBut.completeValidation_devs s)⟩
  | ringDownTimerExpiry => exact ⟨_, rfl, h.whenExpired fun u hu => .ite hu hu⟩
  | ringOutFrameEnd => exact ⟨_, rfl, h⟩
  | dayRollover => exact ⟨_, rfl, h.advanceTo⟩
  | intertripMessageReceived r restart => exact ⟨_, rfl, h.receiveMessage.finish⟩
  | messageAbandoned restart => exact ⟨_, rfl, h.abandonMessage⟩
  | lineLowEvent w => exact ⟨_, rfl, h.lineLow⟩
  | lowTimerExpiry held => exact ⟨_, rfl, (h.frame (InterlockBut.lowExpired_devs held s)).finish⟩
  | busFreeTimerExpiry => exact ⟨_, rfl, h.frame (InterlockBut.busFreeExpired_devs s)⟩
  | intertripMessageStart => exact ⟨_, rfl, h.frame (InterlockBut.startSending_devs s)⟩
  | arbitrationLost clock => exact ⟨_, rfl, h.lostArbitration.finish⟩
  | sendAttemptEnd ack => exact ⟨_, rfl, h.endAttempt.finish⟩
  | status src tag params => exact ⟨_, rfl, request .requestStatus⟩
  | readFeeder src tag params => exact ⟨_, rfl, request .requestReadFeeder⟩
  | readRectifier src tag params => exact ⟨_, rfl, request .requestReadRectifier⟩
  | readChannel src tag params => exact ⟨_, rfl, request .requestReadChannel⟩
  | readCountersRing src tag o sel extra => exact ⟨_, rfl, request .requestReadCounters⟩
  | readCountersStreams src tag o sel extra => exact ⟨_, rfl, request .requestReadCounters⟩
  | readCountersIntertrip src tag o sel extra => exact ⟨_, rfl, request .requestReadCounters⟩
  | readCountersReports src tag o sel extra => exact ⟨_, rfl, request .requestReadCounters⟩
  | readCountersCapture src tag o sel extra => exact ⟨_, rfl, request .requestReadCounters⟩
  | readCountersFiring src tag o sel extra => exact ⟨_, rfl, request .requestReadCounters⟩
  | writeTable src tag params => exact ⟨_, rfl, request .requestWriteTable⟩
  | readTable src tag params => exact ⟨_, rfl, request .requestReadTable⟩
  | validate src tag params => exact ⟨_, rfl, request .requestValidate⟩
  | activate src tag params => exact ⟨_, rfl, request .requestActivate⟩
  | operateOpen src tag target extra => exact ⟨_, rfl, request .requestOperate⟩
  | operateClose src tag target extra => exact ⟨_, rfl, request .requestOperate⟩
  | resetLockout src tag target extra => exact ⟨_, rfl, request .requestOperate⟩
  | closeAc src tag target extra => exact ⟨_, rfl, request .requestOperate⟩
  | deblock src tag target extra => exact ⟨_, rfl, request .requestOperate⟩
  | block src tag target extra => exact ⟨_, rfl, request .requestOperate⟩
  | stopFull src tag target extra => exact ⟨_, rfl, request .requestOperate⟩
  | resetRect src tag target extra => exact ⟨_, rfl, request .requestOperate⟩
  | readReports src tag params => exact ⟨_, rfl, request .requestReadReports⟩
  | captureList src tag params => exact ⟨_, rfl, request .requestCaptureList⟩
  | readCapture src tag params => exact ⟨_, rfl, request .requestReadCapture⟩
  | releaseCapture src tag params => exact ⟨_, rfl, request .requestReleaseCapture⟩
  | triggerCapture src tag params => exact ⟨_, rfl, request .requestTriggerCapture⟩
  | setTime src tag params => exact ⟨_, rfl, request .requestSetTime⟩
  | restart src tag params => exact ⟨_, rfl, request .requestRestart⟩
  | unknownRequest src tag code params => exact ⟨_, rfl, request (.requestByCode _)⟩
  | bothWiresHigh => exact ⟨_, rfl, h.bothHigh⟩

end Sys2Proof.Machine

namespace Sys2Proof.Proofs
open Sys2Proof.Machine

/-- Settles O5: command by command, and the cycle that passes when none waits. -/
theorem interlockKept : Obligations.InterlockKept := by
  intro s t hs hst
  rw [interlocked_iff_but] at hs ⊢
  unfold step at hst
  split at hst
  · cases hst
    exact hs.idleCycle
  · next c rest _ =>
    obtain ⟨v, hv, hkept⟩ := exec_keeps_interlock c { s with pending := rest } hs
    rw [hv] at hst
    cases hst
    exact hkept

end Sys2Proof.Proofs
end

section
set_option Elab.async false

/-! SUPPORT. What a notice, a guard and an OPEN request leave alone: the time base, the measurement, the banks and the
places of the device records. A device's timers (R46 to R48). -/

namespace Sys2Proof.Machine

/-- A record's place: what no command of it changes. -/
def DevRecord.SamePlace (r q : DevRecord) : Prop :=
  q.addr = r.addr ∧ q.pos = r.pos ∧ q.ageAt = r.ageAt ∧ q.flag = r.flag

/-- What telling the owners of a device, and what they ask for, leaves alone. -/
structure Notified (s t : State) : Prop where
  frame : t = { s with
    ring := t.ring, evs := t.evs, devs := t.devs, line := t.line, seqs := t.seqs, rect := t.rect,
    reports := t.reports, capture := t.capture }
  place : ∀ e, (s.dev e).SamePlace (t.dev e)

namespace Notified
variable {s t u : State} {f : Fin 8} {d : Device}

protected theorem refl (s : State) : Notified s s := ⟨rfl, fun _ => ⟨rfl, rfl, rfl, rfl⟩⟩

protected theorem rfl : Notified s s := .refl s

protected theorem trans (h : Notified s t) (k : Notified t u) : Notified s u where
  frame := by
    rw [k.frame, h.frame]
  place e := by
    obtain ⟨ha, hp, hg, hf⟩ := h.place e
    obtain ⟨ka, kp, kg, kf⟩ := k.place e
    exact ⟨ka.trans ha, kp.trans hp, kg.trans hg, kf.trans hf⟩

theorem time (h : Notified s t) : t.time = s.time := by rw [h.frame]

theorem chans (h : Notified s t) : t.chans = s.chans := by rw [h.frame]

theorem banks (h : Notified s t) : t.banks = s.banks := by rw [h.frame]

/-- What leaves the device records alone. -/
theorem of_devs (hd : t.devs = s.devs) (h : t = { s with
    ring := t.ring, evs := t.evs, devs := t.devs, line := t.line, seqs := t.seqs, rect := t.rect,
    reports := t.reports, capture := t.capture } := by exact rfl) : Notified s t where
  frame := h
  place e := by
    rw [show t.dev e = s.dev e from congrArg (fun p : PerDevice DevRecord => p.get e) hd]
    exact ⟨rfl, rfl, rfl, rfl⟩

/-- A further change that leaves the device records alone. -/
theorem and (h : Notified s t) (hd : u.devs = t.devs) (hu : u = { t with
    ring := u.ring, evs := u.evs, devs := u.devs, line := u.line, seqs := u.seqs, rect := u.rect,
    reports := u.reports, capture := u.capture } := by exact rfl) : Notified s u := h.trans (of_devs hd hu)

protected theorem ite {p : Prop} [Decidable p] (ht : Notified s t) (hu : Notified s u) :
    Notified s (if p then t else u) := by split <;> assumption

/-! ## Commands -/

/-- A change of a record that leaves its place. -/
theorem updDev {g : DevRecord → DevRecord} (h : Notified s t) (hg : ∀ r, DevRecord.SamePlace r (g r)) :
    Notified s (t.updDev d g) := by
  refine h.trans ⟨rfl, fun e => ?_⟩
  by_cases he : e = d
  · rw [he, State.updDev_dev_same]
    exact hg _
  · rw [State.updDev_dev_ne _ _ he]
    exact ⟨rfl, rfl, rfl, rfl⟩

protected theorem sendCommand (h : Notified s t) : Notified s (sendCommand d t) := by
  unfold Machine.sendCommand
  split
  · exact h
  · exact (h.updDev (d := d) (g := fun r => { r with repeatAt := some (deadline t 1) })
      fun _ => ⟨rfl, rfl, rfl, rfl⟩).and rfl

protected theorem takeCommand {c : Command} {q : Option Requester} (h : Notified s t) :
    Notified s (takeCommand d c q t) := Notified.sendCommand (h.updDev fun _ => ⟨rfl, rfl, rfl, rfl⟩)

protected theorem lockout {cause : LockoutCause} (h : Notified s t) : Notified s (lockout f cause t) :=
  h.and (lockout_devs ..) (by rw [lockout_eq])

protected theorem report {code : ReportCode} {src : Source} {cause : Option Nat} {value : Option Int}
    (h : Notified s t) : Notified s (report code src cause value t) := h.and rfl

protected theorem guardMain (h : Notified s t) : Notified s (guardMain f t) :=
  .ite (Notified.takeCommand (t := reportWithdrawn (.fm f) t) (h.and rfl)).lockout h

protected theorem guardCommand (h : Notified s t) : Notified s (guardCommand d t) := by
  unfold Machine.guardCommand
  split
  · exact h.guardMain
  · exact h

protected theorem askOpen {q : Requester} (h : Notified s t) : Notified s (askOpen d q t) := by
  unfold Machine.askOpen
  rcases requestOpen_cases d q t with ⟨_, e⟩ | ⟨_, _, e⟩ | ⟨_, _, e⟩ | ⟨_, _, e⟩ <;> rw [e]
  · exact h
  · exact h
  · exact h.takeCommand.guardCommand
  · exact (Notified.takeCommand (t := reportWithdrawn d t) (h.and rfl)).guardCommand

protected theorem guardPosition {changed : State} (h : Notified s t) : Notified s (guardPosition d changed t) := by
  unfold Machine.guardPosition
  split
  · exact .ite h.askOpen.lockout h
  · exact h.guardMain
  · exact h

/-! ## The owners -/

protected theorem trigger {cause : Cause} {src : Source} (h : Notified s t) : Notified s (trigger cause src t).2 :=
  h.and (trigger_devs ..) (by rw [trigger_eq])

protected theorem rectTrip {cause : Cause} {value : Int} (h : Notified s t) : Notified s (rectTrip cause value t) := by
  unfold Machine.rectTrip
  split
  · exact h
  · exact h
  · refine Notified.and (Notified.trigger (.ite (Notified.askOpen ?_) ?_)) rfl
    · exact h.and rfl
    · exact h.and rfl

protected theorem cancelWait {cause : Nat} (h : Notified s t) : Notified s (cancelWait cause t) :=
  .ite h <| .ite (Notified.askOpen (h.and rfl)) (h.and rfl)

theorem settle_frame (f : Fin 8) (s : State) : settle f s = { s with
    evs := (settle f s).evs, reports := (settle f s).reports } := by
  unfold settle
  dsimp only
  split <;> rfl

protected theorem evaluatorNotice {new : Position} (h : Notified s t) : Notified s (evaluatorNotice f new t) := by
  have hsettled {g : Evaluator → Evaluator} : Notified s (settle f (t.updEv f g)) :=
    h.and (settle_devs ..) (by rw [settle_frame]; rfl)
  unfold Machine.evaluatorNotice
  dsimp only
  split
  · exact .ite hsettled (h.and rfl)
  · exact .ite (h.and rfl) (h.and rfl)
  · exact .ite (h.and rfl) (h.and rfl)
  · rw [updEv_updEv]
    exact .ite hsettled (h.and rfl)
  · exact h.and rfl

protected theorem mainNotice {old new : Position} {mark : Bool} (h : Notified s t) :
    Notified s (mainNotice f old new mark t) :=
  h.and (mainNotice_devs ..) (by rw [mainNotice_sequenceOnly f old new mark t])

protected theorem dcNotice {old new : Position} (h : Notified s t) : Notified s (dcNotice old new t) := by
  refine .ite h <| .ite (Notified.report ?_) <| .ite h.cancelWait h
  exact .ite (h.and rfl) (h.and rfl)

protected theorem acNotice {new : Position} {mark : Bool} (h : Notified s t) : Notified s (acNotice new mark t) := by
  have hoff : Notified s (cancelWait 4 (rectGo .off t)) := Notified.cancelWait (h.and rfl)
  have hended : Notified s (if (cancelWait 4 (rectGo .off t)).rect.stopStep = 4 then cancelWait 4 (rectGo .off t)
      else setStopStep 0 (cancelWait 4 (rectGo .off t))) := .ite hoff (hoff.and rfl)
  unfold Machine.acNotice
  dsimp only
  split
  · exact .ite (h.and rfl) (.ite h.report h)
  · exact .ite h (.ite hended.report hended)
  · exact .ite h.rectTrip h
  · exact .ite h.rectTrip h
  · exact .ite h.rectTrip h
  · exact h

protected theorem giveNotice {old new : Position} {mark : Bool} (h : Notified s t) :
    Notified s (giveNotice d old new mark t) := by
  unfold Machine.giveNotice
  split
  · exact h.evaluatorNotice.mainNotice
  · exact .ite h.askOpen.lockout h
  · exact h.dcNotice
  · exact h.acNotice

end Notified

/-! ## With no switch-over pending -/

variable {s : State} {d : Device} {old new : Position} {mark : Bool}

/-- R46: with no switch-over pending the owner's notice is the notice alone. -/
theorem ownerNotice_settled (hs : Settled s) : ownerNotice d old new mark s = giveNotice d old new mark s := by
  have hfinish {t : State} (h : Notified s t) : finish t = t :=
    finish_of_settled (by rw [h.banks]; exact hs)
  unfold ownerNotice
  split
  · next f =>
    rw [hfinish Notified.rfl.evaluatorNotice]
    exact hfinish (Notified.rfl.giveNotice (d := .fm f))
  · exact hfinish Notified.rfl.giveNotice

/-- R46: the record whose position has aged. -/
def agedRecord (r : DevRecord) : DevRecord := { r with pos := .unknown, ageAt := none }

/-- R46, R47: a position ages. -/
theorem positionAged_settled (hs : Settled s) : positionAged d s =
    if (s.dev d).pos = .unknown then s.updDev d agedRecord
    else guardPosition d (s.updDev d agedRecord) (giveNotice d (s.dev d).pos .unknown false
      (breakerReport .positionUnknown d (positionCode (s.dev d).pos) (s.updDev d agedRecord))) := by
  unfold positionAged
  dsimp only
  split
  · rfl
  · rw [ownerNotice_settled (s := breakerReport .positionUnknown d (positionCode (s.dev d).pos) _)]
    · rfl
    · exact hs

/-- R47: an aged position touches no command of the record. -/
theorem positionAged_notified (hs : Settled s) : Notified (s.updDev d agedRecord) (positionAged d s) := by
  rw [positionAged_settled hs]
  exact .ite .rfl (Notified.guardPosition (Notified.giveNotice (Notified.rfl.and rfl)))

theorem advanceTo_settled (n : Nat) (hs : Settled s) : Settled (advanceTo n s) := by
  rw [advanceTo_eq]
  exact hs

theorem positionAge_settled {at_ : Nat} (hs : Settled s) (ha : (s.dev d).ageAt = some at_) :
    exec (.positionAgeExpiry d) s = .next (positionAged d (advanceTo at_ s)) := by
  refine next_eq ?_
  rw [ha, whenExpired_some]
  have hn := positionAged_notified (d := d) (advanceTo_settled at_ hs)
  exact finish_of_settled (by rw [hn.banks]; exact advanceTo_settled at_ hs)

/-! ## The owners leave their device's record -/

/-- A request for a device that is no test contactor touches no other record. -/
theorem askOpen_other {e : Device} (hd : ∀ f, d ≠ .ft f) (he : e ≠ d) (q : Requester) (s : State) :
    (askOpen d q s).dev e = s.dev e := by
  have hguard (u : State) : guardCommand d u = u := guardCommand_of_not_test hd u
  unfold askOpen
  rcases requestOpen_cases d q s with ⟨_, h⟩ | ⟨_, _, h⟩ | ⟨_, _, h⟩ | ⟨_, _, h⟩ <;> rw [h]
  · rw [hguard, takeCommand_other _ _ _ _ _ he]
  · rw [hguard, takeCommand_other _ _ _ _ _ he]
    rfl

theorem rectTrip_other {e : Device} (he : e ≠ .dcm) (cause : Cause) (value : Int) (s : State) :
    (rectTrip cause value s).dev e = s.dev e := by
  unfold rectTrip
  split
  · rfl
  · rfl
  · show State.dev (trigger _ _ _).2 e = _
    rw [trigger_eq]
    show State.dev (ite _ _ _) e = _
    split
    · exact askOpen_other (d := .dcm) nofun he _ _
    · rfl

theorem cancelWait_other {e : Device} (he : e ≠ .dcm) (cause : Nat) (s : State) :
    (cancelWait cause s).dev e = s.dev e := by
  unfold cancelWait
  split
  · rfl
  · dsimp only
    split
    · exact askOpen_other (d := .dcm) nofun he _ _
    · rfl

/-- R113 to R123: the rectifier asks for DCM alone on a notice of ACM. -/
theorem acNotice_other {e : Device} (he : e ≠ .dcm) : (acNotice new mark s).dev e = s.dev e := by
  unfold acNotice
  dsimp only
  split
  · split
    · rfl
    · split <;> rfl
  · split
    · rfl
    · have hoff : (cancelWait 4 (rectGo .off s)).dev e = s.dev e := cancelWait_other he 4 (rectGo .off s)
      split <;> split <;> exact hoff
  · split
    · exact rectTrip_other he _ _ s
    · rfl
  · split
    · exact rectTrip_other he _ _ s
    · rfl
  · split
    · exact rectTrip_other he _ _ s
    · rfl
  · rfl

theorem giveNotice_main_dev (f : Fin 8) : (giveNotice (.fm f) old new mark s).devs = s.devs :=
  (mainNotice_devs ..).trans (evaluatorNotice_devs ..)

/-- R46: the evaluator that is given a notice sees the new position. -/
@[simp] theorem settle_posView (f : Fin 8) (s : State) : ((settle f s).ev f).posView = (s.ev f).posView := by
  have hsettled (g : EvState) : ((s.updEv f fun e => { e.clearElements with state := g }).ev f).posView =
      (s.ev f).posView := by
    rw [State.updEv_ev_same]
    rfl
  unfold settle
  dsimp only
  split <;> exact hsettled _

theorem evaluatorNotice_posView (f : Fin 8) (new : Position) (s : State) :
    ((evaluatorNotice f new s).ev f).posView = new := by
  have hviewed : ((s.updEv f fun e => { e with posView := new }).ev f).posView = new := by rw [State.updEv_ev_same]
  unfold evaluatorNotice
  dsimp only
  split
  · split
    · rw [settle_posView, hviewed]
    · exact hviewed
  · split
    · rw [State.updEv_ev_same]
      exact hviewed
    · exact hviewed
  · split
    · rw [State.updEv_ev_same]
      exact hviewed
    · exact hviewed
  · split
    · rw [settle_posView, State.updEv_ev_same]
      exact hviewed
    · exact hviewed
  · exact hviewed

theorem giveNotice_main_posView (f : Fin 8) : ((giveNotice (.fm f) old new mark s).ev f).posView = new := by
  have hmain : (mainNotice f old new mark (evaluatorNotice f new s)).evs = (evaluatorNotice f new s).evs := by
    rw [mainNotice_sequenceOnly]
  exact (congrArg (fun v : Vector Evaluator 8 => v[f].posView) hmain).trans (evaluatorNotice_posView f new s)

/-- R48: with ring-out busy a command is placed in the claim slot, and its repeat timer restarts. -/
theorem sendCommand_busy {unit el : Byte} (hc : (s.dev d).cmd ≠ .none) (ha : (s.dev d).addr = some (unit, el))
    (hout : s.ring.out ≠ none) : sendCommand d s =
      (s.updDev d fun r => { r with repeatAt := some (deadline s 1) }).updRing fun p => { p with
        claims := p.claims.set d (some ⟨unit, s.ring.own, 3, 0, [el, if (s.dev d).cmd = .toOpen then 1 else 2]⟩) } := by
  have hframe : commandFrame s.ring.own (s.dev d) =
      some ⟨unit, s.ring.own, 3, 0, [el, if (s.dev d).cmd = .toOpen then 1 else 2]⟩ := by
    unfold commandFrame
    cases h : (s.dev d).cmd with
    | none => exact absurd h hc
    | toOpen => simp [ha]; rfl
    | toClose => simp [ha]; rfl
  unfold sendCommand placeClaim
  rw [hframe]
  simp only [State.updRing, State.updDev_ring]
  rw [kick_busy]
  exact hout

end Sys2Proof.Machine

namespace Sys2Proof.Proofs
open Sys2Proof.Machine

/-- Settles O37: an aged position is `positionAged_settled`, a repetition `sendCommand_busy`. -/
theorem deviceTimers : Obligations.DeviceTimers := by
  refine ⟨fun d at_ s hs ha => ⟨positionAged d (advanceTo at_ s), positionAge_settled hs ha, ?_⟩,
    fun d at_ unit el s hr hc ha hout => ?repeated⟩
  case repeated =>
    intro u
    have hu (e : Device) : u.dev e = s.dev e := advanceTo_dev at_ s e
    have hring : u.ring = s.ring := by rw [show u = advanceTo at_ s from rfl, advanceTo_eq]
    refine next_eq ?_
    rw [hr, whenExpired_some]
    refine (if_neg (by rw [advanceTo_dev]; exact hc)).trans ?_
    rw [sendCommand_busy (unit := unit) (el := el) (by rw [hu]; exact hc) (by rw [hu]; exact ha)
      (by rw [hring]; exact hout), hu, hring, deadline, Nat.one_mul]
  have hus := advanceTo_settled at_ hs
  generalize hu : advanceTo at_ s = u at hus
  have hdev (e : Device) : u.dev e = s.dev e := by rw [← hu, advanceTo_dev]
  have hev (f : Fin 8) : u.ev f = s.ev f := by rw [← hu, advanceTo_ev]
  have hn := positionAged_notified (d := d) hus
  have hsame : (u.updDev d agedRecord).dev d = agedRecord (s.dev d) := by rw [State.updDev_dev_same, hdev]
  obtain ⟨haddr, hpos, hage, _⟩ := hn.place d
  rw [hsame] at haddr hpos hage
  refine ⟨hpos, hage, haddr, ?_, hn.time, ?records, ?views, ?whole⟩
  · rw [hn.chans, ← hu, advanceTo_eq]
    rfl
  case records =>
    have hrecord (h : d = .acm ∨ ∃ f, d = .fm f) : (positionAged d u).dev d = agedRecord (s.dev d) := by
      rw [positionAged_settled hus]
      split
      · exact hsame
      · rcases h with h | ⟨f, h⟩
        · subst h
          rw [guardPosition_acm]
          exact (acNotice_other (e := .acm) nofun).trans hsame
        · subst h
          rw [guardPosition_main_of_safe f _ _ (by rw [hsame]; simp [agedRecord])]
          exact (congrArg (fun p : PerDevice DevRecord => p.get (.fm f)) (giveNotice_main_dev f)).trans hsame
    exact hrecord
  case views =>
    intro f hd
    subst hd
    rw [positionAged_settled hus, hdev]
    split
    · rw [State.updDev_ev, hev]
    · rw [guardPosition_main_of_safe f _ _ (by rw [hsame]; simp [agedRecord])]
      exact giveNotice_main_posView f
  case whole =>
    rw [positionAged_settled hus, hdev]
    rfl

end Sys2Proof.Proofs
end

section
set_option Elab.async false

/-! SUPPORT. What a report and a capture trigger look at, and the failures of a command (R53, R55, R58, R59). -/

namespace Sys2Proof.Machine

/-- Two states with the same reports, captures and time, which is all that a report and a capture trigger look at. -/
structure SameLog (s t : State) : Prop where
  reports : t.reports = s.reports
  capture : t.capture = s.capture
  time : t.time = s.time

namespace SameLog
variable {s t u : State} {f : Fin 8} {d : Device}

protected theorem refl (s : State) : SameLog s s := ⟨rfl, rfl, rfl⟩

protected theorem trans (h : SameLog s t) (k : SameLog t u) : SameLog s u :=
  ⟨k.reports.trans h.reports, k.capture.trans h.capture, k.time.trans h.time⟩

protected theorem symm (h : SameLog s t) : SameLog t s := ⟨h.reports.symm, h.capture.symm, h.time.symm⟩

protected theorem submit {code : ReportCode} {src : Source} {cause : Option Nat} {value : Option Int}
    {slot : Option (Fin 4)} (h : SameLog s t) :
    SameLog (submit code src cause value slot s) (submit code src cause value slot t) where
  reports := by
    simp only [Machine.submit, stampReport, State.updReports, h.reports, h.time]
  capture := h.capture
  time := h.time

protected theorem report {code : ReportCode} {src : Source} {cause : Option Nat} {value : Option Int}
    (h : SameLog s t) : SameLog (report code src cause value s) (report code src cause value t) := h.submit

/-- R168 to R172: the same slot is taken, in the same way. -/
theorem trigger {cause : Cause} {src : Source} (h : SameLog s t) :
    (trigger cause src t).1 = (trigger cause src s).1 ∧
      SameLog (Machine.trigger cause src s).2 (Machine.trigger cause src t).2 := by
  unfold Machine.trigger
  rw [h.capture]
  cases s.capture.inState .filling with
  | some i => exact ⟨rfl, h.reports, by simp only [mergeTrigger, triggerEntry, State.updCapture, h.capture, h.time], h.time⟩
  | none =>
    cases s.capture.inState .armed with
    | some i =>
      exact ⟨rfl, h.reports, by simp only [startFilling, triggerEntry, deadline, State.updCapture, h.capture, h.time], h.time⟩
    | none =>
      cases overwritable s.capture with
      | some i =>
        exact ⟨rfl, h.reports, by simp only [startFilling, triggerEntry, deadline, State.updCapture, h.capture, h.time], h.time⟩
      | none =>
        exact ⟨rfl, SameLog.report (s := s.updCapture _) ⟨h.reports, by simp only [State.updCapture, h.capture], h.time⟩⟩

/-- A change of the parts that no report and no trigger looks at. -/
theorem of_frame (hr : t.reports = s.reports := by exact rfl) (hc : t.capture = s.capture := by exact rfl)
    (ht : t.time = s.time := by exact rfl) : SameLog s t := ⟨hr, hc, ht⟩

protected theorem takeCommand {c : Command} {q : Option Requester} : SameLog s (takeCommand d c q s) := by
  rw [takeCommand_eq]
  exact of_frame

protected theorem enqueue {k : Kind} : SameLog s (enqueue f k s) := by
  rw [enqueue_eq]
  exact of_frame

/-- R103: a lockout makes its report. -/
protected theorem lockout {cause : LockoutCause} (h : SameLog s t) (hq : (t.seq f).attempts = (s.seq f).attempts) :
    SameLog (lockout f cause s) (lockout f cause t) := by
  have hreport : SameLog
      (Machine.report .lockout (.feeder f) (some (lockoutCode cause)) (some (s.seq f).attempts) s)
      (Machine.report .lockout (.feeder f) (some (lockoutCode cause)) (some (s.seq f).attempts) t) := h.report
  refine ⟨?_, ?_, (lockout_time ..).trans (h.time.trans (lockout_time ..).symm)⟩
  · rw [lockout_reports, lockout_reports, hq, hreport.reports]
  · rw [lockout_eq f cause t, lockout_eq f cause s]
    exact h.capture

/-- R49: a request for a device that is no test contactor makes its report on what it withdraws. -/
protected theorem askOpen {q : Requester} (h : SameLog s t) (hd : ∀ f, d ≠ .ft f) (hdev : t.dev d = s.dev d) :
    SameLog (askOpen d q s) (askOpen d q t) := by
  unfold Machine.askOpen requestOpen
  simp only [guardCommand_of_not_test hd, hdev]
  by_cases ha : (s.dev d).addr = none
  · simp only [ha, if_true]
    exact h
  · simp only [ha, if_false]
    cases (s.dev d).cmd with
    | none => exact (SameLog.takeCommand.symm.trans h).trans SameLog.takeCommand
    | toOpen => exact h
    | toClose =>
      have hw : SameLog (reportWithdrawn d s) (reportWithdrawn d t) := by
        unfold reportWithdrawn breakerReport
        rw [hdev]
        exact h.report
      exact (SameLog.takeCommand.symm.trans hw).trans SameLog.takeCommand

/-- R123: a trip makes its capture and its report, by the rectifier's state and, when it asks for DCM, DCM's record. -/
protected theorem rectTrip {cause : Cause} {value : Int} (h : SameLog s t) (hr : t.rect.state = s.rect.state)
    (hdev : (cause ≠ .overcurrent ∧ cause ≠ .feederBf) ∨ t.dev .dcm = s.dev .dcm) :
    SameLog (rectTrip cause value s) (rectTrip cause value t) := by
  have htold (u v : State) (huv : SameLog u v) : SameLog
      (submit .rectTrip .rectifier (some (rectTripCause cause)) (some value) (Machine.trigger cause .rectifier u).1
        (Machine.trigger cause .rectifier u).2)
      (submit .rectTrip .rectifier (some (rectTripCause cause)) (some value) (Machine.trigger cause .rectifier v).1
        (Machine.trigger cause .rectifier v).2) := by
    obtain ⟨hslot, hlog⟩ := SameLog.trigger (cause := cause) (src := .rectifier) huv
    rw [hslot]
    exact hlog.submit
  unfold Machine.rectTrip
  rw [hr]
  split
  · exact h
  · exact h
  · refine htold _ _ ?_
    split
    · next hasks =>
      have hsame : t.dev .dcm = s.dev .dcm := hdev.resolve_left fun hq => by simp [hq] at hasks
      exact SameLog.askOpen ⟨h.reports, h.capture, h.time⟩ nofun hsame
    · exact ⟨h.reports, h.capture, h.time⟩

end SameLog

/-! ## An OPEN that fails (R53, R58, R59) -/

variable {s t : State} {d : Device} {f : Fin 8}

/-- R53: the record whose OPEN has failed. -/
def failedRecord (r : DevRecord) : DevRecord := { r with flag := .openFail, cmdTimer := none }

theorem openTimer_settled {at_ : Nat} (hs : Settled s) (hc : (s.dev d).cmd = .toOpen)
    (ha : (s.dev d).cmdTimer = some at_) :
    exec (.openTimerExpiry d) s = .next (escalate d ((advanceTo at_ s).updDev d failedRecord)) := by
  have hfails : openTimerExpired d (advanceTo at_ s) = escalate d ((advanceTo at_ s).updDev d failedRecord) :=
    if_pos (by rw [advanceTo_dev]; exact hc)
  refine next_eq ?_
  rw [if_pos hc, ha, whenExpired_some]
  have hsteady : Steady ∅ (advanceTo at_ s) (openTimerExpired d (advanceTo at_ s)) := Steady.rfl.openTimerExpired
  rw [finish_of_settled (hsteady.target.trans (advanceTo_settled at_ hs)), hfails]

/-- R53: the failed record keeps its place but for the flag. -/
theorem updDev_failed (d : Device) (s : State) : (s.updDev d failedRecord).dev d = failedRecord (s.dev d) :=
  State.updDev_dev_same ..

/-- R58: what FMf's failure asks for, before its report. -/
def escalated (f : Fin 8) (s : State) : State :=
  rectTrip .feederBf (f.val + 1) (askOpen .dcm .escalation s)

theorem escalate_test (f : Fin 8) (s : State) : escalate (.ft f) s =
    lockout f .testContactor (breakerReport .openFail (.ft f) 100 s) := rfl

theorem escalate_dcm (s : State) : escalate .dcm s =
    rectOpenFailed .dcm (breakerReport .openFail .dcm (openTime .dcm s) (askOpen .acm .escalation s)) := rfl

theorem escalate_acm (s : State) : escalate .acm s = rectOpenFailed .acm (breakerReport .openFail .acm 200 s) := rfl

/-! ### FMf (R58) -/

theorem askOpen_notest_frame {q : Requester} (hd : ∀ f, d ≠ .ft f) (s : State) : askOpen d q s = { s with
    devs := (askOpen d q s).devs, ring := (askOpen d q s).ring, reports := (askOpen d q s).reports } := by
  unfold askOpen
  rcases requestOpen_cases d q s with ⟨_, h⟩ | ⟨_, _, h⟩ | ⟨_, _, h⟩ | ⟨_, _, h⟩ <;> rw [h]
  · rw [guardCommand_of_not_test hd, takeCommand_eq]
  · rw [guardCommand_of_not_test hd, takeCommand_eq]
    rfl

/-- R123: what a trip leaves alone. -/
theorem rectTrip_frame (cause : Cause) (value : Int) (s : State) : rectTrip cause value s = { s with
    ring := (rectTrip cause value s).ring, devs := (rectTrip cause value s).devs, rect := (rectTrip cause value s).rect,
    reports := (rectTrip cause value s).reports, capture := (rectTrip cause value s).capture } := by
  unfold rectTrip
  split
  · rfl
  · rfl
  · dsimp only
    rw [submit_eq, trigger_eq]
    split
    · rw [askOpen_notest_frame (d := .dcm) nofun]
      rfl
    · rfl

/-- R58: the escalation touches DCM, the rectifier, the captures and the reports. -/
theorem escalated_frame (f : Fin 8) (s : State) : escalated f s = { s with
    ring := (escalated f s).ring, devs := (escalated f s).devs, rect := (escalated f s).rect,
    reports := (escalated f s).reports, capture := (escalated f s).capture } := by
  unfold escalated
  rw [rectTrip_frame, askOpen_notest_frame (d := .dcm) nofun]

/-- R58: the state in which FMf's failure is reported. -/
def breakerFailed (f : Fin 8) (s : State) : State :=
  submit .openFail (.feeder f) (some 1) (some (openTime (.fm f) s))
    (trigger .breakerFail (.feeder f) (enqueue f .trip (escalated f s))).1
    (trigger .breakerFail (.feeder f) (enqueue f .trip (escalated f s))).2

theorem escalate_main_eq (f : Fin 8) (s : State) : escalate (.fm f) s = lockout f .breakerFail (breakerFailed f s) := rfl

/-- R58: beside the escalation, a TRIP is enqueued, and there are a capture and a report. -/
theorem breakerFailed_frame (f : Fin 8) (s : State) : breakerFailed f s = { escalated f s with
    line := (enqueue f .trip (escalated f s)).line
    reports := (breakerFailed f s).reports, capture := (breakerFailed f s).capture } := by
  unfold breakerFailed
  rw [submit_eq, trigger_eq, enqueue_frame]

theorem escalate_main_dev (e : Device) : (escalate (.fm f) s).dev e = (escalated f s).dev e := by
  rw [escalate_main_eq, lockout_dev, breakerFailed_frame]
  rfl

theorem escalate_main_rect : (escalate (.fm f) s).rect = (escalated f s).rect := by
  rw [escalate_main_eq, lockout_rect, breakerFailed_frame]

theorem breakerFailed_seqs : (breakerFailed f s).seqs = s.seqs := by
  rw [breakerFailed_frame, escalated_frame]

theorem breakerFailed_line : (breakerFailed f s).line = (enqueue f .trip s).line := by
  rw [breakerFailed_frame]
  exact enqueue_line (by rw [escalated_frame])

/-- R103: the sequence after a lockout. -/
theorem lockout_seq (f : Fin 8) (cause : LockoutCause) (s : State) : (lockout f cause s).seq f = { s.seq f with
    state := .lockout, timerAt := none, busWaitAt := none, waitStep := none, purpose := none, backingOff := false,
    busSum := 0, busCount := 0, lineSum := 0, lineCount := 0, lockCause := some cause, noted := none } := by
  unfold State.seq
  rw [lockout_seqs]
  exact Vector.getElem_set_self _

theorem escalate_main_seq : (escalate (.fm f) s).seq f = { s.seq f with
    state := .lockout, timerAt := none, busWaitAt := none, waitStep := none, purpose := none, backingOff := false,
    busSum := 0, busCount := 0, lineSum := 0, lineCount := 0, lockCause := some .breakerFail, noted := none } := by
  rw [escalate_main_eq, lockout_seq]
  unfold State.seq
  rw [breakerFailed_seqs]

/-- R58: the escalation touches no record but DCM's. -/
theorem escalated_other {e : Device} (he : e ≠ .dcm) : (escalated f s).dev e = s.dev e :=
  (rectTrip_other he ..).trans (askOpen_other (d := .dcm) nofun he ..)

/-- R49: an OPEN that is outstanding is left. -/
theorem askOpen_outstanding (hc : (s.dev d).cmd = .toOpen) (q : Requester) : askOpen d q s = s := by
  unfold askOpen requestOpen
  dsimp only
  rw [hc]
  split <;> rfl

/-- R123: a trip leaves the records when it does not ask for DCM, or DCM's OPEN is outstanding. -/
theorem rectTrip_devs {cause : Cause} (h : (cause ≠ .overcurrent ∧ cause ≠ .feederBf) ∨ (s.dev .dcm).cmd = .toOpen)
    (value : Int) : (rectTrip cause value s).devs = s.devs := by
  unfold rectTrip
  split
  · rfl
  · rfl
  · show State.devs (trigger _ _ _).2 = _
    rw [trigger_devs]
    split
    · next hasks =>
      rcases h with h | h
      · simp [h] at hasks
      · rw [askOpen_outstanding]
        · rfl
        · exact h
    · rfl

/-- R53, R58: an assigned DCM has OPEN outstanding, asked for by the escalation unless it was outstanding before. -/
theorem escalated_dcm (f : Fin 8) (ha : (s.dev .dcm).addr ≠ none) : ((escalated f s).dev .dcm).cmd = .toOpen ∧
    ((s.dev .dcm).cmd ≠ .toOpen → ((escalated f s).dev .dcm).requester = some .escalation) := by
  have hcmd := askOpen_cmd ha .escalation
  have hdev : (escalated f s).dev .dcm = (askOpen .dcm .escalation s).dev .dcm :=
    congrArg (fun p : PerDevice DevRecord => p.get .dcm) (rectTrip_devs (.inr hcmd) _)
  rw [hdev]
  refine ⟨hcmd, fun hc => ?_⟩
  rw [show askOpen .dcm .escalation s = (requestOpen .dcm .escalation s).2 from rfl, requestOpen_dev ha hc]
  rfl

/-- R123: the rectifier after a trip from any state. -/
theorem rectTrip_state (cause : Cause) (value : Int) (s : State) :
    (rectTrip cause value s).rect.state = if s.rect.state = .off then .off else .tripped := by
  by_cases ho : s.rect.state = .off
  · rw [rectTrip_idle (.inl ho), if_pos ho, ho]
  · rw [if_neg ho]
    by_cases ht : s.rect.state = .tripped
    · rw [rectTrip_idle (.inr ht), ht]
    · rw [rectTrip_rect ho ht]
      exact rectGo_state ..

theorem rectTrip_gateEn (h : firing s.rect.state = true) (cause : Cause) (value : Int) :
    (rectTrip cause value s).rect.gateEn = false := by
  rw [rectTrip_rect (by intro ho; simp [ho, firing] at h) (by intro ht; simp [ht, firing] at h)]
  exact rectGo_gateEn ..

theorem escalated_state : (escalated f s).rect.state = if s.rect.state = .off then .off else .tripped := by
  rw [escalated, rectTrip_state, askOpen_rect]

theorem escalated_gateEn (h : firing s.rect.state = true) : (escalated f s).rect.gateEn = false :=
  rectTrip_gateEn (by rw [askOpen_rect]; exact h) ..

/-- R49: the record after an OPEN request, by the record, the time and the setting. -/
theorem askOpen_dev_congr (hdev : t.dev d = s.dev d) (htime : t.time = s.time) (hopen : openTime d t = openTime d s)
    (q : Requester) : (askOpen d q t).dev d = (askOpen d q s).dev d := by
  by_cases ha : (s.dev d).addr = none
  · rw [show askOpen d q s = s from congrArg Prod.snd (if_pos ha),
      show askOpen d q t = t from congrArg Prod.snd (if_pos (by rw [hdev]; exact ha)), hdev]
  · by_cases hc : (s.dev d).cmd = .toOpen
    · rw [askOpen_outstanding hc, askOpen_outstanding (by rw [hdev]; exact hc), hdev]
    · have hs : (askOpen d q s).dev d = _ := requestOpen_dev ha hc q
      have ht : (askOpen d q t).dev d = _ := requestOpen_dev (by rw [hdev]; exact ha) (by rw [hdev]; exact hc) q
      rw [hs, ht, hdev]
      simp only [commandedRecord, commandTime, deadline, nowMs, htime, hopen]

/-- R58: the failed record has no part in what its failure reports and captures. -/
theorem escalate_main_log (f : Fin 8) (s : State) :
    let answer := trigger .breakerFail (.feeder f) (escalated f s)
    (escalate (.fm f) (s.updDev (.fm f) failedRecord)).capture = answer.2.capture ∧
      (escalate (.fm f) (s.updDev (.fm f) failedRecord)).reports = (report .lockout (.feeder f)
        (some (lockoutCode .breakerFail)) (some (s.seq f).attempts) (submit .openFail (.feeder f) (some 1)
          (some (openTime (.fm f) s)) answer.1 answer.2)).reports := by
  intro answer
  have hdcm : (s.updDev (.fm f) failedRecord).dev .dcm = s.dev .dcm := State.updDev_dev_ne _ _ nofun
  have hasked : SameLog (askOpen .dcm .escalation s) (askOpen .dcm .escalation (s.updDev (.fm f) failedRecord)) :=
    SameLog.askOpen .of_frame nofun hdcm
  have hescalated : SameLog (escalated f s) (escalated f (s.updDev (.fm f) failedRecord)) :=
    hasked.rectTrip (by rw [askOpen_rect, askOpen_rect]; rfl) (.inr (askOpen_dev_congr hdcm rfl rfl _))
  obtain ⟨hslot, hlog⟩ := (hescalated.trans SameLog.enqueue).trigger (cause := .breakerFail) (src := .feeder f)
  have hfailed : SameLog (submit .openFail (.feeder f) (some 1) (some (openTime (.fm f) s)) answer.1 answer.2)
      (breakerFailed f (s.updDev (.fm f) failedRecord)) := by
    unfold breakerFailed
    rw [hslot]
    exact hlog.submit
  have hseq : (breakerFailed f (s.updDev (.fm f) failedRecord)).seq f = s.seq f :=
    congrArg (fun v : Vector Sequencer 8 => v[f]) breakerFailed_seqs
  rw [escalate_main_eq, lockout_reports, hseq, lockout_eq]
  exact ⟨hfailed.capture, hfailed.report.reports⟩

/-! ### FTf, DCM and ACM (R53, R59) -/

/-- R53, R119: an ordered stop ends with a trip. -/
theorem stopFailed_log (h : SameLog s t) (hr : t.rect = s.rect) :
    SameLog (if s.rect.state = .off then s else rectTrip .stopIncomplete s.rect.stopStep s) (stopFailed t) := by
  unfold stopFailed
  rw [hr]
  split
  · exact ⟨h.reports, h.capture, h.time⟩
  · exact h.rectTrip (by rw [hr]) (.inl (by decide))

@[simp] theorem stopFailed_devs (s : State) : (stopFailed s).devs = s.devs := by
  unfold stopFailed
  split
  · rfl
  · exact rectTrip_devs (.inl (by decide)) _

@[simp] theorem stopFailed_line (s : State) : (stopFailed s).line = s.line := by
  unfold stopFailed
  split
  · rfl
  · rw [rectTrip_frame]

@[simp] theorem rectOpenFailed_devs (d : Device) (s : State) : (rectOpenFailed d s).devs = s.devs := by
  unfold rectOpenFailed
  split
  · split
    · rfl
    · exact stopFailed_devs s
  · split
    · exact stopFailed_devs s
    · rfl
  · rfl

@[simp] theorem rectOpenFailed_line (d : Device) (s : State) : (rectOpenFailed d s).line = s.line := by
  unfold rectOpenFailed
  split
  · split
    · rfl
    · exact stopFailed_line s
  · split
    · exact stopFailed_line s
    · rfl
  · rfl

end Sys2Proof.Machine
end

section
set_option Elab.async false

/-! SUPPORT. The failure of an OPEN and of a CLOSE, device by device. -/

namespace Sys2Proof.Machine
variable {s t : State} {d : Device} {f : Fin 8}

theorem openTime_advanceTo (d : Device) (n : Nat) (s : State) : openTime d (advanceTo n s) = openTime d s := by
  cases d with
  | fm f => simp only [openTime, advanceTo_ev]
  | ft f => rfl
  | dcm => simp only [openTime, advanceTo_rect]
  | acm => rfl

theorem closeTime_advanceTo (d : Device) (n : Nat) (s : State) : closeTime d (advanceTo n s) = closeTime d s := by
  cases d with
  | fm f => simp only [closeTime, advanceTo_ev]
  | ft f => rfl
  | dcm => rfl
  | acm => rfl

/-- R53: the settings that the command timer of an OPEN takes its time from. -/
theorem openTime_main (f : Fin 8) (s : State) :
    openTime (.fm f) s = ((s.ev f).settings.map fun x => x.bfTime).getD 0 := by
  simp only [openTime]
  cases (s.ev f).settings <;> rfl

theorem openTime_dcm (s : State) : openTime .dcm s = (s.rect.settings.map fun x => x.dcFail).getD 0 := by
  simp only [openTime]
  cases s.rect.settings <;> rfl

theorem closeTime_main (f : Fin 8) (s : State) :
    closeTime (.fm f) s = ((s.ev f).settings.map fun x => x.closeTime).getD 0 := by
  simp only [closeTime]
  cases (s.ev f).settings <;> rfl

/-- R53: the report of a failed OPEN. -/
def reportOpenFail (d : Device) (s v : State) : State :=
  report .openFail (deviceSource d) (some (deviceCause d)) (some (openTime d s)) v

/-! ## An OPEN that fails -/

/-- R53 to R59: a failed OPEN stays outstanding, without its timer. -/
theorem escalate_self (d : Device) (s : State) : (escalate d s).dev d = s.dev d := by
  cases d with
  | fm f => rw [escalate_main_dev, escalated_other (e := .fm f) nofun]
  | ft f => rw [escalate_test, lockout_dev]; rfl
  | dcm =>
    rw [escalate_dcm]
    exact (congrArg (fun p : PerDevice DevRecord => p.get .dcm) (rectOpenFailed_devs ..)).trans
      (askOpen_other (d := .acm) (e := .dcm) nofun nofun _ s)
  | acm =>
    rw [escalate_acm]
    exact congrArg (fun p : PerDevice DevRecord => p.get .acm) (rectOpenFailed_devs ..)

theorem escalate_notified (d : Device) (s : State) : Notified s (escalate d s) := by
  have hstop {u : State} (hu : Notified s u) : Notified s (stopFailed u) := .ite (hu.and rfl) hu.rectTrip
  cases d with
  | fm f =>
    have hescalated : Notified s (escalated f s) := Notified.rfl.askOpen.rectTrip
    have hqueued : Notified s (enqueue f .trip (escalated f s)) :=
      hescalated.and (enqueue_devs ..) (by rw [enqueue_frame])
    rw [escalate_main_eq]
    exact Notified.lockout (hqueued.trigger.and rfl)
  | ft f => exact Notified.lockout (Notified.rfl.and rfl)
  | dcm =>
    have hasked : Notified s (breakerReport .openFail .dcm (openTime .dcm s) (askOpen .acm .escalation s)) :=
      Notified.rfl.askOpen.report
    exact .ite hasked (hstop hasked)
  | acm =>
    have hreported : Notified s (breakerReport .openFail .acm (openTime .acm s) s) := Notified.rfl.report
    exact .ite (hstop hreported) hreported

/-- R59: DCM's failure asks for ACM, and is reported; then the rectifier is told. -/
theorem escalate_dcm_told (s : State) : ∃ v, SameLog (reportOpenFail .dcm s (askOpen .acm .escalation s)) v ∧
    v.rect = s.rect ∧ escalate .dcm (s.updDev .dcm failedRecord) = rectOpenFailed .dcm v := by
  have hacm : (s.updDev .dcm failedRecord).dev .acm = s.dev .acm := State.updDev_dev_ne _ _ nofun
  have hasked : SameLog (askOpen .acm .escalation s) (askOpen .acm .escalation (s.updDev .dcm failedRecord)) :=
    SameLog.askOpen .of_frame nofun hacm
  exact ⟨_, hasked.report, askOpen_rect .acm .escalation (s.updDev .dcm failedRecord), escalate_dcm _⟩

/-- R59, R119: what DCM's failure reports and captures: itself, and the trip of the stop that it ends. -/
theorem escalate_dcm_log (s : State) :
    ((s.rect.stopStep = 0 ∨ s.rect.state = .off) → SameLog (reportOpenFail .dcm s (askOpen .acm .escalation s))
      (escalate .dcm (s.updDev .dcm failedRecord))) ∧
    (s.rect.stopStep ≠ 0 → s.rect.state ≠ .off →
      SameLog (rectTrip .stopIncomplete s.rect.stopStep (reportOpenFail .dcm s (askOpen .acm .escalation s)))
        (escalate .dcm (s.updDev .dcm failedRecord))) := by
  obtain ⟨v, hlog, hrect, he⟩ := escalate_dcm_told s
  have hreported : (reportOpenFail .dcm s (askOpen .acm .escalation s)).rect = s.rect := askOpen_rect .acm .escalation s
  have hstop := stopFailed_log hlog (hrect.trans hreported.symm)
  rw [hreported] at hstop
  have hcases : rectOpenFailed .dcm v = if s.rect.stopStep = 0 then v else stopFailed v := by rw [← hrect]; rfl
  rw [he, hcases]
  refine ⟨fun h => ?_, fun hstep ho => ?_⟩
  · split
    · exact hlog
    · next hstep =>
      rw [if_pos (h.resolve_left hstep)] at hstop
      exact hstop
  · rw [if_neg hstep]
    rw [if_neg ho] at hstop
    exact hstop

/-- R53, R119: what ACM's failure reports and captures: itself, and the trip of the stop step that it ends. -/
theorem escalate_acm_log (s : State) :
    ((s.rect.stopStep ≠ 4 ∨ s.rect.state = .off) → SameLog (reportOpenFail .acm s s)
      (escalate .acm (s.updDev .acm failedRecord))) ∧
    (s.rect.stopStep = 4 → s.rect.state ≠ .off → SameLog (rectTrip .stopIncomplete 4 (reportOpenFail .acm s s))
        (escalate .acm (s.updDev .acm failedRecord))) := by
  have hlog : SameLog (reportOpenFail .acm s s) (reportOpenFail .acm s (s.updDev .acm failedRecord)) :=
    SameLog.report .of_frame
  have hstop := stopFailed_log hlog rfl
  rw [show (reportOpenFail .acm s s).rect = s.rect from rfl] at hstop
  have hcases : escalate .acm (s.updDev .acm failedRecord) =
      if s.rect.stopStep = 4 then stopFailed (reportOpenFail .acm s (s.updDev .acm failedRecord))
      else reportOpenFail .acm s (s.updDev .acm failedRecord) := rfl
  rw [hcases]
  refine ⟨fun h => ?_, fun hstep ho => ?_⟩
  · split
    · next hstep =>
      rw [if_pos (h.resolve_left (not_not.2 hstep))] at hstop
      exact hstop
    · exact hlog
  · rw [if_pos hstep]
    rw [if_neg ho, hstep] at hstop
    exact hstop

/-- R59, R119: the rectifier after DCM's failure. -/
theorem escalate_dcm_rect (s : State) :
    (s.rect.stopStep ≠ 0 → s.rect.state ≠ .off → (escalate .dcm s).rect.state = .tripped) ∧
      (s.rect.stopStep = 0 → (escalate .dcm s).rect = s.rect) := by
  have hasked : (breakerReport .openFail .dcm (openTime .dcm s) (askOpen .acm .escalation s)).rect = s.rect :=
    askOpen_rect .acm .escalation s
  rw [escalate_dcm]
  generalize breakerReport .openFail .dcm (openTime .dcm s) (askOpen .acm .escalation s) = v at hasked
  rw [← hasked]
  refine ⟨fun hstep ho => ?_, fun hstep => congrArg State.rect (if_pos hstep)⟩
  rw [show rectOpenFailed .dcm v = stopFailed v from if_neg hstep,
    show stopFailed v = rectTrip .stopIncomplete v.rect.stopStep v from if_neg ho, rectTrip_state, if_neg ho]

theorem escalate_acm_rect (h : s.rect.stopStep ≠ 4) : (escalate .acm s).rect = s.rect := by
  rw [escalate_acm, show rectOpenFailed .acm (breakerReport .openFail .acm 200 s) = _ from if_neg h]
  rfl

/-- R59: an assigned ACM has OPEN outstanding after DCM's failure. -/
theorem escalate_dcm_acm (ha : (s.dev .acm).addr ≠ none) : ((escalate .dcm s).dev .acm).cmd = .toOpen := by
  rw [escalate_dcm]
  exact (congrArg (fun p : PerDevice DevRecord => (p.get .acm).cmd) (rectOpenFailed_devs ..)).trans
    (askOpen_cmd ha .escalation)

theorem escalate_dcm_line (s : State) : (escalate .dcm s).line = s.line := by
  rw [escalate_dcm, rectOpenFailed_line]
  show (askOpen .acm .escalation s).line = s.line
  rw [askOpen_notest_frame (d := .acm) nofun]

theorem escalate_acm_line (s : State) : (escalate .acm s).line = s.line := by
  rw [escalate_acm, rectOpenFailed_line]
  rfl

/-- R53, R103: FTf's failure is reported, and locks the sequence out. -/
theorem escalate_test_log (f : Fin 8) (s : State) :
    SameLog (report .lockout (.feeder f) (some (lockoutCode .testContactor)) (some (s.seq f).attempts)
      (reportOpenFail (.ft f) s s)) (escalate (.ft f) (s.updDev (.ft f) failedRecord)) := by
  have hlog : SameLog (reportOpenFail (.ft f) s s) (reportOpenFail (.ft f) s (s.updDev (.ft f) failedRecord)) :=
    SameLog.report .of_frame
  rw [escalate_test]
  refine ⟨?_, ?_, lockout_time ..⟩
  · rw [lockout_reports]
    exact hlog.report.reports
  · rw [lockout_eq]
    rfl

/-! ## A CLOSE that fails -/

theorem closeTimer_settled {at_ : Nat} (hs : Settled s) (hc : (s.dev d).cmd = .toClose)
    (ha : (s.dev d).cmdTimer = some at_) :
    exec (.closeTimerExpiry d) s = .next (closeFailed d (advanceTo at_ s)) := by
  have hfails : closeTimerExpired d (advanceTo at_ s) = closeFailed d (advanceTo at_ s) :=
    if_pos (by rw [advanceTo_dev]; exact hc)
  refine next_eq ?_
  rw [if_pos hc, ha, whenExpired_some, hfails]
  have hsteady : Steady ∅ (advanceTo at_ s) (closeFailed d (advanceTo at_ s)) := Steady.rfl.closeFailed
  exact finish_of_settled (hsteady.target.trans (advanceTo_settled at_ hs))

/-- R55: a failed CLOSE is flagged, an OPEN takes its place, and the failure is reported. -/
def closeReported (d : Device) (s : State) : State :=
  breakerReport .closeFail d (closeTime d s)
    (takeCommand d .toOpen (s.dev d).requester (s.updDev d fun r => { r with flag := .closeFail }))

/-- R55: the owner of a failed CLOSE is told; FMf, at rest in OPEN while FTf has a CLOSE, needs no guard. -/
theorem closeFailed_eq (h : ∀ f, d = .ft f → (s.dev (.fm f)).cmd ≠ .toClose) :
    closeFailed d s = tellCloseFailed d (closeReported d s) := by
  cases d with
  | ft f =>
    refine guardMain_of_safe f _ fun hc => absurd ?_ (h f rfl)
    rw [← hc]
    show _ = ((lockout f .closeFail (closeReported (.ft f) s)).dev (.fm f)).cmd
    rw [lockout_dev]
    show _ = ((takeCommand _ _ _ _).dev (.fm f)).cmd
    rw [takeCommand_other (.ft f) (.fm f) _ _ _ nofun,
      State.updDev_dev_ne (d := .ft f) (e := .fm f) _ _ nofun]
  | fm f => rfl
  | dcm => rfl
  | acm => rfl

theorem closeReported_frame (d : Device) (s : State) : closeReported d s = { s with
    ring := (closeReported d s).ring, devs := (closeReported d s).devs, reports := (closeReported d s).reports } := by
  unfold closeReported breakerReport
  rw [takeCommand_eq]
  rfl

theorem closeReported_log (d : Device) (s : State) :
    SameLog (report .closeFail (deviceSource d) (some (deviceCause d)) (some (closeTime d s)) s) (closeReported d s) :=
  SameLog.report ⟨takeCommand_reports .., by rw [takeCommand_eq]; rfl, by rw [takeCommand_eq]; rfl⟩

/-- R55: the record whose CLOSE has failed has an OPEN outstanding, with the requester that it had. -/
theorem closeReported_self (ha : (s.dev d).addr ≠ none) : (closeReported d s).dev d = { s.dev d with
    flag := .closeFail, cmd := .toOpen, cmdTimer := some (deadline s (openTime d s)), cmdStart := some (nowMs s),
    repeatAt := some (deadline s 1) } := by
  have hopen : openTime d (s.updDev d fun r => { r with flag := .closeFail }) = openTime d s := by cases d <;> rfl
  refine (takeCommand_same d .toOpen _ _ ?_ nofun).trans ?_
  · rw [State.updDev_dev_same]
    exact ha
  · rw [State.updDev_dev_same]
    simp only [commandTime, hopen]
    rfl

theorem closeReported_other {e : Device} (he : e ≠ d) : (closeReported d s).dev e = s.dev e :=
  (takeCommand_other _ _ _ _ _ he).trans (State.updDev_dev_ne _ _ he)

/-- R55, R103: the sequence of a feeder whose device fails to close is locked out. -/
theorem tellCloseFailed_feeder (h : d = .fm f ∨ d = .ft f) : tellCloseFailed d s = lockout f .closeFail s := by
  rcases h with h | h <;> rw [h] <;> rfl

@[simp] theorem tellCloseFailed_devs (d : Device) (s : State) : (tellCloseFailed d s).devs = s.devs := by
  cases d with
  | fm f => exact lockout_devs ..
  | ft f => exact lockout_devs ..
  | dcm =>
    show (ite _ _ _ : State).devs = _
    split
    · exact rectTrip_devs (.inl (by decide)) _
    · rfl
  | acm => rfl

end Sys2Proof.Machine

namespace Sys2Proof.Proofs
open Sys2Proof.Machine

/-- Settles O39: the device's record, then the owner's effects, device by device. -/
theorem commandFailures : Obligations.CommandFailures := by
  refine ⟨fun d at_ s hs hc ha => ?opens, fun d at_ s hs hc ha haddr hft => ?closes⟩
  case opens =>
    intro u failed
    have hopen (e : Device) : openTime e u = openTime e s := openTime_advanceTo e at_ s
    have hdev (e : Device) : u.dev e = s.dev e := advanceTo_dev at_ s e
    have hseq (f : Fin 8) : u.seq f = s.seq f := advanceTo_seq at_ s f
    have hrect : u.rect = s.rect := advanceTo_rect at_ s
    have hline : u.line = s.line := advanceTo_line at_ s
    have hcap : u.capture = s.capture := advanceTo_capture at_ s
    refine ⟨_, openTimer_settled hs hc ha, ?main, ?test, ?dcm, ?acm, ?record, (escalate_notified _ _).time, ?mainOwners,
      ?testOwners, ?dcmOwners, ?acmOwners⟩
    case record => rw [escalate_self, updDev_failed, advanceTo_dev]; rfl
    case main =>
      rintro f rfl
      obtain ⟨hcapture, hreports⟩ := escalate_main_log f u
      rw [hopen, hseq] at hreports
      refine ⟨openTime_main f s, ?_, hcapture, hreports⟩
      rw [escalate_main_eq, lockout_line]
      exact enqueue_line (breakerFailed_line.trans (enqueue_line hline))
    case test =>
      rintro f rfl
      have hlog := escalate_test_log f u
      refine ⟨rfl, ?_, hlog.capture.trans hcap, ?_⟩
      · rw [escalate_test, lockout_line]
        exact enqueue_line hline
      · rw [← hseq]
        exact hlog.reports
    case dcm =>
      rintro rfl
      obtain ⟨hkept, hstop⟩ := escalate_dcm_log u
      rw [reportOpenFail, hopen, hrect] at hkept hstop
      refine ⟨openTime_dcm s, (escalate_dcm_line _).trans hline, fun h => ⟨?_, (hkept h).reports⟩,
        fun h ho => (hstop h ho).reports⟩
      refine (hkept h).capture.trans ?_
      show (askOpen .acm .escalation u).capture = s.capture
      rw [askOpen_notest_frame (d := .acm) nofun]
      exact hcap
    case acm =>
      rintro rfl
      obtain ⟨hkept, hstop⟩ := escalate_acm_log u
      rw [reportOpenFail, hopen, hrect] at hkept hstop
      exact ⟨rfl, (escalate_acm_line _).trans hline, fun h => ⟨(hkept h).capture.trans hcap, (hkept h).reports⟩,
        fun h ho => (hstop h ho).reports⟩
    case mainOwners =>
      rintro f rfl
      have hdcm : (u.updDev (.fm f) failedRecord).dev .dcm = s.dev .dcm :=
        (State.updDev_dev_ne (d := .fm f) (e := .dcm) _ _ nofun).trans (hdev .dcm)
      have hopens := escalated_dcm (s := u.updDev (.fm f) failedRecord) f
      rw [hdcm] at hopens
      rw [escalate_main_dev, escalate_main_rect, escalate_main_seq]
      refine ⟨fun h => (hopens h).1, fun h => (hopens h).2, ?_, fun h => ?_, rfl, rfl, ?_⟩
      · rw [escalated_state, State.updDev_rect, hrect]
      · exact escalated_gateEn (by rw [State.updDev_rect, hrect]; exact h)
      · rw [← hseq]
        rfl
    case testOwners =>
      rintro f rfl
      rw [escalate_test, lockout_seq, lockout_rect]
      exact ⟨rfl, rfl, hrect⟩
    case dcmOwners =>
      rintro rfl
      obtain ⟨htrips, hkeeps⟩ := escalate_dcm_rect (u.updDev .dcm failedRecord)
      rw [State.updDev_rect, hrect] at htrips hkeeps
      refine ⟨fun h => escalate_dcm_acm ?_, htrips, hkeeps⟩
      rw [State.updDev_dev_ne (d := .dcm) (e := .acm) _ _ nofun, hdev]
      exact h
    case acmOwners =>
      rintro rfl h
      exact (escalate_acm_rect (by rw [State.updDev_rect, hrect]; exact h)).trans hrect
  case closes =>
    intro now failed
    have hu (e : Device) : (advanceTo at_ s).dev e = s.dev e := advanceTo_dev at_ s e
    have hopen : openTime d (advanceTo at_ s) = openTime d s := openTime_advanceTo d at_ s
    have hclose : closeTime d (advanceTo at_ s) = closeTime d s := closeTime_advanceTo d at_ s
    have hlog : SameLog failed (closeReported d (advanceTo at_ s)) := by
      have h := closeReported_log d (advanceTo at_ s)
      rwa [hclose] at h
    have hself := closeReported_self (d := d) (s := advanceTo at_ s) (by rw [hu]; exact haddr)
    have hother (e : Device) (he : e ≠ d) : (closeReported d (advanceTo at_ s)).dev e = s.dev e :=
      (closeReported_other he).trans (hu e)
    have hframe := closeReported_frame d (advanceTo at_ s)
    have hguard := closeFailed_eq (d := d) (s := advanceTo at_ s) fun f hf => by rw [hu]; exact hft f hf
    have hdevs := tellCloseFailed_devs d (closeReported d (advanceTo at_ s))
    generalize closeReported d (advanceTo at_ s) = v at hlog hself hother hframe hguard hdevs
    have hline : v.line = s.line := by rw [hframe]; exact advanceTo_line ..
    have hcap : v.capture = s.capture := by rw [hframe]; exact advanceTo_capture ..
    have hrect : v.rect = s.rect := by rw [hframe]; exact advanceTo_rect ..
    have hseq (f : Fin 8) : v.seq f = s.seq f := by rw [hframe]; exact advanceTo_seq ..
    have htold (e : Device) : (tellCloseFailed d v).dev e = v.dev e :=
      congrArg (fun p : PerDevice DevRecord => p.get e) hdevs
    refine ⟨_, (closeTimer_settled hs hc ha).trans (next_eq hguard), fun f => ⟨?mainTime, ?testTime, ?feeder⟩, ?dcm, ?acm,
      ?record, fun e he => (htold e).trans (hother e he), ?sequence, ?trips, ?acmRect⟩
    case mainTime =>
      rintro rfl
      exact closeTime_main f s
    case testTime =>
      rintro rfl
      rfl
    case feeder =>
      intro hd
      rw [tellCloseFailed_feeder hd, lockout_line, lockout_reports, hseq, lockout_eq]
      exact ⟨enqueue_line hline, hcap, hlog.report.reports⟩
    case dcm =>
      rintro rfl
      have hcases : tellCloseFailed .dcm v = if s.rect.wait = .dcm then rectTrip .dcbCloseFail 500 v else v := by
        rw [← hrect]
        rfl
      rw [hcases]
      refine ⟨rfl, ?_, ?_⟩
      · split
        · rw [rectTrip_frame]
          exact hline
        · exact hline
      · split
        · exact (hlog.rectTrip (by rw [hrect]; exact (congrArg Rectifier.state (advanceTo_rect ..)).symm)
            (.inl (by decide))).reports
        · exact hlog.reports
    case acm =>
      rintro rfl
      exact ⟨rfl, hline, hcap, hlog.reports⟩
    case record => rw [htold, hself, hu, hopen]; rfl
    case sequence =>
      intro f hd
      rw [tellCloseFailed_feeder hd, lockout_seq]
      exact ⟨rfl, rfl⟩
    case trips =>
      rintro rfl hw hb
      have htrip : tellCloseFailed .dcm v = rectTrip .dcbCloseFail 500 v := if_pos (by rw [hrect]; exact hw)
      rw [htrip, rectTrip_rect (by rw [hrect, hb]; nofun) (by rw [hrect, hb]; nofun)]
      exact ⟨rectGo_state .., rfl, rfl⟩
    case acmRect =>
      rintro rfl
      exact hrect

end Sys2Proof.Proofs
end

section
set_option Elab.async false

/-! SUPPORT. BLOCK, STOP_FULL and RESET_RECT, and the ordered stop's step 2 (R117 to R120). -/

namespace Sys2Proof.Machine
variable {s t : State} {src : Byte} {r : RectSettings} {k : Copy}

/-! ## OPERATE on the rectifier -/

/-- R191: an OPERATE request of the manager for the rectifier is worked on the state after its frame. -/
theorem operateRect_answered (h : Manages src s) (tag action : Byte) :
    onRequest src tag (requestOperate src [9, action]) s = placeReply src tag (operateRect action.toNat (goodFrame s)) := by
  obtain ⟨hreach, hmgmt⟩ := h
  rw [onRequest_of_reaches hreach, requestOperate,
    checked_passes true 2 src [9, action] _ _ (fun _ => by rw [goodFrame_mgmt]; exact hmgmt) rfl]
  rfl

theorem doneOrState_taken {before : State} {x : Bool × State} (h : x.1 = true) (tag : Byte) :
    placeReply src tag (doneOrState before x) = answered src tag .done .none [] x.2 := by
  rw [doneOrState, if_pos h, placeReply_done]

theorem doneOrState_refused {before : State} {x : Bool × State} (h : x.1 = false) (tag : Byte) :
    placeReply src tag (doneOrState before x) = answered src tag .refused .state [] before := by
  rw [doneOrState, if_neg (by rw [h]; nofun), placeReply_refuse]

/-- R112: between firing states a state change is that of the state alone. -/
theorem rectGo_stopping (hs : GatesSafe s) (h : firing s.rect.state = true) :
    rectGo .stopping s = { s with rect := { s.rect with state := .stopping } } := by
  have hg : s.rect.gateEn = true := hs.1.trans h
  simp only [rectGo, State.updRect, firing]
  simp [← hg]

/-- R117: BLOCK. -/
theorem block_stops (hs : GatesSafe s) (h : s.rect.state = .starting ∨ s.rect.state = .running) :
    block s = (true, { s with rect := { s.rect with state := .stopping } }) := by
  have hf : firing s.rect.state = true := by rcases h with h | h <;> rw [h] <;> rfl
  rw [← rectGo_stopping hs hf]
  unfold block
  rcases h with h | h <;> rw [h]

theorem block_stopping (h : s.rect.state = .stopping) : block s = (true, s) := by
  unfold block
  rw [h]

theorem block_refused (h : firing s.rect.state = false) : block s = (false, s) := by
  unfold block
  split
  · next hs => rw [hs] at h; cases h
  · next hs => rw [hs] at h; cases h
  · next hs => rw [hs] at h; cases h
  · rfl

/-- R118: STOP_FULL in a firing state. -/
theorem stopFull_firing (hs : GatesSafe s) (h : firing s.rect.state = true) (h0 : s.rect.stopStep = 0) :
    stopFull s = (true, { s with rect := { s.rect with
      state := .stopping, stopStep := 1, window := StopWindow.cleared } }) := by
  have hgo : setStopStep 1 (rectGo .stopping s) = { s with rect := { s.rect with
      state := .stopping, stopStep := 1, window := StopWindow.cleared } } := by
    rw [rectGo_stopping hs h]
    rfl
  rw [← hgo]
  unfold stopFull
  rw [if_neg (not_not.2 h0)]
  cases hst : s.rect.state <;> simp_all [firing]

theorem stopFull_blocked (h : s.rect.state = .blocked) (h0 : s.rect.stopStep = 0) :
    stopFull s = (true, beginStep2 (cancelWait 5 s)) := by
  unfold stopFull
  rw [if_neg (not_not.2 h0), h]

theorem stopFull_refused (h : s.rect.stopStep ≠ 0 ∨ s.rect.state = .off ∨ s.rect.state = .tripped) :
    stopFull s = (false, s) := by
  unfold stopFull
  by_cases h0 : s.rect.stopStep ≠ 0
  · exact if_pos h0
  · rw [if_neg h0]
    rcases h.resolve_left h0 with h | h <;> rw [h]

/-! ## A deblock wait is cancelled (R116) -/

theorem cancelWait_none (h : s.rect.wait = .none) (cause : Nat) : cancelWait cause s = s := if_pos h

/-- R116: the report of a cancelled wait. -/
def waitCancelled (cause : Nat) (s : State) : State :=
  report .deblockCancelled .rectifier (some cause) none { s with rect := { s.rect with wait := .none } }

theorem cancelWait_waiting (h : s.rect.wait ≠ .none) (cause : Nat) : cancelWait cause s =
    if (s.dev .dcm).cmd = .toClose then askOpen .dcm .rectifier (waitCancelled cause s) else waitCancelled cause s := if_neg h

theorem cancelWait_rect (cause : Nat) (s : State) : (cancelWait cause s).rect = { s.rect with wait := .none } := by
  by_cases h : s.rect.wait = .none
  · rw [cancelWait_none h, ← h]
  · rw [cancelWait_waiting h]
    split
    · rw [askOpen_rect]
      rfl
    · rfl

@[simp] theorem cancelWait_time (cause : Nat) (s : State) : (cancelWait cause s).time = s.time :=
  (Notified.rfl.cancelWait (s := s)).time

theorem beginStep2_eq (s : State) : beginStep2 s = { s with rect := { s.rect with
    stopStep := 2, window := ⟨0, 0, 0, some (deadline s 1000)⟩ } } := rfl

/-! ## RESET_RECT (R60, R120) -/

/-- R112: a state change leaves the last trip, α and the tracker. -/
theorem rectGo_keeps (st : RectState) (s : State) : (rectGo st s).rect.lastTrip = s.rect.lastTrip ∧
    (rectGo st s).rect.alpha = s.rect.alpha ∧ (rectGo st s).rect.tracker = s.rect.tracker := by
  simp only [rectGo, State.updRect_rect]
  split <;> exact ⟨rfl, rfl, rfl⟩

/-- R60: the record of a device whose failure flag is cleared at rest in OPEN. -/
theorem clearFlagAtRest_dev (d e : Device) (s : State) : (clearFlagAtRest d s).dev e = { s.dev e with
    flag := if e = d ∧ (s.dev e).pos = .opened ∧ (s.dev e).cmd = .none then .none else (s.dev e).flag } := by
  unfold clearFlagAtRest
  by_cases he : e = d
  · subst he
    by_cases hr : openAtRest (s.dev e) = true
    · rw [if_pos hr, State.updDev_dev_same, if_pos ⟨rfl, openAtRest_iff.1 hr⟩]
    · rw [if_neg hr, if_neg fun h => hr (openAtRest_iff.2 h.2)]
  · rw [if_neg (c := e = d ∧ _) fun h => he h.1]
    split
    · rw [State.updDev_dev_ne _ _ he]
    · rfl

theorem clearFlagAtRest_frame (d : Device) (s : State) :
    clearFlagAtRest d s = { s with devs := (clearFlagAtRest d s).devs } := by
  unfold clearFlagAtRest
  split <;> rfl

/-- R120: the state in which RESET_RECT has cleared the flags of DCM and ACM. -/
def flagsCleared (s : State) : State := clearFlagAtRest .acm (clearFlagAtRest .dcm s)

theorem flagsCleared_frame (s : State) : flagsCleared s = { s with devs := (flagsCleared s).devs } := by
  unfold flagsCleared
  rw [clearFlagAtRest_frame .acm, clearFlagAtRest_frame .dcm]

theorem flagsCleared_dev (e : Device) (s : State) : (flagsCleared s).dev e = { s.dev e with
    flag := if (e = .dcm ∨ e = .acm) ∧ (s.dev e).pos = .opened ∧ (s.dev e).cmd = .none then .none
      else (s.dev e).flag } := by
  unfold flagsCleared
  rw [clearFlagAtRest_dev .acm, clearFlagAtRest_dev .dcm]
  by_cases hd : e = .dcm <;> by_cases ha : e = .acm <;> simp [hd, ha]

theorem resetRect_tripped (h : s.rect.state = .tripped) : resetRect s =
    (true, rectGo (if (s.dev .acm).pos = .closed then .blocked else .off) (flagsCleared s)) := by
  have hpos : ((flagsCleared s).dev .acm).pos = (s.dev .acm).pos := by rw [flagsCleared_dev]
  rw [← hpos]
  exact if_pos h

theorem resetRect_refused (h : s.rect.state ≠ .tripped) : resetRect s = (false, s) := if_neg h

/-! ## The windows of stop step 2 (R118) -/

/-- R118: an instant that does not fill the window. -/
theorem windowStep_short {iLim : Nat} {i : Instant} {w : StopWindow} (h : w.count + 1 < 160) :
    windowStep iLim i w = (false, ⟨w.sum + (if usable i then signed i else 0), w.usable + (if usable i then 1 else 0),
      w.count + 1, w.timerAt⟩) := by
  unfold windowStep
  rw [if_pos h]
  cases usable i <;> simp

/-- R118: a full window completes the step when it holds a usable instant and its average is low. -/
def windowQuiet (iLim : Nat) (sum : Int) (n : Nat) : Prop := 0 < n ∧ sum.tdiv n < ((iLim / 50 : Nat) : Int)

theorem windowStep_full {iLim : Nat} {i : Instant} {w : StopWindow} (h : 160 ≤ w.count + 1) : ∃ b : Bool,
    (b = true ↔ windowQuiet iLim (w.sum + (if usable i then signed i else 0)) (w.usable + (if usable i then 1 else 0))) ∧
      windowStep iLim i w = (b, ⟨0, 0, 0, w.timerAt⟩) := by
  refine ⟨decide (0 < (if usable i then w.usable + 1 else w.usable)) &&
    decide ((if usable i then w.sum + signed i else w.sum).tdiv
      ((if usable i then w.usable + 1 else w.usable : Nat) : Int) < ((iLim / 50 : Nat) : Int)), ?_, if_neg (Nat.not_lt.2 h)⟩
  unfold windowQuiet
  cases usable i <;> simp

/-- R118: missing instants that do not fill the window. -/
theorem windowSteps_missing {iLim : Nat} {l : List Instant} (n : Nat) {w : StopWindow} (h : w.count + n < 160) :
    windowSteps iLim (List.replicate n missingInstant ++ l) w =
      windowSteps iLim l ⟨w.sum, w.usable, w.count + n, w.timerAt⟩ := by
  induction n generalizing w with
  | zero => rfl
  | succ n ih =>
    have hstep : windowStep iLim missingInstant w = (false, ⟨w.sum, w.usable, w.count + 1, w.timerAt⟩) := by
      rw [windowStep_short (by omega)]
      simp [usable, missingInstant]
    rw [List.replicate_succ, List.cons_append, windowSteps, hstep]
    show windowSteps iLim _ _ = _
    rw [ih (by show w.count + 1 + n < 160; omega)]
    show windowSteps iLim l ⟨w.sum, w.usable, w.count + 1 + n, w.timerAt⟩ = _
    rw [Nat.add_assoc, Nat.add_comm 1 n]

/-- R118: a full window completes the step, or the instants that are left go into a new one. -/
theorem windowSteps_full {iLim : Nat} {i : Instant} {l : List Instant} {w : StopWindow} (h : 160 ≤ w.count + 1) :
    let sum := w.sum + (if usable i then signed i else 0)
    let n := w.usable + (if usable i then 1 else 0)
    (windowQuiet iLim sum n → (windowSteps iLim (i :: l) w).1 = true) ∧
      (¬ windowQuiet iLim sum n → windowSteps iLim (i :: l) w = windowSteps iLim l ⟨0, 0, 0, w.timerAt⟩) := by
  obtain ⟨b, hb, hstep⟩ := windowStep_full (iLim := iLim) (i := i) h
  rw [windowSteps, hstep]
  cases b with
  | true => exact ⟨fun _ => rfl, fun hn => absurd (hb.1 rfl) hn⟩
  | false => exact ⟨fun hq => absurd (hb.2 hq) nofun, fun _ => rfl⟩

/-- R118: the windows of an arrival: whether the step completes, and the window after it. -/
theorem windowSteps_arrival {iLim : Nat} {w : StopWindow} (hw : w.count < 160) (hm : k.missing < 160) :
    let own : Int := if usable k.own then signed k.own else 0
    let one : Nat := if usable k.own then 1 else 0
    let result := windowSteps iLim (copyInstants k) w
    (w.count + 1 + k.missing < 160 →
      result = (false, ⟨w.sum + own, w.usable + one, w.count + 1 + k.missing, w.timerAt⟩)) ∧
    (w.count + 1 + k.missing = 160 → windowQuiet iLim (w.sum + own) (w.usable + one) → result.1 = true) ∧
    (w.count + 1 + k.missing = 160 → ¬ windowQuiet iLim (w.sum + own) (w.usable + one) →
      result = (false, ⟨0, 0, 0, w.timerAt⟩)) ∧
    (160 ≤ w.count + k.missing → windowQuiet iLim w.sum w.usable → result.1 = true) ∧
    (160 ≤ w.count + k.missing → ¬ windowQuiet iLim w.sum w.usable →
      result = (false, ⟨own, one, w.count + 1 + k.missing - 160, w.timerAt⟩)) := by
  intro own one result
  have hlast {v : StopWindow} (hv : v.count + 1 < 160) : windowSteps iLim [k.own] v =
      (false, ⟨v.sum + own, v.usable + one, v.count + 1, v.timerAt⟩) := by
    rw [windowSteps, windowStep_short hv]
    rfl
  have hfits (h : w.count + k.missing < 160) :
      result = windowSteps iLim [k.own] ⟨w.sum, w.usable, w.count + k.missing, w.timerAt⟩ := windowSteps_missing _ h
  refine ⟨fun h => ?short, fun h hq => ?completes, fun h hq => ?renewed, fun h hq => ?early, fun h hq => ?left⟩
  case short =>
    rw [hfits (by omega), hlast (by show w.count + k.missing + 1 < 160; omega)]
    simp only [Nat.add_right_comm]
  case completes =>
    rw [hfits (by omega)]
    exact (windowSteps_full (by show 160 ≤ w.count + k.missing + 1; omega)).1 hq
  case renewed =>
    rw [hfits (by omega)]
    exact (windowSteps_full (by show 160 ≤ w.count + k.missing + 1; omega)).2 hq
  all_goals
    obtain ⟨rest, hrest⟩ : ∃ rest, k.missing = 159 - w.count + (rest + 1) :=
      ⟨k.missing - (160 - w.count), by omega⟩
    have hsplit : copyInstants k = List.replicate (159 - w.count) missingInstant ++
        missingInstant :: (List.replicate rest missingInstant ++ [k.own]) := by
      rw [copyInstants, hrest, List.replicate_add, List.append_assoc, List.replicate_succ, List.cons_append]
    have hreaches : result = windowSteps iLim (missingInstant :: (List.replicate rest missingInstant ++ [k.own]))
        ⟨w.sum, w.usable, w.count + (159 - w.count), w.timerAt⟩ := by
      show windowSteps iLim (copyInstants k) w = _
      rw [hsplit]
      exact windowSteps_missing _ (by omega)
    obtain ⟨hquiet, hmore⟩ := windowSteps_full (iLim := iLim) (i := missingInstant)
      (l := List.replicate rest missingInstant ++ [k.own])
      (w := ⟨w.sum, w.usable, w.count + (159 - w.count), w.timerAt⟩) (by show 160 ≤ w.count + (159 - w.count) + 1; omega)
    rw [if_neg (by decide), if_neg (by decide), Int.add_zero, Nat.add_zero] at hquiet hmore
    rw [hreaches]
  case early => exact hquiet hq
  case left =>
    rw [hmore hq, windowSteps_missing rest (by show 0 + rest < 160; omega),
      hlast (by show 0 + rest + 1 < 160; omega), Int.zero_add, Nat.zero_add, Nat.zero_add]
    have hcount : rest + 1 = w.count + 1 + k.missing - 160 := by omega
    rw [hcount]

/-! ## Stop step 2 at the rectifier (R118, R119) -/

/-- R118: the usable own value joins the cycle's sums. -/
def currentSums (i : Instant) (c : CycleSums) : CycleSums :=
  if usable i then { c with curSum := c.curSum + BitVec.ofInt 32 (signed i), curCount := c.curCount + 1 } else c

theorem addCurrent_eq (i : Instant) (s : State) :
    addCurrent i s = { s with rect := { s.rect with sums := currentSums i s.rect.sums } } := by
  unfold addCurrent currentSums
  split <;> rfl

/-- R118: outside the firing states an arrival on the VALID current channel is summed, and taken by the stop. -/
theorem takeCurrentCopy_blocked (hs : s.rect.settings = some r) (hc : r.curChan = k.chan) (hb : s.rect.state = .blocked)
    (hv : k.after = .valid) : takeCurrentCopy k s =
      stopArrival r k { s with rect := { s.rect with sums := currentSums k.own s.rect.sums } } := by
  have hover : overcurrent r k s = s := if_neg (by rw [hb]; decide)
  unfold takeCurrentCopy
  rw [hs]
  dsimp only
  rw [if_pos hc, if_pos hv, hover, addCurrent_eq]

theorem stopArrival_on (h2 : s.rect.stopStep = 2) {w : StopWindow}
    (hw : windowSteps r.iLim (copyInstants k) s.rect.window = (false, w)) :
    stopArrival r k s = { s with rect := { s.rect with window := w } } := by
  unfold stopArrival
  rw [if_pos h2, hw]
  rfl

theorem stopArrival_done (h2 : s.rect.stopStep = 2) (hw : (windowSteps r.iLim (copyInstants k) s.rect.window).1 = true) :
    stopArrival r k s = beginBreakerStep 3 .dcm s := by
  unfold stopArrival
  rw [if_pos h2]
  exact if_pos hw

/-- R119: a failed step trips a rectifier outside OFF and TRIPPED with its number. -/
theorem stopFailed_rect (ho : s.rect.state ≠ .off) (ht : s.rect.state ≠ .tripped) : (stopFailed s).rect =
    { (rectGo .tripped s).rect with
      stopStep := 0, window := StopWindow.cleared, wait := .none,
      lastTrip := some (.stopIncomplete, (s.rect.stopStep : Int)) } := by
  rw [show stopFailed s = rectTrip .stopIncomplete s.rect.stopStep s from if_neg ho, rectTrip_rect ho ht]

/-- R119: what a failed step leaves of a rectifier that is not in OFF or TRIPPED. -/
theorem stopFailed_trips (ho : s.rect.state ≠ .off) (ht : s.rect.state ≠ .tripped) :
    (stopFailed s).rect.state = .tripped ∧ (stopFailed s).rect.stopStep = 0 ∧ (stopFailed s).rect.wait = .none ∧
      (stopFailed s).rect.lastTrip = some (.stopIncomplete, (s.rect.stopStep : Int)) := by
  rw [stopFailed_rect ho ht]
  exact ⟨rectGo_state .tripped s, rfl, rfl, rfl⟩

/-- R123: a trip counts as one. -/
theorem stopFailed_trips_counted (ho : s.rect.state ≠ .off) (ht : s.rect.state ≠ .tripped) :
    (stopFailed s).reports.occurred[0] = bump s.reports.occurred[0] := by
  rw [show stopFailed s = rectTrip .stopIncomplete s.rect.stopStep s from if_neg ho]
  unfold rectTrip
  split
  · next h => exact absurd h ho
  · next h => exact absurd h ht
  · dsimp only
    rw [if_neg (by decide), submit_occurred]
    exact (Vector.getElem_set_self _).trans (congrArg bump (trigger_trips ..))

/-- R119: step 3 asks an assigned DCM to open. -/
theorem beginBreakerStep_taken {n : Nat} {d : Device} (ha : (s.dev d).addr ≠ none) :
    beginBreakerStep n d s = askOpen d .rectifier (setStopStep n s) :=
  if_pos (requestOpen_taken (s := setStopStep n s) ha .rectifier)

/-- R119: a step whose breaker is not assigned fails. -/
theorem beginBreakerStep_refused {n : Nat} {d : Device} (ha : (s.dev d).addr = none) :
    beginBreakerStep n d s = stopFailed (setStopStep n s) := by
  unfold beginBreakerStep
  rw [show requestOpen d .rectifier (setStopStep n s) = (false, setStopStep n s) from if_pos ha]
  rfl

theorem currentTakes_settled (hs : Settled s) {rest : List Copy} (hk : s.rect.curIn = k :: rest) :
    exec .rectCurrentArrival s = .next (takeCurrentCopy k { s with rect := { s.rect with curIn := rest } }) := by
  refine next_eq ?_
  unfold currentTakes
  rw [hk]
  dsimp only
  have hsteady : Steady ∅ s (takeCurrentCopy k { s with rect := { s.rect with curIn := rest } }) :=
    Steady.takeCurrentCopy (Steady.rfl.updRect (g := fun r => { r with curIn := rest }))
  exact finish_of_settled (hsteady.target.trans hs)

/-- R118: an arrival that takes the current channel out of VALID fails stop step 2. -/
theorem takeCurrentCopy_lost (hs : s.rect.settings = some r) (hc : r.curChan = k.chan) (hb : s.rect.state = .blocked)
    (h2 : s.rect.stopStep = 2) (hbefore : k.before = .valid) (hv : k.after ≠ .valid) :
    takeCurrentCopy k s = { stopFailed s with rect := { (stopFailed s).rect with
      sums := currentSums k.own (stopFailed s).rect.sums } } := by
  obtain ⟨hstate, hstep, _⟩ := stopFailed_trips (s := s) (by rw [hb]; nofun) (by rw [hb]; nofun)
  have hlost : currentLost k.chan (k.before = .valid) s = stopFailed s := by
    unfold currentLost
    rw [if_neg (by rw [hb]; decide), if_pos (by simp [h2, hbefore])]
  have hover : overcurrent r k (stopFailed s) = stopFailed s := if_neg (by rw [hstate]; decide)
  unfold takeCurrentCopy
  rw [hs]
  dsimp only
  rw [if_pos hc, if_neg hv, hlost, hover, addCurrent_eq]
  exact if_neg (by show (stopFailed s).rect.stopStep ≠ 2; rw [hstep]; decide)

/-- R127: a tracker whose channel is lost leaves a rectifier that is BLOCKED in its stop. -/
theorem trackerChannelLost_blocked (hb : s.rect.state = .blocked) :
    (trackerChannelLost s).rect.state = .blocked ∧ (trackerChannelLost s).rect.stopStep = s.rect.stopStep := by
  unfold trackerChannelLost trackerTo
  dsimp only
  split
  · rw [leftLocked, if_neg (by show ¬ firing s.rect.state = true; rw [hb]; decide), cancelWait_rect]
    exact ⟨hb, rfl⟩
  · exact ⟨hb, rfl⟩

end Sys2Proof.Machine

namespace Sys2Proof.Proofs
open Sys2Proof.Machine

/-- Settles O55: the requests on the state after their frame; the arrivals by the windows that they come to. -/
theorem stopAndReset : Obligations.StopAndReset := by
  refine ⟨fun src tag s hm hgates => ?requests, fun k rest r s hs hk hr hc h2 hb hbefore hv => ?lost,
    fun n r s hr ho hn hc h2 hb => ?notice, fun k rest r s hs hk hr hc h2 hb hv hw hmiss => ?windows,
    fun d s hs h2 hd ho ht => ?timer, fun src tag s hm => ⟨fun h => ?refused, fun h => ?reset⟩⟩
  case requests =>
    intro g
    have hrect : g.rect = s.rect := goodFrame_rect s
    have hdcm : g.dev .dcm = s.dev .dcm := congrArg (fun p : PerDevice DevRecord => p.get .dcm) (goodFrame_devs s)
    have hsafe : GatesSafe g := gatesSafe_of_rect hrect hgates
    have hblock : exec (.block src tag 9 []) s = .next (placeReply src tag (doneOrState g (block g))) :=
      next_eq (operateRect_answered hm tag 6)
    have hstop : exec (.stopFull src tag 9 []) s = .next (placeReply src tag (doneOrState g (stopFull g))) :=
      next_eq (operateRect_answered hm tag 7)
    have hdeadline : deadline g 1000 = s.time.now + 1000 * Config.unitsPerMs := by rw [deadline, goodFrame_time]
    rw [← hrect, hblock, hstop, ← hdeadline]
    refine ⟨fun h => ?stops, fun h => ?stopping, fun h => ?refusedBlock, fun h h0 => ?fires, fun h h0 hw => ?blocked,
      fun h h0 hw => ?waiting, fun h => ?refusedStop⟩
    case stops => rw [block_stops hsafe h, doneOrState_taken rfl]
    case stopping => rw [block_stopping h, doneOrState_taken rfl]
    case refusedBlock => rw [block_refused h, doneOrState_refused rfl]
    case fires =>
      rw [stopFull_firing hsafe h h0, doneOrState_taken rfl]
      rfl
    case blocked =>
      rw [stopFull_blocked h h0, doneOrState_taken rfl, cancelWait_none hw]
      rfl
    case waiting =>
      rw [stopFull_blocked h h0, doneOrState_taken rfl]
      have hcancel := cancelWait_waiting hw 5
      refine ⟨_, rfl, ?_, fun hc => ?_, fun hc ha => ?_⟩
      · show (beginStep2 (cancelWait 5 g)).rect = _
        rw [beginStep2_eq, cancelWait_rect, deadline, cancelWait_time]
        rfl
      · rw [if_neg (by rw [← hdcm] at hc; exact hc)] at hcancel
        show (cancelWait 5 g).devs = s.devs ∧ (cancelWait 5 g).reports = _
        rw [hcancel]
        exact ⟨goodFrame_devs s, rfl⟩
      · rw [if_pos (by rw [hdcm]; exact hc)] at hcancel
        show ((cancelWait 5 g).dev .dcm).cmd = .toOpen
        rw [hcancel]
        exact askOpen_cmd (s := waitCancelled 5 g) (by show (g.dev .dcm).addr ≠ none; rw [hdcm]; exact ha) .rectifier
    case refusedStop => rw [stopFull_refused h, doneOrState_refused rfl]
  case lost =>
    have hlost := takeCurrentCopy_lost (s := { s with rect := { s.rect with curIn := rest } }) hr hc hb h2 hbefore hv
    obtain ⟨hstate, hstep, hwait, htrip⟩ := stopFailed_trips (s := { s with rect := { s.rect with curIn := rest } })
      (by rw [hb]; nofun) (by rw [hb]; nofun)
    refine ⟨_, currentTakes_settled hs hk, ?_⟩
    rw [hlost]
    refine ⟨hstate, hstep, hwait, htrip.trans ?_⟩
    rw [h2]
    rfl
  case notice =>
    intro u
    have hu : u = rectStateNotice n s := rfl
    rw [rectStateNotice_left hr ⟨ho, hn⟩] at hu
    dsimp only at hu
    have htracked : (if r.uabChan = n.chan then trackerChannelLost s else s).rect.state = .blocked ∧
        (if r.uabChan = n.chan then trackerChannelLost s else s).rect.stopStep = 2 := by
      split
      · exact ⟨(trackerChannelLost_blocked hb).1, (trackerChannelLost_blocked hb).2.trans h2⟩
      · exact ⟨hb, h2⟩
    generalize (if r.uabChan = n.chan then trackerChannelLost s else s) = v at hu htracked
    obtain ⟨hvb, hv2⟩ := htracked
    have hlost : currentLost n.chan true v = stopFailed v := by
      unfold currentLost
      rw [if_neg (by rw [hvb]; decide), if_pos (by simp [hv2])]
    have htrips := stopFailed_trips (s := v) (by rw [hvb]; nofun) (by rw [hvb]; nofun)
    rw [hv2] at htrips
    rw [hu, if_pos hc, hlost]
    exact htrips
  case windows =>
    intro w own one sums quiet go on done
    obtain ⟨hshort, hcompletes, hrenewed, hearly, hleft⟩ := windowSteps_arrival (iLim := r.iLim) hw hmiss
    generalize hv' : ({ s with rect := { s.rect with curIn := rest, sums := sums } } : State) = v
    have htaken : go = .next (stopArrival r k v) := by
      rw [← hv']
      exact (currentTakes_settled hs hk).trans (next_eq (takeCurrentCopy_blocked hr hc hb hv))
    have hv2 : v.rect.stopStep = 2 := by rw [← hv']; exact h2
    have hvw : v.rect.window = w := by rw [← hv']
    have hgoes {w' : StopWindow} (h : windowSteps r.iLim (copyInstants k) w = (false, w')) : go = .next (on w') := by
      rw [htaken, stopArrival_on hv2 (by rw [hvw]; exact h), ← hv']
    have hends (h : (windowSteps r.iLim (copyInstants k) w).1 = true) : done := by
      refine ⟨_, htaken, ?_⟩
      rw [stopArrival_done hv2 (by rw [hvw]; exact h)]
      have hstep : (setStopStep 3 v).rect.state = .blocked := by rw [← hv']; exact hb
      have hsums : (setStopStep 3 v).rect.sums = sums := by rw [← hv']; rfl
      have hdcm : v.dev .dcm = s.dev .dcm := by rw [← hv']; rfl
      by_cases ha : (s.dev .dcm).addr = none
      · rw [beginBreakerStep_refused (by rw [hdcm]; exact ha)]
        obtain ⟨htrips, _, _, htrip⟩ := stopFailed_trips (s := setStopStep 3 v) (by rw [hstep]; nofun) (by rw [hstep]; nofun)
        refine ⟨?_, fun h => absurd ha h, fun _ => ⟨htrips, htrip⟩⟩
        rw [stopFailed_rect (by rw [hstep]; nofun) (by rw [hstep]; nofun)]
        exact hsums
      · rw [beginBreakerStep_taken (by rw [hdcm]; exact ha), askOpen_rect]
        exact ⟨hsums, fun _ => ⟨rfl, hstep, askOpen_cmd (s := setStopStep 3 v)
          (by show (v.dev .dcm).addr ≠ none; rw [hdcm]; exact ha) .rectifier⟩, fun h => absurd h ha⟩
    exact ⟨fun h => hgoes (hshort h), fun h hq => hends (hcompletes h hq), fun h hq => hgoes (hrenewed h hq),
      fun h hq => hends (hearly h hq), fun h hq => hgoes (hleft h hq)⟩
  case timer =>
    have hrect : (advanceTo d s).rect = s.rect := advanceTo_rect d s
    have hfail : exec .stopStepTimerExpiry s = .next (stopFailed (advanceTo d s)) := by
      refine next_eq ?_
      rw [if_pos h2, hd, whenExpired_some]
      have hsteady : Steady ∅ (advanceTo d s) (stopFailed (advanceTo d s)) := Steady.rfl.stopFailed
      exact finish_of_settled (hsteady.target.trans (advanceTo_settled d hs))
    have hadv : (advanceTo d s).rect.state ≠ .off ∧ (advanceTo d s).rect.state ≠ .tripped := by
      rw [hrect]
      exact ⟨ho, ht⟩
    obtain ⟨hstate, hstep, hwait, htrip⟩ := stopFailed_trips hadv.1 hadv.2
    have hcount := stopFailed_trips_counted hadv.1 hadv.2
    rw [hrect, h2] at htrip
    rw [advanceTo_reports] at hcount
    refine ⟨_, hfail, hstate, hstep, hwait, htrip, ?_, (stopFailed_devs _).trans (advanceTo_devs d s), hcount⟩
    rw [stopFailed_rect hadv.1 hadv.2]
    exact rectGo_gateEn ..
  case refused =>
    rw [← goodFrame_rect] at h
    have hreset : exec (.resetRect src tag 9 []) s =
        .next (placeReply src tag (doneOrState (goodFrame s) (resetRect (goodFrame s)))) :=
      next_eq (operateRect_answered hm tag 8)
    rw [hreset, resetRect_refused h, doneOrState_refused rfl]
  case reset =>
    rw [← goodFrame_rect] at h
    have hreset : exec (.resetRect src tag 9 []) s =
        .next (placeReply src tag (doneOrState (goodFrame s) (resetRect (goodFrame s)))) :=
      next_eq (operateRect_answered hm tag 8)
    have hdev (e : Device) : (goodFrame s).dev e = s.dev e :=
      congrArg (fun p : PerDevice DevRecord => p.get e) (goodFrame_devs s)
    have hrect : (flagsCleared (goodFrame s)).rect = s.rect := by
      rw [flagsCleared_frame]
      exact goodFrame_rect s
    have hreports : (flagsCleared (goodFrame s)).reports = (goodFrame s).reports := by rw [flagsCleared_frame]
    have hflag (e : Device) := congrArg DevRecord.flag (flagsCleared_dev e (goodFrame s))
    rw [resetRect_tripped h, doneOrState_taken rfl, hdev] at hreset
    simp only [hdev] at hflag
    generalize flagsCleared (goodFrame s) = u at hreset hrect hreports hflag
    obtain ⟨htrip, halpha, htracker⟩ := rectGo_keeps (if (s.dev .acm).pos = .closed then .blocked else .off) u
    rw [hrect] at htrip halpha htracker
    refine ⟨_, hreset, rectGo_state .., (rectGo_gateEn ..).trans ?_, htrip, halpha, htracker, hflag, hreports⟩
    split <;> rfl

end Sys2Proof.Proofs
end

section
set_option Elab.async false

/-! SUPPORT. A POSITION frame that names one record, with no switch-over pending: the change, its notice and its guard,
and then the command that it completes (R45, R46, R51). -/

namespace Sys2Proof.Machine
variable {s g t : State} {d : Device} {f : Fin 8} {old new : Position}

/-! ## The record after a frame -/

theorem PerDevice.set_set {α : Type} (p : PerDevice α) (d : Device) (x y : α) : (p.set d x).set d y = p.set d y := by
  refine PerDevice.ext_get fun e => ?_
  by_cases he : e = d
  · rw [he, PerDevice.get_set_same, PerDevice.get_set_same]
  · rw [PerDevice.get_set_ne _ _ he, PerDevice.get_set_ne _ _ he, PerDevice.get_set_ne _ _ he]

/-- Two changes of one record are one. -/
theorem updDev_updDev (d : Device) (h k : DevRecord → DevRecord) (s : State) :
    (s.updDev d h).updDev d k = s.updDev d fun r => k (h r) := by
  simp only [State.updDev, PerDevice.get_set_same, PerDevice.set_set]

/-- A change of a record is what it makes of the record. -/
theorem updDev_congr {h k : DevRecord → DevRecord} (e : h (s.dev d) = k (s.dev d)) : s.updDev d h = s.updDev d k :=
  congrArg (fun r => ({ s with devs := s.devs.set d r } : State)) e

/-- R184: what a good frame that is relayed leaves alone. -/
def AfterFrame (s g : State) : Prop := g = { s with ring := g.ring, reports := g.reports }

theorem afterFrame_relayed (fr : Frame) (s : State) : AfterFrame s ((goodFrame s).updRing (joinRelay fr)) := by
  unfold AfterFrame
  rw [goodFrame_eq]
  rfl

namespace AfterFrame
variable (h : AfterFrame s g)
include h

theorem dev (e : Device) : g.dev e = s.dev e := by rw [h]; rfl
theorem seq (f : Fin 8) : g.seq f = s.seq f := by rw [h]; rfl
theorem ev (f : Fin 8) : g.ev f = s.ev f := by rw [h]; rfl
theorem evs : g.evs = s.evs := by rw [h]
theorem rect : g.rect = s.rect := by rw [h]
theorem line : g.line = s.line := by rw [h]
theorem time : g.time = s.time := by rw [h]
theorem banks : g.banks = s.banks := by rw [h]
theorem settled (hs : Settled s) : Settled g := by rw [h]; exact hs

end AfterFrame

/-- R45, R46: the record after a frame that gives a position. -/
def placedRecord (new : Position) (at_ : Nat) (r : DevRecord) : DevRecord := { r with pos := new, ageAt := some at_ }

/-- R45, R46: the state with the record's new position, before the owner is told. -/
def placed (d : Device) (new : Position) (g : State) : State := g.updDev d (placedRecord new (deadline g 50))

theorem placed_dev (d : Device) (new : Position) (g : State) :
    (placed d new g).dev d = placedRecord new (deadline g 50) (g.dev d) := State.updDev_dev_same ..

theorem placed_other {e : Device} (he : e ≠ d) : (placed d new g).dev e = g.dev e := State.updDev_dev_ne _ _ he

/-- R46: a change of position, its report, its notice and its guard. -/
def changed (d : Device) (new : Position) (g : State) : State :=
  guardPosition d (placed d new g) (giveNotice d (g.dev d).pos new (uncommanded (g.dev d) new)
    (positionReport d (g.dev d) new (placed d new g)))

/-- R45, R46: what a frame comes to before the command checks. -/
def positioned (d : Device) (new : Position) (g : State) : State :=
  if (g.dev d).pos = new then placed d new g else changed d new g

theorem positioned_notified (d : Device) (new : Position) (g : State) :
    Notified (placed d new g) (positioned d new g) := by
  have hreport : Notified (placed d new g) (positionReport d (g.dev d) new (placed d new g)) :=
    Notified.of_devs (positionReport_devs ..) (by rw [positionReport_eq])
  exact .ite .rfl hreport.giveNotice.guardPosition

/-- R46: with no switch-over pending a change is made without a look at the safe points. -/
theorem changePosition_settled (hs : Settled g) : changePosition d new g =
    guardPosition d (g.updDev d fun r => { r with pos := new }) (giveNotice d (g.dev d).pos new
      (uncommanded (g.dev d) new) (positionReport d (g.dev d) new (g.updDev d fun r => { r with pos := new }))) := by
  have hreport : Notified (g.updDev d fun r => { r with pos := new })
      (positionReport d (g.dev d) new (g.updDev d fun r => { r with pos := new })) :=
    Notified.of_devs (positionReport_devs ..) (by rw [positionReport_eq])
  have hreported : Settled (positionReport d (g.dev d) new (g.updDev d fun r => { r with pos := new })) := by
    unfold Settled
    rw [hreport.banks]
    exact hs
  unfold changePosition
  dsimp only
  rw [ownerNotice_settled hreported]
  exact finish_of_settled ((congrArg BankStore.target hreport.giveNotice.guardPosition.banks).trans hs)

/-- R45, R46, R51, R52: a frame, with no switch-over pending. -/
theorem matchPosition_settled (hs : Settled g) (d : Device) (new : Position) :
    matchPosition new d g = commandChecks d (positioned d new g) := by
  have hfresh : (g.updDev d fun r => { r with ageAt := some (deadline g 50) }).dev d =
      { g.dev d with ageAt := some (deadline g 50) } := State.updDev_dev_same ..
  unfold matchPosition positioned
  dsimp only
  split
  · next hpos =>
    refine congrArg (commandChecks d) (updDev_congr ?_)
    rw [placedRecord, ← hpos]
  · have hplaced : (g.updDev d fun r => { r with ageAt := some (deadline g 50) }).updDev d
        (fun r => { r with pos := new }) = placed d new g := updDev_updDev ..
    rw [changePosition_settled (g := g.updDev d _) hs, hplaced, hfresh]
    rfl

/-- R45, R184: a frame that names one record, with no switch-over pending. -/
theorem positionFrame_one {fr : Frame} {el po : Byte} (hd : fr.dst = 0xFF) (ht : fr.type = 2) (hsrc : fr.src ≠ s.ring.own)
    (hs : Settled s) (hp : fr.payload = [el, po]) (hel : el.toNat ≤ 1) (hpo : framePosition po = some new)
    (ha : (s.dev d).addr = some (fr.src, el)) (ho : ∀ e, e ≠ d → (s.dev e).addr ≠ some (fr.src, el)) :
    exec (.positionFrame fr) s =
      .next (commandChecks d (positioned d new ((goodFrame s).updRing (joinRelay fr)))) := by
  have hg := afterFrame_relayed fr s
  rw [positionFrame_settled hd ht hsrc hs]
  refine next_eq ?_
  rw [takePosition_one hp hel hpo (by rw [hg.dev]; exact ha) fun e he => by rw [hg.dev]; exact ho e he]
  exact matchPosition_settled (hg.settled hs) d new

/-! ## A command that a frame completes (R51, R54) -/

/-- R51: the record of a completed command. -/
def completedRecord (r : DevRecord) : DevRecord :=
  { r with
    cmd := .none, requester := none, cmdTimer := none, cmdStart := none, repeatAt := none,
    flag := if r.flag = .closeFail then .none else r.flag }

/-- R51: a command is ended, and its COMMAND frame withdrawn. -/
def commandEnded (d : Device) (v : State) : State :=
  (v.updDev d completedRecord).updRing fun p => { p with claims := p.claims.set d none }

/-- R54: a completed OPEN that had failed is reported. -/
def lateReported (d : Device) (v : State) : State :=
  if (v.dev d).cmd = .toOpen ∧ (v.dev d).flag = .openFail then
    breakerReport .openedLate d (sinceStart (v.dev d) v) (commandEnded d v)
  else commandEnded d v

theorem completeCommand_eq (d : Device) (v : State) :
    completeCommand d v = tellCompleted d (v.dev d).cmd (lateReported d v) := by
  have hended : (endCommand d v).updDev d (fun x => { x with flag := if x.flag = .closeFail then .none else x.flag }) =
      commandEnded d v := by
    refine (congrArg (fun u : State => u.updRing fun p => { p with claims := p.claims.set d none })
      (updDev_updDev d (fun r => { r with
        cmd := .none, requester := none, cmdTimer := none, cmdStart := none, repeatAt := none })
        (fun x => { x with flag := if x.flag = .closeFail then .none else x.flag }) v))
  unfold completeCommand lateReported
  dsimp only
  rw [hended]
  simp only [Bool.and_eq_true, decide_eq_true_eq]

/-- R51: a frame that gives the commanded position completes the command. -/
theorem commandChecks_completes {v : State} (h : ((v.dev d).cmd = .toOpen ∧ (v.dev d).pos = .opened) ∨
    ((v.dev d).cmd = .toClose ∧ (v.dev d).pos = .closed)) :
    commandChecks d v = tellCompleted d (v.dev d).cmd (lateReported d v) := by
  rw [← completeCommand_eq]
  unfold commandChecks
  rcases h with ⟨hc, hp⟩ | ⟨hc, hp⟩ <;> simp only [hc, hp]

/-- R51: with no command outstanding there is nothing to check. -/
theorem commandChecks_idle {v : State} (h : (v.dev d).cmd = .none) : commandChecks d v = v := by
  unfold commandChecks
  simp only [h]

/-- R51, R52: a command that is not completed, and whose position is not FAULTY, goes on. -/
theorem commandChecks_goesOn {v : State} (h : (v.dev d).cmd = .toOpen ∧ (v.dev d).pos ≠ .opened ∨
    (v.dev d).cmd = .toClose ∧ (v.dev d).pos ≠ .closed) (hf : (v.dev d).pos ≠ .faulty) : commandChecks d v = v := by
  unfold commandChecks
  rcases h with ⟨hc, hp⟩ | ⟨hc, hp⟩
  · simp only [hc]
    split <;> simp_all
  · simp only [hc]
    split <;> simp_all

theorem commandEnded_dev (d : Device) (v : State) : (commandEnded d v).dev d = completedRecord (v.dev d) :=
  State.updDev_dev_same ..

theorem commandEnded_other {e : Device} {v : State} (he : e ≠ d) : (commandEnded d v).dev e = v.dev e :=
  State.updDev_dev_ne _ _ he

/-- R54: the report of a late completion touches nothing but the reports. -/
theorem lateReported_frame (d : Device) (v : State) :
    lateReported d v = { commandEnded d v with reports := (lateReported d v).reports } := by
  unfold lateReported
  split <;> rfl

theorem lateReported_close {v : State} (h : (v.dev d).cmd = .toClose) : lateReported d v = commandEnded d v :=
  if_neg fun hc => by rw [h] at hc; cases hc.1

/-- R54: the late report of an OPEN, with the time since its start. -/
theorem lateReported_open {v : State} {start : Nat} (h : (v.dev d).cmd = .toOpen) (hs : (v.dev d).cmdStart = some start) :
    lateReported d v = if (v.dev d).flag = .openFail then
      report .openedLate (deviceSource d) (some (deviceCause d))
        (some (min (v.time.now / Config.unitsPerMs - start) 65535 : Nat)) (commandEnded d v)
      else commandEnded d v := by
  unfold lateReported breakerReport sinceStart sat16 nowMs
  simp only [h, hs, true_and, Option.getD_some]

end Sys2Proof.Machine
end

section
set_option Elab.async false

/-! SUPPORT. The frames that complete a command, device by device, and the CLOSING entry checks (R51, R89 to R102, R116,
R119). -/

namespace Sys2Proof.Machine
variable {s g t v : State} {d : Device} {f : Fin 8} {old new : Position}

/-! ## What a frame under a command reports (R46) -/

/-- R46: under a command a change that is not to FAULTY is not reported, and carries no mark. -/
theorem positionReport_commanded {r : DevRecord} (hc : r.cmd ≠ .none) (hn : new ≠ .faulty) (s : State) :
    positionReport d r new s = s := by
  unfold positionReport
  rw [if_neg hn]
  simp [noCommand, hc]

theorem uncommanded_commanded {r : DevRecord} (hc : r.cmd ≠ .none) : uncommanded r new = false := by
  unfold uncommanded
  simp [noCommand, hc]

/-- R46: under a command a change that is not to FAULTY is the notice and the guard. -/
theorem changed_commanded (hc : (g.dev d).cmd ≠ .none) (hn : new ≠ .faulty) : changed d new g =
    guardPosition d (placed d new g) (giveNotice d (g.dev d).pos new false (placed d new g)) := by
  unfold changed
  rw [positionReport_commanded hc hn, uncommanded_commanded hc]

/-! ## Main breakers -/

/-- R24: an evaluator's notice touches the evaluator and the reports. -/
theorem evaluatorNotice_frame (f : Fin 8) (new : Position) (s : State) : evaluatorNotice f new s =
    { s with evs := (evaluatorNotice f new s).evs, reports := (evaluatorNotice f new s).reports } := by
  have hsettled (u : State) : settle f u = { u with evs := (settle f u).evs, reports := (settle f u).reports } :=
    Notified.settle_frame f u
  unfold evaluatorNotice
  dsimp only
  split
  · split
    · rw [hsettled]
      rfl
    · rfl
  · split <;> rfl
  · split <;> rfl
  · split
    · rw [hsettled]
      rfl
    · rfl
  · rfl

theorem settle_other {e : Fin 8} (he : e ≠ f) (s : State) : (settle f s).ev e = s.ev e := by
  have hsettled (st : EvState) : (s.updEv f fun x => { x.clearElements with state := st }).ev e = s.ev e :=
    State.updEv_ev_ne _ _ he
  unfold settle
  dsimp only
  split <;> exact hsettled _

theorem evaluatorNotice_other {e : Fin 8} (he : e ≠ f) (new : Position) (s : State) :
    (evaluatorNotice f new s).ev e = s.ev e := by
  have hviewed (h : Evaluator → Evaluator) (u : State) : (u.updEv f h).ev e = u.ev e := State.updEv_ev_ne _ _ he
  unfold evaluatorNotice
  dsimp only
  split
  · split
    · rw [settle_other he, hviewed]
    · exact hviewed _ _
  · split
    · rw [hviewed, hviewed]
    · exact hviewed _ _
  · split
    · rw [hviewed, hviewed]
    · exact hviewed _ _
  · split
    · rw [settle_other he, hviewed, hviewed]
    · exact hviewed _ _
  · exact hviewed _ _

/-- R101: in CLOSING the sequence makes nothing of its main breaker's notice but of OPEN. -/
theorem mainNotice_closing {mark : Bool} (h : (s.seq f).state = .closing) (hn : new ≠ .opened) :
    mainNotice f old new mark s = s := by
  unfold mainNotice
  simp only [h]
  exact if_neg (by simp [hn])

/-- R57: with the test contactor at rest in OPEN a main breaker's change calls for no guard. -/
theorem guardPosition_main_rest {changed : State} (h : openAtRest (changed.dev (.ft f)) = true) (s : State) :
    guardPosition (.fm f) changed s = s := by
  obtain ⟨hpos, hcmd⟩ := openAtRest_iff.1 h
  exact if_neg (by simp [testExposed, hpos, hcmd])

/-- R46, R101: the frame that gives a closing main breaker a position other than OPEN tells its evaluator alone. -/
theorem positioned_main_closing (hc : (g.dev (.fm f)).cmd ≠ .none) (hn : new ≠ .faulty) (ho : new ≠ .opened)
    (hrest : openAtRest (g.dev (.ft f)) = true) (hq : (g.seq f).state = .closing) : positioned (.fm f) new g =
      if (g.dev (.fm f)).pos = new then placed (.fm f) new g else evaluatorNotice f new (placed (.fm f) new g) := by
  have hft : (placed (.fm f) new g).dev (.ft f) = g.dev (.ft f) := placed_other nofun
  have hseq : ((evaluatorNotice f new (placed (.fm f) new g)).seq f).state = .closing := by
    rw [evaluatorNotice_frame]
    exact hq
  unfold positioned
  rw [changed_commanded hc hn, guardPosition_main_rest (by rw [hft]; exact hrest)]
  congr 1
  exact mainNotice_closing hseq ho

/-- R101, R102: the sequence after its main breaker has closed. -/
theorem sequencerCompletion_closed (h : (s.seq f).state = .closing) : sequencerCompletion f true .toClose s =
    startSeqTimer f (1000 * (planFor f s).reclaim) (enterSeq f .reclaim s) := by
  unfold sequencerCompletion
  simp only [h]

/-- Two changes of one sequence are one. -/
theorem updSeq_updSeq (f : Fin 8) (h k : Sequencer → Sequencer) (s : State) :
    (s.updSeq f h).updSeq f k = s.updSeq f fun q => k (h q) := by
  simp [State.updSeq]

/-- R89, R101, R102: a state entered with its timer. -/
theorem startSeqTimer_enterSeq (f : Fin 8) (st : SeqState) (ms : Nat) (s : State) :
    startSeqTimer f ms (enterSeq f st s) = s.updSeq f fun q => { q with
      state := st, timerAt := some (deadline s ms), busWaitAt := none, waitStep := none, purpose := none,
      backingOff := false } := updSeq_updSeq ..

/-- R51, R101: a main breaker reported CLOSED, with its test contactor at rest in OPEN. -/
theorem frame_closes_main (hc : (g.dev (.fm f)).cmd = .toClose) (hrest : openAtRest (g.dev (.ft f)) = true)
    (hq : (g.seq f).state = .closing) : ∃ v,
      v = { g with evs := v.evs, devs := v.devs, reports := v.reports } ∧
      v.devs = (placed (.fm f) .closed g).devs ∧
      ((g.dev (.fm f)).pos ≠ .closed → (v.ev f).posView = .closed) ∧ (∀ e, e ≠ f → v.ev e = g.ev e) ∧
      commandChecks (.fm f) (positioned (.fm f) .closed g) = (commandEnded (.fm f) v).updSeq f fun q => { q with
        state := .reclaim, timerAt := some (deadline g (1000 * (planFor f g).reclaim)), busWaitAt := none,
        waitStep := none, purpose := none, backingOff := false } := by
  refine ⟨positioned (.fm f) .closed g, ?_⟩
  rw [positioned_main_closing (new := .closed) (by rw [hc]; nofun) nofun nofun hrest hq]
  have hplaced : (placed (.fm f) .closed g).dev (.fm f) = placedRecord .closed (deadline g 50) (g.dev (.fm f)) :=
    placed_dev ..
  have hchecks (v : State) (hv : v.devs = (placed (.fm f) .closed g).devs) (hseqs : v.seqs = g.seqs)
      (htime : v.time = g.time) : commandChecks (.fm f) v = (commandEnded (.fm f) v).updSeq f fun q => { q with
        state := .reclaim, timerAt := some (deadline g (1000 * (planFor f g).reclaim)), busWaitAt := none,
        waitStep := none, purpose := none, backingOff := false } := by
    have hvdev : v.dev (.fm f) = placedRecord .closed (deadline g 50) (g.dev (.fm f)) :=
      (congrArg (fun p : PerDevice DevRecord => p.get (.fm f)) hv).trans hplaced
    have hvc : (v.dev (.fm f)).cmd = .toClose := by rw [hvdev]; exact hc
    have hseq : (commandEnded (.fm f) v).seq f = g.seq f := congrArg (fun q : Vector Sequencer 8 => q[f]) hseqs
    have hplan : planFor f (commandEnded (.fm f) v) = planFor f g := by rw [planFor, hseq, planFor]
    have hdeadline (ms : Nat) : deadline (commandEnded (.fm f) v) ms = deadline g ms := by
      show v.time.now + _ = _
      rw [htime]
      rfl
    rw [commandChecks_completes (.inr ⟨hvc, by rw [hvdev]; rfl⟩), hvc, lateReported_close hvc]
    show sequencerCompletion f true .toClose (commandEnded (.fm f) v) = _
    rw [sequencerCompletion_closed (by rw [hseq]; exact hq), startSeqTimer_enterSeq, hplan, hdeadline]
  split
  · next hpos => exact ⟨rfl, rfl, fun h => absurd hpos h, fun _ _ => rfl, hchecks _ rfl rfl rfl⟩
  · have hframe := evaluatorNotice_frame f .closed (placed (.fm f) .closed g)
    refine ⟨?_, evaluatorNotice_devs .., fun _ => evaluatorNotice_posView .., fun e he => ?_, hchecks _ ?_ ?_ ?_⟩
    · rw [hframe]
      rfl
    · rw [evaluatorNotice_other he]
      rfl
    · exact evaluatorNotice_devs ..
    · rw [hframe]
      rfl
    · rw [hframe]
      rfl

/-! ## Test contactors -/

/-- R99: the stages of a test in which its contactor is watched. -/
def Watched (q : Sequencer) : Prop := q.state = .measuring ∨ (q.state = .testing ∧ q.timerAt ≠ none)

/-- R99: outside the watched stages, and for a contactor that was not closed, a notice of FTf does nothing. -/
theorem testNotice_still (h : ¬ (Watched (s.seq f) ∧ old = .closed ∧ new ≠ .closed)) : testNotice f old new s = s := by
  refine if_neg fun hc => h ?_
  simp only [Bool.and_eq_true, Bool.or_eq_true, decide_eq_true_eq] at hc
  exact ⟨hc.1.1, hc.1.2, hc.2⟩

/-- R99: in the watched stages a contactor that leaves CLOSED drops the test out. -/
theorem testNotice_drops (h : Watched (s.seq f)) (hn : new ≠ .closed) :
    testNotice f .closed new s = lockout f .testContactor (askOpen (.ft f) .sequencer s) := by
  refine if_pos ?_
  simp only [Bool.and_eq_true, Bool.or_eq_true, decide_eq_true_eq]
  exact ⟨⟨h, trivial⟩, hn⟩

/-- R46, R56, R99: the frame that changes nothing but a contactor's position. -/
theorem positioned_test_still (hc : (g.dev (.ft f)).cmd ≠ .none) (hn : new ≠ .faulty)
    (hw : ¬ (Watched (g.seq f) ∧ (g.dev (.ft f)).pos = .closed ∧ new ≠ .closed))
    (hm : (g.dev (.fm f)).cmd ≠ .toClose) : positioned (.ft f) new g = placed (.ft f) new g := by
  unfold positioned
  split
  · rfl
  · rw [changed_commanded hc hn]
    show guardMain f (testNotice f _ new _) = _
    have hfm : (placed (.ft f) new g).dev (.fm f) = g.dev (.fm f) := placed_other nofun
    rw [testNotice_still (s := placed (.ft f) new g) hw, guardMain_of_safe]
    rw [hfm]
    exact fun h => absurd h hm

/-- R94: the settle timer starts when the contactor has closed in TESTING. -/
theorem sequencerCompletion_settles (h : (s.seq f).state = .testing) : sequencerCompletion f false .toClose s =
    s.updSeq f fun q => { q with timerAt := some (deadline s (planFor f s).settle) } := by
  unfold sequencerCompletion
  simp only [h]
  rfl

/-- R97: the sequence goes on when the contactor has opened in TEST_CLEAR. -/
theorem sequencerCompletion_clears (h : (s.seq f).state = .testClear) :
    sequencerCompletion f false .toOpen s = testCleared f s := by
  unfold sequencerCompletion
  simp only [h]

/-- R94: a test contactor reported CLOSED in TESTING. -/
theorem frame_closes_test (hc : (g.dev (.ft f)).cmd = .toClose) (hm : (g.dev (.fm f)).cmd ≠ .toClose)
    (hq : (g.seq f).state = .testing) : commandChecks (.ft f) (positioned (.ft f) .closed g) =
      (commandEnded (.ft f) (placed (.ft f) .closed g)).updSeq f fun q => { q with
        timerAt := some (deadline g (planFor f g).settle) } := by
  have hplaced : (placed (.ft f) .closed g).dev (.ft f) = placedRecord .closed (deadline g 50) (g.dev (.ft f)) :=
    placed_dev ..
  have hpc : ((placed (.ft f) .closed g).dev (.ft f)).cmd = .toClose := by rw [hplaced]; exact hc
  rw [positioned_test_still (new := .closed) (by rw [hc]; nofun) nofun (fun h => h.2.2 rfl) hm,
    commandChecks_completes (.inr ⟨hpc, by rw [hplaced]; rfl⟩), hpc, lateReported_close hpc]
  exact sequencerCompletion_settles hq

/-- R97: a test contactor reported OPEN in TEST_CLEAR. -/
theorem frame_opens_test (hc : (g.dev (.ft f)).cmd = .toOpen) (hm : (g.dev (.fm f)).cmd ≠ .toClose)
    (hq : (g.seq f).state = .testClear) : commandChecks (.ft f) (positioned (.ft f) .opened g) =
      testCleared f (lateReported (.ft f) (placed (.ft f) .opened g)) := by
  have hplaced : (placed (.ft f) .opened g).dev (.ft f) = placedRecord .opened (deadline g 50) (g.dev (.ft f)) :=
    placed_dev ..
  have hpc : ((placed (.ft f) .opened g).dev (.ft f)).cmd = .toOpen := by rw [hplaced]; exact hc
  have hwatched : ¬ Watched (g.seq f) := by
    rintro (h | ⟨h, _⟩) <;> rw [hq] at h <;> cases h
  rw [positioned_test_still (new := .opened) (by rw [hc]; nofun) nofun (fun h => hwatched h.1) hm,
    commandChecks_completes (.inl ⟨hpc, by rw [hplaced]; rfl⟩), hpc]
  refine sequencerCompletion_clears ?_
  rw [lateReported_frame]
  exact hq

end Sys2Proof.Machine
end

section
set_option Elab.async false

/-! SUPPORT. What a sequence makes of a completed command (R89, R92, R94, R97, R100, R101). -/

namespace Sys2Proof.Machine
variable {s g t v : State} {d : Device} {f : Fin 8} {old new : Position} {mark : Bool}

/-! ## The record after the parts of a sequence's move -/

theorem enterSeq_seq (f : Fin 8) (st : SeqState) (s : State) : (enterSeq f st s).seq f = { s.seq f with
    state := st, timerAt := none, busWaitAt := none, waitStep := none, purpose := none, backingOff := false } :=
  State.updSeq_seq_same ..

theorem planFor_seq (h : t.seq f = s.seq f) : planFor f t = planFor f s := by rw [planFor, h, planFor]

/-- R89: the wait for a dead time, or R91's hold. -/
theorem waitDead_seq (f : Fin 8) (k : Nat) (s : State) :
    ((waitDead f k s).seq f).attempts = (s.seq f).attempts ∧ ((waitDead f k s).seq f).hold = (s.seq f).hold ∧
    ((waitDead f k s).seq f).state = (if (s.seq f).hold then .held else .deadTime) ∧
    ((s.seq f).hold = false → ((waitDead f k s).seq f).timerAt = some (deadline s (deadTime (planFor f s) k))) := by
  unfold waitDead
  cases hh : (s.seq f).hold with
  | true =>
    rw [if_pos rfl, enterSeq_seq]
    exact ⟨rfl, hh, rfl, nofun⟩
  | false =>
    rw [if_neg nofun, startSeqTimer_enterSeq, State.updSeq_seq_same]
    exact ⟨rfl, hh, rfl, fun _ => rfl⟩

/-! ## The end of a test (R92, R97) -/

theorem testCleared_closing (h : (s.seq f).purpose = some (.outcome .healthy) ∨ (s.seq f).purpose = some (.outcome .live)) :
    testCleared f s = closingEntry f s := by
  unfold testCleared
  rcases h with h | h <;> simp only [h]

/-- R92: a faulted line counts an attempt. -/
theorem testCleared_faulted (h : (s.seq f).purpose = some (.outcome .faulted)) : testCleared f s =
    let counted := s.updSeq f fun q => { q with attempts := q.attempts + 1 }
    if (s.seq f).attempts + 1 < (s.seq f).limit then waitDead f ((s.seq f).attempts + 1) counted
    else lockout f .testFault counted := by
  unfold testCleared
  simp only [h]

theorem testCleared_busLow (h : (s.seq f).purpose = some (.outcome .busLow)) :
    testCleared f s = if (s.seq f).hold then enterSeq f .held s else waitBus f .test s := by
  unfold testCleared
  simp only [h]

theorem testCleared_hold (h : (s.seq f).purpose = some .hold) :
    testCleared f s = if (s.seq f).hold then enterSeq f .held s else testStart f s := by
  unfold testCleared
  simp only [h]

theorem testCleared_lost (h : (s.seq f).purpose = some (.outcome .measurementLost)) :
    testCleared f s = lockout f .measurementLost s := by
  unfold testCleared
  simp only [h]

/-! ## The CLOSING entry checks (R100) -/

theorem busGood_iff {bus : Fin 24} (h : busChannel s = some bus) : busGood f s = true ↔
    (s.chan bus).state = .valid ∧ (planFor f s).uTestMin ≤ (s.chan bus).last.value.toNat := by
  simp [busGood, h, channelValid, voltageOf, unsigned]

/-- R100: the checks in order. -/
theorem closingEntry_eq (f : Fin 8) (s : State) : closingEntry f s =
    if (s.ev f).state = .degraded then lockout f .noProtection s
    else if (s.seq f).hold then enterSeq f .held s
    else if !busGood f s then waitBus f .close s
    else if (requestClose (.fm f) .sequencer s).1 then
      (enterSeq f .closing (requestClose (.fm f) .sequencer s).2).updSeq f fun q => { q with attempts := q.attempts + 1 }
    else lockout f .closeRefused (requestClose (.fm f) .sequencer s).2 := rfl

theorem requestClose_accepted {q : Requester} (h : closeRefused d s = false) : (requestClose d q s).1 = true ∧
    ((requestClose d q s).2.dev d).cmd = .toClose ∧ (∀ e, e ≠ d → (requestClose d q s).2.dev e = s.dev e) ∧
    (requestClose d q s).2 = { s with devs := (requestClose d q s).2.devs, ring := (requestClose d q s).2.ring } := by
  rcases requestClose_cases d q s with ⟨hr, _⟩ | ⟨_, hc, e⟩ | ⟨hr, _, e⟩
  · rw [h] at hr
    cases hr
  · rw [e]
    exact ⟨rfl, hc, fun _ _ => rfl, rfl⟩
  · rw [e]
    refine ⟨rfl, ?_, fun e he => takeCommand_other _ _ _ _ _ he, takeCommand_eq ..⟩
    rw [takeCommand_same d .toClose _ s (assigned_of_not_refused hr) nofun]

/-- R100: a CLOSE that is asked for counts an attempt. -/
theorem closingEntry_closes (hd : (s.ev f).state ≠ .degraded) (hh : (s.seq f).hold = false) (hb : busGood f s = true)
    (hr : closeRefused (.fm f) s = false) : closingEntry f s =
      (enterSeq f .closing (requestClose (.fm f) .sequencer s).2).updSeq f fun q =>
        { q with attempts := q.attempts + 1 } := by
  rw [closingEntry_eq, if_neg hd, if_neg (by rw [hh]; nofun), if_neg (by rw [hb]; nofun), if_pos (requestClose_accepted hr).1]

theorem closingEntry_refused (hd : (s.ev f).state ≠ .degraded) (hh : (s.seq f).hold = false) (hb : busGood f s = true)
    (hr : closeRefused (.fm f) s = true) : closingEntry f s = lockout f .closeRefused s := by
  rw [closingEntry_eq, if_neg hd, if_neg (by rw [hh]; nofun), if_neg (by rw [hb]; nofun), requestClose_refused hr]
  rfl

/-- R100: the wait for the bus before a CLOSE. -/
theorem closingEntry_waits (hd : (s.ev f).state ≠ .degraded) (hh : (s.seq f).hold = false) (hb : busGood f s = false) :
    closingEntry f s = waitBus f .close s := by
  rw [closingEntry_eq, if_neg hd, if_neg (by rw [hh]; nofun), if_pos (by rw [hb]; rfl)]

theorem closingEntry_held (hd : (s.ev f).state ≠ .degraded) (hh : (s.seq f).hold = true) :
    closingEntry f s = enterSeq f .held s := by
  rw [closingEntry_eq, if_neg hd, if_pos hh]

/-! ## The hold of a sequence (R91) -/

theorem sequenceStart_hold (f : Fin 8) (s : State) : ((sequenceStart f s).seq f).hold = (s.seq f).hold := by
  have hstarted : ((s.updSeq f fun q => { q with
      attempts := 0, limit := (planFor f s).limit, noted := none }).seq f).hold = (s.seq f).hold := by
    rw [State.updSeq_seq_same]
  unfold sequenceStart
  dsimp only
  generalize (s.updSeq f fun q => { q with attempts := 0, limit := (planFor f s).limit, noted := none }) = u at hstarted
  have hreported (n : Option Int) (c : Option Nat) : ((report .sequenceStart (.feeder f) c n u).seq f).hold =
      (s.seq f).hold := hstarted
  split
  · unfold enterIdle
    rw [State.updSeq_seq_same, enterSeq_seq]
    exact hstarted
  · split
    · rw [lockout_seq]
      exact hreported _ _
    · split
      · rw [lockout_seq]
        exact hreported _ _
      · exact (waitDead_seq f 0 _).2.1.trans (hreported _ _)

theorem retrip_hold (f : Fin 8) (s : State) : ((retrip f s).seq f).hold = (s.seq f).hold := by
  have hcleared : ((s.updSeq f fun q => { q with noted := none }).seq f).hold = (s.seq f).hold := by
    rw [State.updSeq_seq_same]
  unfold retrip
  dsimp only
  split
  · rw [lockout_seq]
    exact hcleared
  · split
    · exact (waitDead_seq f _ _).2.1.trans hcleared
    · rw [lockout_seq]
      exact hcleared

/-- R86 to R91: a main breaker's notice leaves the sequence's hold. -/
theorem mainNotice_hold (f : Fin 8) (old new : Position) (mark : Bool) (s : State) :
    ((mainNotice f old new mark s).seq f).hold = (s.seq f).hold := by
  have hidle (st : SeqState) : ((enterIdle f st s).seq f).hold = (s.seq f).hold := by
    unfold enterIdle
    rw [State.updSeq_seq_same, enterSeq_seq]
  have habandoned : ((if new = .closed then reportAbandoned f 1 (enterIdle f .idleClosed s) else s).seq f).hold =
      (s.seq f).hold := by
    split
    · exact hidle _
    · rfl
  unfold mainNotice
  dsimp only
  split
  · split
    · rw [State.updSeq_seq_same]
      exact hidle _
    · split
      · exact sequenceStart_hold f s
      · rfl
  · split
    · split
      · exact sequenceStart_hold f s
      · exact hidle _
    · rfl
  · exact habandoned
  · exact habandoned
  · exact habandoned
  · split
    · exact retrip_hold f s
    · rfl
  · split
    · exact retrip_hold f s
    · rfl
  · split
    · rw [State.updSeq_seq_same]
    · rfl
  · rfl
  · rfl
  · rfl

/-- R101: a sequence that was backing off goes on when its main breaker has opened. -/
theorem sequencerCompletion_opened (f : Fin 8) (s : State) : sequencerCompletion f true .toOpen s =
    if (s.seq f).state = .closing ∧ (s.seq f).backingOff = true then
      if (s.seq f).hold then enterSeq f .held s else testStart f s
    else s := by
  unfold sequencerCompletion
  dsimp only
  by_cases hq : (s.seq f).state = .closing
  · simp only [hq, true_and]
  · rw [if_neg (c := (s.seq f).state = .closing ∧ _) fun h => hq h.1]
    split <;> simp_all

/-- R51, R101: a main breaker reported OPEN under its OPEN. -/
theorem frame_opens_main (hc : (g.dev (.fm f)).cmd = .toOpen) : positioned (.fm f) .opened g =
    if (g.dev (.fm f)).pos = .opened then placed (.fm f) .opened g
    else giveNotice (.fm f) (g.dev (.fm f)).pos .opened false (placed (.fm f) .opened g) := by
  unfold positioned
  rw [changed_commanded (new := .opened) (by rw [hc]; nofun) nofun, guardPosition_main_of_safe]
  rw [placed_dev]
  exact ⟨nofun, nofun⟩

/-- R51: a frame that gives a commanded position ends the command of the record as it was noticed. -/
theorem positioned_dev_same (h : (positioned d new g).devs = (placed d new g).devs) :
    (positioned d new g).dev d = placedRecord new (deadline g 50) (g.dev d) :=
  (congrArg (fun p : PerDevice DevRecord => p.get d) h).trans (placed_dev ..)

/-! ## DCM and ACM (R116, R119) -/

/-- R116: a notice of DCM does nothing in CLOSED, and outside the firing states and the wait for a crossing. -/
theorem dcNotice_still (h : new = .closed ∨ (firing s.rect.state = false ∧ ¬ (s.rect.wait = .crossing ∧ old = .closed))) :
    dcNotice old new s = s := by
  unfold dcNotice
  by_cases hn : new = .closed
  · rw [if_pos hn]
  · obtain ⟨hf, hw⟩ := h.resolve_left hn
    rw [if_neg hn, if_neg (by rw [hf]; nofun), if_neg (by simpa using hw)]

theorem positioned_dcm_still (hc : (g.dev .dcm).cmd ≠ .none) (hn : new ≠ .faulty)
    (h : new = .closed ∨ (firing g.rect.state = false ∧ ¬ (g.rect.wait = .crossing ∧ (g.dev .dcm).pos = .closed))) :
    positioned .dcm new g = placed .dcm new g := by
  unfold positioned
  split
  · rfl
  · rw [changed_commanded hc hn]
    exact dcNotice_still (s := placed .dcm new g) h

/-- R119, R123: ACM's OPEN in an ordered stop's step 4 brings a rectifier that waits for nothing to OFF. -/
theorem acNotice_off (hb : s.rect.state = .blocked) (h4 : s.rect.stopStep = 4) (hw : s.rect.wait = .none) :
    acNotice .opened false s = rectGo .off s := by
  have hcancel : cancelWait 4 (rectGo .off s) = rectGo .off s := by
    refine cancelWait_none ?_ 4
    exact hw
  have hstep : (rectGo .off s).rect.stopStep = 4 := h4
  unfold acNotice
  simp [hb, hcancel, hstep]

end Sys2Proof.Machine
end

section
set_option Elab.async false

/-! SUPPORT. The rectifier's devices at the end of their commands (R116, R119). -/

namespace Sys2Proof.Machine
variable {s g t v : State} {d : Device} {f : Fin 8} {old new : Position}

/-- R48: a record's deadline in the terms of the manual. -/
theorem AfterFrame.deadline (h : AfterFrame s g) (ms : Nat) :
    deadline g ms = s.time.now + ms * Config.unitsPerMs := by rw [Machine.deadline, h.time]

/-- R51: the ended command of a record that has its new position, in one change. -/
theorem commandEnded_placed (h : AfterFrame s g) (d : Device) (new : Position) : commandEnded d (placed d new g) =
    (g.updDev d fun r => { r with
      pos := new, ageAt := some (s.time.now + 50 * Config.unitsPerMs), cmd := .none, requester := none,
      cmdTimer := none, cmdStart := none, repeatAt := none,
      flag := if (s.dev d).flag = .closeFail then .none else (s.dev d).flag }).updRing fun p => { p with
        claims := p.claims.set d none } := by
  have hrecord : completedRecord (placedRecord new (Machine.deadline g 50) (g.dev d)) = { g.dev d with
      pos := new, ageAt := some (s.time.now + 50 * Config.unitsPerMs), cmd := .none, requester := none,
      cmdTimer := none, cmdStart := none, repeatAt := none,
      flag := if (s.dev d).flag = .closeFail then .none else (s.dev d).flag } := by
    rw [h.deadline, ← h.dev d]
    rfl
  unfold commandEnded placed
  rw [updDev_updDev]
  exact congrArg (fun u : State => u.updRing fun p => { p with claims := p.claims.set d none }) (updDev_congr hrecord)

/-- R54: the late report of a completed OPEN whose record has its new position. -/
theorem lateReported_placed {start : Nat} (h : AfterFrame s g) (hc : (s.dev d).cmd = .toOpen)
    (hs : (s.dev d).cmdStart = some start) (new : Position) : lateReported d (placed d new g) =
      if (s.dev d).flag = .openFail then
        report .openedLate (deviceSource d) (some (deviceCause d))
          (some (min (s.time.now / Config.unitsPerMs - start) 65535 : Nat)) (commandEnded d (placed d new g))
      else commandEnded d (placed d new g) := by
  have hdev := placed_dev d new g
  rw [h.dev] at hdev
  have htime : (placed d new g).time = s.time := h.time
  rw [lateReported_open (start := start) (by rw [hdev]; exact hc) (by rw [hdev]; exact hs), hdev, htime]
  rfl

/-- R51, R54: what a frame that completes a command leaves alone, before the owner is told. -/
theorem lateReported_after (h : AfterFrame s g) (d : Device) (new : Position) : lateReported d (placed d new g) = { s with
    ring := (lateReported d (placed d new g)).ring, devs := (lateReported d (placed d new g)).devs,
    reports := (lateReported d (placed d new g)).reports } := by
  rw [lateReported_frame, h]
  rfl

theorem lateReported_dev (d : Device) (v : State) : (lateReported d v).dev d = completedRecord (v.dev d) := by
  rw [lateReported_frame]
  exact commandEnded_dev d v

theorem lateReported_other {e : Device} (he : e ≠ d) : (lateReported d v).dev e = v.dev e := by
  rw [lateReported_frame]
  exact commandEnded_other he

theorem lateReported_completed (d : Device) (new : Position) (g : State) : (lateReported d (placed d new g)).dev d =
    completedRecord (placedRecord new (Machine.deadline g 50) (g.dev d)) := by rw [lateReported_dev, placed_dev]

/-- R51: a frame that gives FMf OPEN under its OPEN leaves the record as the frame gave it. -/
theorem positioned_opens_main_dev (hc : (g.dev (.fm f)).cmd = .toOpen) :
    (positioned (.fm f) .opened g).dev (.fm f) = placedRecord .opened (Machine.deadline g 50) (g.dev (.fm f)) := by
  refine positioned_dev_same ?_
  rw [frame_opens_main hc]
  split
  · rfl
  · exact giveNotice_main_dev f

/-- R91: and leaves the sequence's hold. -/
theorem positioned_opens_main_hold (hc : (g.dev (.fm f)).cmd = .toOpen) :
    ((positioned (.fm f) .opened g).seq f).hold = (g.seq f).hold := by
  rw [frame_opens_main hc]
  split
  · rfl
  · refine (mainNotice_hold f _ .opened false (evaluatorNotice f .opened (placed (.fm f) .opened g))).trans ?_
    rw [evaluatorNotice_frame]
    rfl

/-- R116: DCM reported CLOSED in a deblock wait. -/
theorem frame_closes_dcm (hc : (g.dev .dcm).cmd = .toClose) (hw : g.rect.wait = .dcm) :
    commandChecks .dcm (positioned .dcm .closed g) =
      { commandEnded .dcm (placed .dcm .closed g) with rect := { g.rect with wait := .crossing } } := by
  have hplaced : (placed .dcm .closed g).dev .dcm = placedRecord .closed (deadline g 50) (g.dev .dcm) := placed_dev ..
  have hpc : ((placed .dcm .closed g).dev .dcm).cmd = .toClose := by rw [hplaced]; exact hc
  rw [positioned_dcm_still (new := .closed) (by rw [hc]; nofun) nofun (.inl rfl),
    commandChecks_completes (.inr ⟨hpc, by rw [hplaced]; rfl⟩), hpc, lateReported_close hpc]
  exact if_pos hw

/-- R119: DCM reported OPEN in stop step 3. -/
theorem frame_opens_dcm (hc : (g.dev .dcm).cmd = .toOpen) (hf : firing g.rect.state = false) (hw : g.rect.wait = .none)
    (h3 : g.rect.stopStep = 3) : commandChecks .dcm (positioned .dcm .opened g) =
      beginBreakerStep 4 .acm (lateReported .dcm (placed .dcm .opened g)) := by
  have hplaced : (placed .dcm .opened g).dev .dcm = placedRecord .opened (deadline g 50) (g.dev .dcm) := placed_dev ..
  have hpc : ((placed .dcm .opened g).dev .dcm).cmd = .toOpen := by rw [hplaced]; exact hc
  rw [positioned_dcm_still (new := .opened) (by rw [hc]; nofun) nofun (.inr ⟨hf, fun h => by rw [hw] at h; cases h.1⟩),
    commandChecks_completes (.inl ⟨hpc, by rw [hplaced]; rfl⟩), hpc]
  refine if_pos ?_
  rw [lateReported_frame]
  exact h3

/-- R119, R123: ACM reported OPEN in stop step 4. -/
theorem frame_opens_acm (hc : (g.dev .acm).cmd = .toOpen) (hp : (g.dev .acm).pos ≠ .opened)
    (hb : g.rect.state = .blocked) (hw : g.rect.wait = .none) (h4 : g.rect.stopStep = 4) :
    commandChecks .acm (positioned .acm .opened g) = report .stopDone .rectifier none none
      (setStopStep 0 (lateReported .acm (rectGo .off (placed .acm .opened g)))) := by
  have hplaced : (rectGo .off (placed .acm .opened g)).dev .acm = placedRecord .opened (deadline g 50) (g.dev .acm) :=
    placed_dev .acm .opened g
  have hpc : ((rectGo .off (placed .acm .opened g)).dev .acm).cmd = .toOpen := by rw [hplaced]; exact hc
  have hpositioned : positioned .acm .opened g = rectGo .off (placed .acm .opened g) := by
    unfold positioned
    rw [if_neg hp, changed_commanded (new := .opened) (by rw [hc]; nofun) nofun]
    exact acNotice_off (s := placed .acm .opened g) hb h4 hw
  rw [hpositioned, commandChecks_completes (.inl ⟨hpc, by rw [hplaced]; rfl⟩), hpc]
  refine if_pos ?_
  rw [lateReported_frame]
  exact h4

end Sys2Proof.Machine

namespace Sys2Proof.Proofs
open Sys2Proof.Machine

/-- Settles O36: the frame's state by `positionFrame_one`, then the command that it completes, device by device. -/
theorem closeCompletes : Obligations.CloseCompletes := by
  refine ⟨fun fr f el s hd ht hsrc hs hp hel ha ho hc hpos hcmd hq => ?closesMain,
    fun fr f el s hd ht hsrc hs hp hel ha ho hc hm hq => ?closesTest,
    fun fr f el s hd ht hsrc hs hp hel ha ho hc hm hq start hstart => ?opensTest,
    fun f bus s hbus => ?entry,
    fun fr d el po s hd ht hsrc hs hp hel ha ho hb => ?rectifier,
    fun fr f el start s hd ht hsrc hs hp hel ha ho hc hstart => ?opensMain⟩
  case closesMain =>
    have hframe := positionFrame_one (new := .closed) hd ht hsrc hs hp hel rfl ha ho
    have hg := afterFrame_relayed fr s
    generalize (goodFrame s).updRing (joinRelay fr) = g at hframe hg
    obtain ⟨v, hv, hdevs, hview, hevs, hend⟩ := frame_closes_main (g := g) (f := f) (by rw [hg.dev]; exact hc)
      (by rw [hg.dev]; exact openAtRest_iff.2 ⟨hpos, hcmd⟩) (by rw [hg.seq]; exact hq)
    rw [hend, hg.deadline, planFor_seq (hg.seq f)] at hframe
    have hvseq (e : Fin 8) : v.seq e = s.seq e := by rw [hv]; exact hg.seq e
    have hvdev (e : Device) : v.dev e = (placed (.fm f) .closed g).dev e :=
      congrArg (fun p : PerDevice DevRecord => p.get e) hdevs
    refine ⟨_, hframe, ?_, fun e he => ?_, ?_, fun h => hview (by rw [hg.dev]; exact h), fun e he => ⟨?_, ?_⟩, ?_, ?_, ?_⟩
    · refine (commandEnded_dev (.fm f) v).trans ?_
      rw [hvdev, placed_dev, hg.dev, hg.deadline]
      rfl
    · refine (commandEnded_other he).trans ?_
      rw [hvdev, placed_other he, hg.dev]
    · have hseq : (commandEnded (.fm f) v).seq f = s.seq f := hvseq f
      rw [State.updSeq_seq_same, hseq]
    · rw [State.updSeq_seq_ne _ _ he]
      exact hvseq e
    · exact (hevs e he).trans (hg.ev e)
    · show v.line = s.line
      rw [hv]
      exact hg.line
    · show v.rect = s.rect
      rw [hv]
      exact hg.rect
    · show v.banks = s.banks
      rw [hv]
      exact hg.banks
  case closesTest =>
    have hframe := positionFrame_one (new := .closed) hd ht hsrc hs hp hel rfl ha ho
    have hg := afterFrame_relayed fr s
    generalize (goodFrame s).updRing (joinRelay fr) = g at hframe hg
    rw [frame_closes_test (by rw [hg.dev]; exact hc) (by rw [hg.dev]; exact hm) (by rw [hg.seq]; exact hq), hg.deadline,
      planFor_seq (hg.seq f)] at hframe
    refine ⟨_, hframe, ?_, ?_, ?_, fun e he => ?_, fun e he => ?_, hg.evs⟩
    · show ((commandEnded (.ft f) (placed (.ft f) .closed g)).dev (.ft f)).pos = _
      rw [commandEnded_dev, placed_dev]
      rfl
    · show ((commandEnded (.ft f) (placed (.ft f) .closed g)).dev (.ft f)).cmd = _
      rw [commandEnded_dev]
      rfl
    · have hseq : (commandEnded (.ft f) (placed (.ft f) .closed g)).seq f = s.seq f := hg.seq f
      rw [State.updSeq_seq_same, hseq]
    · exact (commandEnded_other he).trans ((placed_other he).trans (hg.dev e))
    · rw [State.updSeq_seq_ne _ _ he]
      exact hg.seq e
  case opensTest =>
    intro flag ended v a go held
    have hframe := positionFrame_one (new := .opened) hd ht hsrc hs hp hel rfl ha ho
    have hg := afterFrame_relayed fr s
    have hended : commandEnded (.ft f) (placed (.ft f) .opened ((goodFrame s).updRing (joinRelay fr))) = ended :=
      commandEnded_placed hg (.ft f) .opened
    have hv : lateReported (.ft f) (placed (.ft f) .opened ((goodFrame s).updRing (joinRelay fr))) = v := by
      rw [lateReported_placed hg hc hstart, hended]
      rfl
    rw [frame_opens_test (by rw [hg.dev]; exact hc) (by rw [hg.dev]; exact hm) (by rw [hg.seq]; exact hq), hv] at hframe
    have hvs : v = { s with ring := v.ring, devs := v.devs, reports := v.reports } := by
      rw [← hv]
      exact lateReported_after hg (.ft f) .opened
    have hvseq : v.seq f = s.seq f := by rw [hvs]; rfl
    have hdeadline (ms : Nat) : deadline v ms = s.time.now + ms * Config.unitsPerMs := by rw [hvs]; rfl
    have hplan : planFor f v = planFor f s := planFor_seq hvseq
    have hgo : go = .next (testCleared f v) := hframe
    have hattempts : (v.seq f).attempts = a := congrArg Sequencer.attempts hvseq
    have hcounted : (v.updSeq f fun q => { q with attempts := q.attempts + 1 }).seq f =
        { v.seq f with attempts := a + 1 } := by rw [State.updSeq_seq_same, hattempts]
    clear_value v go a
    rw [← hvseq, ← hplan]
    refine ⟨fun h => ?closing, fun h hl => ?waits, fun h hl => ?locks, fun h hh => ?waitsBus, fun h hh => ?holds,
      fun h hh => ?starts, fun h => ?lost⟩
    case closing => rw [hgo, testCleared_closing h]
    case waits =>
      obtain ⟨hcount, _, hstate, htimer⟩ := waitDead_seq f (a + 1) (v.updSeq f fun q => { q with attempts := q.attempts + 1 })
      rw [hcounted] at hcount hstate htimer
      refine ⟨_, hgo, ?_⟩
      rw [testCleared_faulted h]
      dsimp only
      rw [hattempts, if_pos hl]
      refine ⟨hcount, hstate, fun hh => (htimer hh).trans ?_⟩
      rw [planFor, hcounted]
      exact congrArg some (hdeadline _)
    case locks =>
      refine ⟨_, hgo, ?_⟩
      rw [testCleared_faulted h]
      dsimp only
      rw [hattempts, if_neg (Nat.not_lt.2 hl), lockout_seq, hcounted]
      exact ⟨rfl, rfl, rfl⟩
    case waitsBus =>
      rw [hgo, testCleared_busLow h, if_neg (by rw [hh]; nofun), waitBus, hdeadline]
    case holds =>
      rw [hgo]
      rcases h with h | h
      · rw [testCleared_busLow h, if_pos hh]
      · rw [testCleared_hold h, if_pos hh]
    case starts => rw [hgo, testCleared_hold h, if_neg (by rw [hh]; nofun)]
    case lost => rw [hgo, testCleared_lost h]
  case entry =>
    intro u good
    have hgood : busGood f s = true ↔ good := busGood_iff hbus
    have hbad (h : ¬ good) : busGood f s = false := Bool.eq_false_iff.2 fun hb => h (hgood.1 hb)
    refine ⟨fun h => ?protection, fun h hh => closingEntry_held h hh, fun h hh hb => closingEntry_waits h hh (hbad hb),
      fun h hh hb hr => closingEntry_refused h hh (hgood.2 hb) hr, fun h hh hb hr => ?closes⟩
    case protection => exact if_pos h
    case closes =>
      obtain ⟨_, hcmd, hother, hframe⟩ := requestClose_accepted (q := .sequencer) hr
      have hu : u = _ := closingEntry_closes h hh (hgood.2 hb) hr
      clear_value u
      subst hu
      generalize (requestClose (.fm f) .sequencer s).2 = v at hcmd hother hframe
      have hseq : v.seq f = s.seq f := by rw [hframe]; rfl
      rw [State.updSeq_seq_same, enterSeq_seq, hseq]
      refine ⟨rfl, rfl, rfl, hcmd, hother, ?_⟩
      show v.evs = s.evs
      rw [hframe]
  case rectifier =>
    intro flag kept
    have hg := afterFrame_relayed fr s
    have hlog : SameLog (goodFrame s) ((goodFrame s).updRing (joinRelay fr)) := .of_frame
    refine ⟨?closesDcm, ?opensDcm, ?opensAcm⟩
    case closesDcm =>
      rintro rfl rfl hc hw
      have hframe := positionFrame_one (new := .closed) hd ht hsrc hs hp hel rfl ha ho
      generalize (goodFrame s).updRing (joinRelay fr) = g at hframe hg
      rw [frame_closes_dcm (by rw [hg.dev]; exact hc) (by rw [hg.rect]; exact hw), hg.rect] at hframe
      have hself : (commandEnded .dcm (placed .dcm .closed g)).dev .dcm =
          completedRecord (placedRecord .closed (deadline g 50) (s.dev .dcm)) := by
        rw [commandEnded_dev, placed_dev, hg.dev]
      refine ⟨_, hframe, rfl, ?_, ?_, fun e he => (commandEnded_other he).trans ((placed_other he).trans (hg.dev e))⟩
      · exact congrArg DevRecord.cmd hself
      · exact congrArg DevRecord.flag hself
    case opensDcm =>
      rintro rfl rfl hc h3 hw hacm
      have hframe := positionFrame_one (new := .opened) hd ht hsrc hs hp hel rfl ha ho
      generalize (goodFrame s).updRing (joinRelay fr) = g at hframe hg
      rw [frame_opens_dcm (by rw [hg.dev]; exact hc) (by rw [hg.rect, hb]; rfl) (by rw [hg.rect]; exact hw)
        (by rw [hg.rect]; exact h3)] at hframe
      have hrect : (lateReported .dcm (placed .dcm .opened g)).rect = s.rect := by rw [lateReported_after hg]
      have hself := lateReported_completed .dcm .opened g
      rw [hg.dev] at hself
      have hassigned : ((setStopStep 4 (lateReported .dcm (placed .dcm .opened g))).dev .acm).addr ≠ none := by
        refine ne_of_eq_of_ne (congrArg DevRecord.addr ?_) hacm
        exact (lateReported_other (by decide)).trans ((placed_other (by decide)).trans (hg.dev .acm))
      rw [beginBreakerStep_taken (s := lateReported .dcm (placed .dcm .opened g)) hassigned] at hframe
      have hdcm := (askOpen_other (d := .acm) (e := .dcm) nofun (by decide) .rectifier
        (setStopStep 4 (lateReported .dcm (placed .dcm .opened g)))).trans hself
      refine ⟨_, hframe, ?_, ?_, congrArg DevRecord.cmd hdcm, congrArg DevRecord.flag hdcm, askOpen_cmd hassigned _⟩
      · rw [askOpen_rect]
        rfl
      · rw [askOpen_rect]
        exact (congrArg (fun r : Rectifier => r.state) hrect).trans hb
    case opensAcm =>
      rintro rfl rfl hc h4 hw hpos start hstart
      have hframe := positionFrame_one (new := .opened) hd ht hsrc hs hp hel rfl ha ho
      generalize (goodFrame s).updRing (joinRelay fr) = g at hframe hg hlog
      rw [frame_opens_acm (by rw [hg.dev]; exact hc) (by rw [hg.dev]; exact hpos) (by rw [hg.rect]; exact hb)
        (by rw [hg.rect]; exact hw) (by rw [hg.rect]; exact h4)] at hframe
      have hplaced : (rectGo .off (placed .acm .opened g)).dev .acm =
          placedRecord .opened (deadline g 50) (s.dev .acm) := by
        rw [← hg.dev]
        exact placed_dev .acm .opened g
      have hself := (lateReported_dev .acm (rectGo .off (placed .acm .opened g))).trans (congrArg completedRecord hplaced)
      have hlate : SameLog (if flag = .openFail then
          report .openedLate .rectifier (some 4) (some (min (s.time.now / Config.unitsPerMs - start) 65535 : Nat))
            (goodFrame s) else goodFrame s) (lateReported .acm (rectGo .off (placed .acm .opened g))) := by
        have htime : (rectGo .off (placed .acm .opened g)).time = s.time := hg.time
        have hended : SameLog (goodFrame s) (commandEnded .acm (rectGo .off (placed .acm .opened g))) :=
          hlog.trans .of_frame
        rw [lateReported_open (start := start) (by rw [hplaced]; exact hc) (by rw [hplaced]; exact hstart), hplaced, htime]
        change SameLog _ (if flag = .openFail then _ else _)
        split
        · exact hended.report
        · exact hended
      refine ⟨_, hframe, ?_, rfl, congrArg DevRecord.cmd hself, congrArg DevRecord.flag hself, ?_⟩
      · show (lateReported .acm (rectGo .off (placed .acm .opened g))).rect.state = .off
        rw [lateReported_frame]
        rfl
      · exact (SameLog.report (t := setStopStep 0 _) ⟨hlate.reports, hlate.capture, hlate.time⟩).reports
  case opensMain =>
    intro r fresh noticed ended v backs
    have hframe := positionFrame_one (new := .opened) hd ht hsrc hs hp hel rfl ha ho
    have hg := afterFrame_relayed fr s
    have hfresh : placed (.fm f) .opened ((goodFrame s).updRing (joinRelay fr)) = fresh := by
      unfold placed
      rw [hg.deadline]
      rfl
    generalize (goodFrame s).updRing (joinRelay fr) = g at hframe hg hfresh
    have hpositioned : positioned (.fm f) .opened g = noticed := by
      rw [frame_opens_main (by rw [hg.dev]; exact hc), hfresh, hg.dev]
    have hself : noticed.dev (.fm f) = placedRecord .opened (deadline g 50) r := by
      rw [← hpositioned, positioned_opens_main_dev (by rw [hg.dev]; exact hc), hg.dev]
    have hhold : (noticed.seq f).hold = (s.seq f).hold := by
      rw [← hpositioned, positioned_opens_main_hold (by rw [hg.dev]; exact hc), hg.seq]
    have htime : noticed.time = s.time := by
      rw [← hpositioned, (positioned_notified ..).time]
      exact hg.time
    have hcmd : (noticed.dev (.fm f)).cmd = .toOpen := by rw [hself]; exact hc
    have hended : commandEnded (.fm f) noticed = ended := by
      refine congrArg (fun u : State => u.updRing fun p => { p with claims := p.claims.set (.fm f) none }) (updDev_congr ?_)
      rw [hself]
      rfl
    have hv : lateReported (.fm f) noticed = v := by
      rw [lateReported_open (start := start) hcmd (by rw [hself]; exact hstart), hself, htime, hended]
      rfl
    have hvseq : v.seq f = noticed.seq f := by
      rw [← hv, lateReported_frame]
      rfl
    rw [hpositioned, commandChecks_completes (.inl ⟨hcmd, by rw [hself]; rfl⟩), hcmd, hv] at hframe
    have hgo : exec (.positionFrame fr) s = .next (sequencerCompletion f true .toOpen v) := hframe
    rw [hgo, sequencerCompletion_opened, hvseq, hhold]
    refine ⟨fun h => by rw [if_neg h], fun h hh => ?_, fun h hh => by rw [if_pos h, if_neg (by rw [hh]; nofun)]⟩
    rw [if_pos h, if_pos hh]
    rfl

end Sys2Proof.Proofs
end

section
set_option Elab.async false

/-! SUPPORT. The POSITION frames that complete no command (R45, R46, R52, R56, R57, R99, R103, R116). -/

namespace Sys2Proof.Machine
variable {s g t u v : State} {d : Device} {f : Fin 8} {old new : Position} {mark : Bool} {fr : Frame}

/-! ## Frames that name no record (R45) -/

theorem framePosition_known {po : Byte} (h : framePosition po = some new) : new ≠ .unknown := by
  rintro rfl
  unfold framePosition at h
  split at h <;> cases h

theorem framePosition_undefined {po : Byte} (h : po.toNat = 0 ∨ 4 < po.toNat) : framePosition po = none := by
  unfold framePosition
  split
  case h_5 => rfl
  all_goals omega

theorem framePosition_defined {po : Byte} (h1 : 1 ≤ po.toNat) (h4 : po.toNat ≤ 4) : ∃ new, framePosition po = some new := by
  have hcases : po.toNat = 1 ∨ po.toNat = 2 ∨ po.toNat = 3 ∨ po.toNat = 4 := by omega
  unfold framePosition
  rcases hcases with h | h | h | h <;> rw [h] <;> exact ⟨_, rfl⟩

theorem takePosition_malformed (h : fr.payload.length ≠ 2 ∨ 1 < u8 fr.payload 0 ∨ u8 fr.payload 1 = 0 ∨
    4 < u8 fr.payload 1) (g : State) : takePosition fr g = { g with malformedPos := bump g.malformedPos } := by
  unfold takePosition
  dsimp only
  split
  · rfl
  · next hform =>
    simp only [Bool.or_eq_true, decide_eq_true_eq, not_or] at hform
    obtain ⟨hlen, helem⟩ := hform
    rw [framePosition_undefined ((h.resolve_left hlen).resolve_left helem)]

theorem takePosition_unmatched {el po : Byte} (hp : fr.payload = [el, po]) (hel : el.toNat ≤ 1) (h1 : 1 ≤ po.toNat)
    (h4 : po.toNat ≤ 4) (ho : ∀ d, (g.dev d).addr ≠ some (fr.src, el)) :
    takePosition fr g = { g with unmatchedPos := bump g.unmatchedPos } := by
  have h0 : byteAt fr.payload 0 = el := by rw [hp]; rfl
  have hb1 : byteAt fr.payload 1 = po := by rw [hp]; rfl
  obtain ⟨new, hnew⟩ := framePosition_defined h1 h4
  have hnone : matchingDevices fr.src el g = [] := List.filter_eq_nil_iff.2 fun d _ => by simp [ho d]
  unfold takePosition
  simp only [h0, hb1, hnew, hnone]
  exact if_neg (by simp [hp, hel])

/-! ## What a frame's change leaves in its record (R46) -/

theorem AfterFrame.placed (h : AfterFrame s g) (d : Device) (new : Position) : Machine.placed d new g =
    g.updDev d fun r => { r with pos := new, ageAt := some (s.time.now + 50 * Config.unitsPerMs) } := by
  unfold Machine.placed
  rw [h.deadline]
  rfl

theorem AfterFrame.openTime (h : AfterFrame s g) (d : Device) : openTime d g = openTime d s := by
  rw [h]
  rfl

theorem positioned_changed (hp : (g.dev d).pos ≠ new) : positioned d new g = changed d new g := if_neg hp

/-- R116: a notice of DCM asks for nothing but the withdrawal of a CLOSE in the wait for a crossing. -/
theorem dcNotice_devs (h : s.rect.wait = .crossing → (s.dev .dcm).cmd ≠ .toClose) : (dcNotice old new s).devs = s.devs := by
  unfold dcNotice
  split
  · rfl
  · split
    · exact InterlockBut.becomeBlocked_devs s
    · split
      · next hw =>
        simp only [Bool.and_eq_true, decide_eq_true_eq] at hw
        rw [cancelWait_waiting (by rw [hw.1]; nofun), if_neg (h hw.1)]
        rfl
      · rfl

/-- R46: a notice leaves the record that it is of, but for a test contactor and a CLOSE of DCM that is withdrawn. -/
theorem giveNotice_dev (hd : ∀ f, d ≠ .ft f)
    (hw : d = .dcm → s.rect.wait = .crossing → (s.dev .dcm).cmd ≠ .toClose) :
    (giveNotice d old new mark s).dev d = s.dev d := by
  cases d with
  | fm f => exact congrArg (fun p : PerDevice DevRecord => p.get (.fm f)) (giveNotice_main_dev f)
  | ft f => exact absurd rfl (hd f)
  | dcm => exact congrArg (fun p : PerDevice DevRecord => p.get .dcm) (dcNotice_devs (hw rfl))
  | acm => exact acNotice_other (e := .acm) nofun

/-- R56: a main breaker whose CLOSE is not outstanding is left by an OPEN request of its test contactor. -/
theorem askOpen_test_main {q : Requester} (hc : (s.dev (.fm f)).cmd ≠ .toClose) :
    (askOpen (.ft f) q s).dev (.fm f) = s.dev (.fm f) := by
  have htaken (w : State) (hw : w.dev (.fm f) = s.dev (.fm f)) :
      (guardCommand (.ft f) (takeCommand (.ft f) .toOpen (some q) w)).dev (.fm f) = s.dev (.fm f) := by
    have hmain : (takeCommand (.ft f) .toOpen (some q) w).dev (.fm f) = s.dev (.fm f) :=
      (takeCommand_other (.ft f) (.fm f) _ _ _ nofun).trans hw
    refine (congrArg (fun x : State => x.dev (.fm f)) (guardMain_of_safe f _ fun h => ?_)).trans hmain
    rw [hmain] at h
    exact absurd h hc
  unfold askOpen
  rcases requestOpen_cases (.ft f) q s with ⟨_, e⟩ | ⟨_, _, e⟩ | ⟨_, _, e⟩ | ⟨_, _, e⟩ <;> rw [e]
  · exact htaken s rfl
  · exact htaken _ rfl

/-- R57: the guard after a main breaker's change leaves the main breaker, unless a CLOSE of it is outstanding. -/
theorem guardPosition_dev (hd : ∀ f, d ≠ .ft f) (hc : ∀ f, d = .fm f → (u.dev d).cmd ≠ .toClose) :
    (guardPosition d v u).dev d = u.dev d := by
  cases d with
  | fm f =>
    unfold guardPosition
    dsimp only
    split
    · exact (lockout_dev ..).trans (askOpen_test_main (hc f rfl))
    · rfl
  | ft f => exact absurd rfl (hd f)
  | dcm => rfl
  | acm => rfl

/-- R46: a report of a change leaves the records. -/
theorem positionReport_dev (e : Device) (r : DevRecord) (new : Position) (s : State) :
    (positionReport d r new s).dev e = s.dev e := congrArg (fun p : PerDevice DevRecord => p.get e) (positionReport_devs ..)

theorem positionReport_rect (r : DevRecord) (new : Position) (s : State) : (positionReport d r new s).rect = s.rect := by
  rw [positionReport_eq]

/-- R46: the record after a change and its notice, before the guard. -/
theorem noticed_dev (hd : ∀ f, d ≠ .ft f) (hw : d = .dcm → g.rect.wait = .crossing → (g.dev .dcm).cmd ≠ .toClose) :
    (giveNotice d old new mark (positionReport d (g.dev d) new (placed d new g))).dev d =
      placedRecord new (deadline g 50) (g.dev d) := by
  rw [giveNotice_dev hd, positionReport_dev, placed_dev]
  rintro rfl h
  rw [positionReport_rect] at h
  rw [positionReport_dev, placed_dev]
  exact hw rfl h

/-- R46: the record after a change, its notice and its guard. -/
theorem positioned_dev (hd : ∀ f, d ≠ .ft f) (hw : d = .dcm → g.rect.wait = .crossing → (g.dev .dcm).cmd ≠ .toClose)
    (hc : ∀ f, d = .fm f → (g.dev d).cmd = .toClose → new ≠ .closed ∧ new ≠ .travel) :
    (positioned d new g).dev d = placedRecord new (deadline g 50) (g.dev d) := by
  unfold positioned
  split
  · exact placed_dev ..
  · unfold changed
    have hnoticed := noticed_dev (old := (g.dev d).pos) (mark := uncommanded (g.dev d) new) (new := new) hd hw
    by_cases hclose : (g.dev d).cmd = .toClose ∧ ∃ f, d = .fm f
    · obtain ⟨hcmd, f, rfl⟩ := hclose
      rw [guardPosition_main_of_safe, hnoticed]
      rw [placed_dev]
      exact hc f rfl hcmd
    · rw [guardPosition_dev hd, hnoticed]
      intro f hf h
      rw [hnoticed] at h
      exact hclose ⟨h, f, hf⟩

/-- R44: neither the change nor what follows it touches an address. -/
theorem positioned_addr (d e : Device) (new : Position) (g : State) :
    ((positioned d new g).dev e).addr = (g.dev e).addr := by
  rw [((positioned_notified d new g).place e).1]
  by_cases he : e = d
  · rw [he, placed_dev]
    rfl
  · rw [placed_other he]

theorem positioned_pos (d : Device) (new : Position) (g : State) : ((positioned d new g).dev d).pos = new := by
  rw [((positioned_notified d new g).place d).2.1, placed_dev]
  rfl

/-! ## What a change reports, and its mark (R46) -/

theorem positionReport_faulty (d : Device) (r : DevRecord) (s : State) :
    positionReport d r .faulty s = breakerReport .positionFaulty d (commandCode r.cmd) s := rfl

theorem positionReport_unknown {r : DevRecord} (hf : new ≠ .faulty) (hu : r.pos = .unknown) (s : State) :
    positionReport d r new s = s := by
  rw [positionReport, if_neg hf]
  exact if_pos (by simp [hu])

theorem positionReport_uncommanded {r : DevRecord} (hf : new ≠ .faulty) (hu : r.pos ≠ .unknown) (hk : new ≠ .unknown)
    (hc : r.cmd = .none) (s : State) :
    positionReport d r new s = breakerReport .uncommanded d (positionCode new) s := by
  rw [positionReport, if_neg hf, if_neg (by simp [hu, hk])]
  exact if_pos (by simp [noCommand, hc])

theorem uncommanded_faulty {r : DevRecord} (hc : r.cmd = .none) : uncommanded r .faulty = true := by
  simp [uncommanded, noCommand, hc]

theorem uncommanded_unknown {r : DevRecord} (hf : new ≠ .faulty) (hu : r.pos = .unknown) : uncommanded r new = false := by
  simp [uncommanded, hf, hu]

theorem uncommanded_known {r : DevRecord} (hf : new ≠ .faulty) (hu : r.pos ≠ .unknown) (hk : new ≠ .unknown)
    (hc : r.cmd = .none) : uncommanded r new = true := by
  simp [uncommanded, noCommand, hf, hu, hk, hc]

/-! ## The command checks (R51, R52) -/

/-- R52: a FAULTY position fails an OPEN that has not failed yet. -/
theorem commandChecks_openFails (hc : (v.dev d).cmd = .toOpen) (hp : (v.dev d).pos = .faulty)
    (ht : (v.dev d).cmdTimer ≠ none) : commandChecks d v = escalate d (v.updDev d failedRecord) := by
  unfold commandChecks
  simp only [hc, hp]
  exact if_neg ht

theorem commandChecks_openFailed (hc : (v.dev d).cmd = .toOpen) (hp : (v.dev d).pos = .faulty)
    (ht : (v.dev d).cmdTimer = none) : commandChecks d v = v := by
  unfold commandChecks
  simp only [hc, hp]
  exact if_pos ht

theorem commandChecks_closeFails (hc : (v.dev d).cmd = .toClose) (hp : (v.dev d).pos = .faulty) :
    commandChecks d v = closeFailed d v := by
  unfold commandChecks
  simp only [hc, hp]

/-- A command, and a position that neither completes nor fails it. -/
def GoesOn (c : Command) (new : Position) : Prop :=
  (c = .toOpen ∧ new ≠ .opened ∨ c = .toClose ∧ new ≠ .closed) ∧ new ≠ .faulty

theorem GoesOn.commanded {c : Command} (h : GoesOn c new) : c ≠ .none := by
  rintro rfl
  rcases h.1 with ⟨h, _⟩ | ⟨h, _⟩ <;> cases h

/-- R51, R52: the checks leave a command that goes on. -/
theorem GoesOn.checks {c : Command} (h : GoesOn c new) (hc : (v.dev d).cmd = c) (hp : (v.dev d).pos = new) :
    commandChecks d v = v := commandChecks_goesOn (by rw [hc, hp]; exact h.1) (by rw [hp]; exact h.2)

/-- R57: the guard after a main breaker's change either leaves its command, or has it open. -/
theorem guardPosition_main_cmd (ha : (u.dev (.fm f)).addr ≠ none) :
    ((guardPosition (.fm f) v u).dev (.fm f)).cmd = (u.dev (.fm f)).cmd ∨
      (((guardPosition (.fm f) v u).dev (.fm f)).cmd = .toOpen ∧ testExposed f v = true) := by
  by_cases he : testExposed f v = true
  · rw [guardPosition_main_of_exposed f v u he, openTest, lockout_dev]
    have hguard (w : State) (hw : w.dev (.fm f) = u.dev (.fm f)) :
        ((guardMain f (takeCommand (.ft f) .toOpen (some .sequencer) w)).dev (.fm f)).cmd = (u.dev (.fm f)).cmd ∨
        ((guardMain f (takeCommand (.ft f) .toOpen (some .sequencer) w)).dev (.fm f)).cmd = .toOpen := by
      have hmain : (takeCommand (.ft f) .toOpen (some .sequencer) w).dev (.fm f) = u.dev (.fm f) :=
        (takeCommand_other (.ft f) (.fm f) _ _ _ nofun).trans hw
      unfold guardMain
      split
      · right
        rw [lockout_dev, takeCommand_same (.fm f) .toOpen _ _ (by
          rw [show ∀ x : State, (reportWithdrawn (.fm f) x).dev (.fm f) = x.dev (.fm f) from fun _ => rfl, hmain]
          exact ha) nofun]
      · exact .inl (by rw [hmain])
    unfold askOpen
    rcases requestOpen_cases (.ft f) .sequencer u with ⟨_, e⟩ | ⟨_, _, e⟩ | ⟨_, _, e⟩ | ⟨_, _, e⟩ <;> rw [e]
    · exact .inl rfl
    · exact .inl rfl
    · exact (hguard u rfl).imp_right fun h => ⟨h, he⟩
    · exact (hguard (reportWithdrawn (.ft f) u) rfl).imp_right fun h => ⟨h, he⟩
  · exact .inl (congrArg (fun x : State => (x.dev (.fm f)).cmd) (if_neg he))

/-- R46, R52, R57: a change under a command that goes on; a main breaker's CLOSE that the guard withdraws leaves an OPEN that
goes on. -/
theorem positioned_goesOn (hd : ∀ f, d ≠ .ft f) (hg : GoesOn (g.dev d).cmd new) (ha : (g.dev d).addr ≠ none)
    (hw : d = .dcm → g.rect.wait = .crossing → (g.dev .dcm).cmd ≠ .toClose) :
    commandChecks d (positioned d new g) = positioned d new g := by
  have hpos := positioned_pos d new g
  by_cases hp : (g.dev d).pos = new
  · have hplaced : positioned d new g = placed d new g := if_pos hp
    exact hg.checks (by rw [hplaced, placed_dev]; rfl) hpos
  · have hchanged := positioned_changed hp
    have hnoticed := noticed_dev (old := (g.dev d).pos) (mark := uncommanded (g.dev d) new) (new := new) hd hw
    by_cases hm : ∃ f, d = .fm f
    · obtain ⟨f, rfl⟩ := hm
      rcases guardPosition_main_cmd (f := f) (v := placed (.fm f) new g) (u := giveNotice (.fm f) (g.dev (.fm f)).pos new
        (uncommanded (g.dev (.fm f)) new) (positionReport (.fm f) (g.dev (.fm f)) new (placed (.fm f) new g)))
        (by rw [hnoticed]; exact ha) with hc | ⟨hc, hexposed⟩
      · rw [hnoticed] at hc
        exact hg.checks (by rw [hchanged]; exact hc) hpos
      · refine GoesOn.checks (c := .toOpen) ⟨.inl ⟨rfl, ?_⟩, hg.2⟩ (by rw [hchanged]; exact hc) hpos
        rintro rfl
        simp [testExposed, placed_dev, placedRecord] at hexposed
    · refine hg.checks ?_ hpos
      rw [hchanged]
      unfold changed
      rw [guardPosition_dev hd fun f hf => absurd ⟨f, hf⟩ hm, hnoticed]
      rfl

/-! ## Test contactors (R56, R99, R103) -/

/-- What a move of a test contactor leaves alone: its sequence's attempts, every other sequence, and the evaluators. -/
structure AttemptsKept (f : Fin 8) (s t : State) : Prop where
  attempts : (t.seq f).attempts = (s.seq f).attempts
  others : ∀ e, e ≠ f → t.seq e = s.seq e
  evs : t.evs = s.evs

/-- R103: the sequence is locked out because of its test contactor. -/
structure TestLost (f : Fin 8) (s t : State) : Prop extends AttemptsKept f s t where
  state : (t.seq f).state = .lockout
  cause : (t.seq f).lockCause = some .testContactor

namespace AttemptsKept

theorem of_frame (hq : t.seqs = s.seqs := by exact rfl) (he : t.evs = s.evs := by exact rfl) : AttemptsKept f s t where
  attempts := congrArg (fun v : Vector Sequencer 8 => v[f].attempts) hq
  others e _ := congrArg (fun v : Vector Sequencer 8 => v[e]) hq
  evs := he

protected theorem trans (h : AttemptsKept f s t) (k : AttemptsKept f t u) : AttemptsKept f s u :=
  ⟨k.attempts.trans h.attempts, fun e he => (k.others e he).trans (h.others e he), k.evs.trans h.evs⟩

/-- R103: a lockout by a test contactor. -/
protected theorem lockout (h : AttemptsKept f s t) : TestLost f s (lockout f .testContactor t) where
  attempts := by
    rw [lockout_seq]
    exact h.attempts
  others e he := by
    have hother : (Machine.lockout f .testContactor t).seq e = t.seq e := by
      unfold State.seq
      rw [lockout_seqs]
      exact Vector.getElem_set_ne _ _ fun hn => he (Fin.ext hn.symm)
    exact hother.trans (h.others e he)
  evs := (lockout_evs ..).trans h.evs
  state := by rw [lockout_seq]
  cause := by rw [lockout_seq]

protected theorem takeCommand {c : Command} {q : Option Requester} (h : AttemptsKept f s t) :
    AttemptsKept f s (takeCommand d c q t) :=
  h.trans (.of_frame (by rw [takeCommand_eq]) (takeCommand_evs ..))

protected theorem guardMain (h : AttemptsKept f s t) : AttemptsKept f s (guardMain f t) := by
  unfold Machine.guardMain
  split
  · exact (AttemptsKept.lockout (AttemptsKept.takeCommand (h.trans .of_frame))).toAttemptsKept
  · exact h

/-- R49, R56: an OPEN request of the test contactor, with the guard of what it commands. -/
protected theorem askOpen {q : Requester} (h : AttemptsKept f s t) : AttemptsKept f s (askOpen (.ft f) q t) := by
  unfold Machine.askOpen
  rcases requestOpen_cases (.ft f) q t with ⟨_, e⟩ | ⟨_, _, e⟩ | ⟨_, _, e⟩ | ⟨_, _, e⟩ <;> rw [e]
  · exact h
  · exact h
  · exact AttemptsKept.guardMain h.takeCommand
  · exact AttemptsKept.guardMain (AttemptsKept.takeCommand (h.trans .of_frame))

end AttemptsKept

namespace TestLost

/-- A further change that leaves the sequences and the evaluators. -/
theorem and (h : TestLost f s t) (hq : u.seqs = t.seqs := by exact rfl) (he : u.evs = t.evs := by exact rfl) :
    TestLost f s u where
  toAttemptsKept := h.toAttemptsKept.trans (.of_frame hq he)
  state := (congrArg (fun v : Vector Sequencer 8 => v[f].state) hq).trans h.state
  cause := (congrArg (fun v : Vector Sequencer 8 => v[f].lockCause) hq).trans h.cause

protected theorem guardMain (h : TestLost f s t) : TestLost f s (guardMain f t) := by
  unfold Machine.guardMain
  split
  · exact (AttemptsKept.takeCommand (h.toAttemptsKept.trans .of_frame)).lockout
  · exact h

theorem of_after (h : TestLost f g t) (hg : AfterFrame s g) : TestLost f s t where
  attempts := h.attempts.trans (congrArg Sequencer.attempts (hg.seq f))
  others e he := (h.others e he).trans (hg.seq e)
  evs := h.evs.trans hg.evs
  state := h.state
  cause := h.cause

end TestLost

theorem sequencerCompletion_lockout {main : Bool} {c : Command} (h : (s.seq f).state = .lockout) :
    sequencerCompletion f main c s = s := by
  unfold sequencerCompletion
  simp only [h]

theorem positionReport_kept (r : DevRecord) (s : State) : AttemptsKept f s (positionReport d r new s) := by
  rw [positionReport_eq]
  exact .of_frame

/-- R46, R99: what a change of a test contactor comes to. -/
theorem positioned_test (hp : (g.dev (.ft f)).pos ≠ new) : positioned (.ft f) new g = guardMain f
    (testNotice f (g.dev (.ft f)).pos new (positionReport (.ft f) (g.dev (.ft f)) new (placed (.ft f) new g))) :=
  if_neg hp

/-- R99, R103: a test contactor that drops out of a watched test: the sequence is locked out, and the contactor opens. -/
theorem frame_drops_test (hp : (g.dev (.ft f)).pos = .closed) (hw : Watched (g.seq f)) (hn : new ≠ .closed)
    (ha : (g.dev (.ft f)).addr ≠ none) (hc : (g.dev (.ft f)).cmd = .toOpen → GoesOn .toOpen new) :
    TestLost f g (commandChecks (.ft f) (positioned (.ft f) new g)) ∧
    ((commandChecks (.ft f) (positioned (.ft f) new g)).dev (.ft f)).pos = new ∧
    ((commandChecks (.ft f) (positioned (.ft f) new g)).dev (.ft f)).cmd = if new = .opened then .none else .toOpen := by
  have hpositioned : positioned (.ft f) new g = guardMain f (lockout f .testContactor (askOpen (.ft f) .sequencer
      (positionReport (.ft f) (g.dev (.ft f)) new (placed (.ft f) new g)))) := by
    rw [positioned_test (by rw [hp]; exact hn.symm), hp, testNotice_drops ?_ hn]
    rw [positionReport_eq]
    exact hw
  have hreported : (positionReport (.ft f) (g.dev (.ft f)) new (placed (.ft f) new g)).dev (.ft f) =
      placedRecord new (deadline g 50) (g.dev (.ft f)) := (positionReport_dev ..).trans (placed_dev ..)
  have hpos := positioned_pos (.ft f) new g
  have hlost : TestLost f g (positioned (.ft f) new g) := by
    rw [hpositioned]
    have hplaced : AttemptsKept f g (placed (.ft f) new g) := .of_frame
    exact (hplaced.trans (positionReport_kept ..)).askOpen.lockout.guardMain
  have hself : (positioned (.ft f) new g).dev (.ft f) = (askOpen (.ft f) .sequencer
      (positionReport (.ft f) (g.dev (.ft f)) new (placed (.ft f) new g))).dev (.ft f) := by
    rw [hpositioned, guardMain_testDev, lockout_dev]
  have hcmd : ((positioned (.ft f) new g).dev (.ft f)).cmd = .toOpen := by
    rw [hself]
    exact askOpen_cmd (by rw [hreported]; exact ha) .sequencer
  have htimer : new = .faulty → ((positioned (.ft f) new g).dev (.ft f)).cmdTimer ≠ none := by
    intro hf
    have hopen : (g.dev (.ft f)).cmd ≠ .toOpen := fun h => (hc h).2 hf
    rw [hself]
    refine ne_of_eq_of_ne (congrArg DevRecord.cmdTimer (requestOpen_dev (by rw [hreported]; exact ha)
      (by rw [hreported]; exact hopen) .sequencer)) nofun
  generalize positioned (.ft f) new g = v at hpos hlost hcmd htimer
  by_cases ho : new = .opened
  · have hchecks : commandChecks (.ft f) v = lateReported (.ft f) v := by
      rw [commandChecks_completes (.inl ⟨hcmd, hpos.trans ho⟩)]
      refine sequencerCompletion_lockout ?_
      rw [lateReported_frame]
      exact hlost.state
    rw [hchecks, lateReported_dev, if_pos ho]
    refine ⟨hlost.and ?_ ?_, hpos, rfl⟩ <;> rw [lateReported_frame] <;> rfl
  · rw [if_neg ho]
    by_cases hf : new = .faulty
    · rw [commandChecks_openFails hcmd (hpos.trans hf) (htimer hf), escalate_self, updDev_failed]
      refine ⟨?_, hpos, hcmd⟩
      rw [escalate_test]
      exact (hlost.toAttemptsKept.trans .of_frame).lockout
    · rw [GoesOn.checks (c := .toOpen) ⟨.inl ⟨rfl, ho⟩, hf⟩ hcmd hpos]
      exact ⟨hlost, hpos, hcmd⟩

/-! ### The guard of an FMf CLOSE (R56) -/

theorem report_breaker {code : ReportCode} (h : classOf code = .breaker) (src : Source) (cause : Option Nat)
    (value : Option Int) (s : State) : (report code src cause value s).reports.occurred[classRank .breaker] =
      bump s.reports.occurred[classRank .breaker] := by
  have hcount (c : ReportClass) (hc : c = .breaker) (q : Vector Nat 8) :
      (q.set (classRank c) (bump q[classRank c]))[classRank .breaker] = bump q[classRank .breaker] := by
    subst hc
    exact Vector.getElem_set_self _
  rw [report, submit_occurred]
  exact hcount _ h _

theorem report_notBreaker {code : ReportCode} (h : classOf code ≠ .breaker) (src : Source) (cause : Option Nat)
    (value : Option Int) (s : State) : (report code src cause value s).reports.occurred[classRank .breaker] =
      s.reports.occurred[classRank .breaker] := by
  have hrank : (classRank (classOf code)).val ≠ classRank .breaker := by
    generalize classOf code = c at h
    cases c <;> simp_all [classRank]
  rw [report, submit_occurred]
  exact Vector.getElem_set_ne _ _ hrank

/-- R56: a CLOSE of the main breaker is withdrawn when its test contactor is not at rest in OPEN. -/
theorem guardMain_withdraws (hc : (s.dev (.fm f)).cmd = .toClose) (ha : (s.dev (.fm f)).addr ≠ none)
    (ho : openAtRest (s.dev (.ft f)) = false) :
    (guardMain f s).dev (.fm f) = commandedRecord (.fm f) .toOpen (some .sequencer) s (s.dev (.fm f)) ∧
    TestLost f s (guardMain f s) ∧
    (guardMain f s).reports.occurred[classRank .breaker] = bump s.reports.occurred[classRank .breaker] := by
  have hguard : guardMain f s = lockout f .testContactor
      (takeCommand (.fm f) .toOpen (some .sequencer) (reportWithdrawn (.fm f) s)) :=
    if_pos (by rw [hc, ho]; rfl)
  have hkept : AttemptsKept f s (reportWithdrawn (.fm f) s) := .of_frame
  rw [hguard]
  refine ⟨?_, hkept.takeCommand.lockout, ?_⟩
  · rw [lockout_dev]
    exact takeCommand_same (.fm f) .toOpen _ (reportWithdrawn (.fm f) s) ha nofun
  · rw [lockout_reports, report_notBreaker (by decide), takeCommand_reports, reportWithdrawn_eq, report_breaker rfl]

/-- R62, R186: a good frame makes no report of a breaker. -/
theorem goodFrame_breaker (s : State) :
    (goodFrame s).reports.occurred[classRank .breaker] = s.reports.occurred[classRank .breaker] := by
  unfold goodFrame
  dsimp only
  split
  · exact report_notBreaker (by decide) _ _ _ _
  · rfl

theorem positioned_steady (d : Device) (new : Position) (g : State) : Steady ∅ g (positioned d new g) := by
  have hplaced : Steady ∅ g (placed d new g) := Steady.rfl.updDev
  exact .ite hplaced hplaced.positionReport.giveNotice.guardPosition

/-- R48: the command times come from the settings. -/
theorem Steady.openTime (h : Steady ∅ s t) (d : Device) : openTime d t = openTime d s := by
  cases d with
  | fm f => simp only [Machine.openTime, h.settings f (Set.notMem_empty _)]
  | ft f => rfl
  | dcm => simp only [Machine.openTime, h.rect (Set.notMem_empty _)]
  | acm => rfl

/-- R46: the report of a test contactor that moves uncommanded. -/
theorem positionReport_test {r : DevRecord} (hc : r.cmd = .none) (hk : new ≠ .unknown) (s : State) :
    positionReport (.ft f) r new s = if new = .faulty then report .positionFaulty (.feeder f) (some 2) (some 0) s
      else if r.pos = .unknown then s
      else report .uncommanded (.feeder f) (some 2) (some (positionCode new)) s := by
  split
  · next hf =>
    rw [hf, positionReport_faulty, hc]
    rfl
  · next hf =>
    split
    · next hu => exact positionReport_unknown hf hu s
    · next hu =>
      rw [positionReport_uncommanded hf hu hk hc]
      rfl

/-- R46, R156: out of UNKNOWN a change that is not to FAULTY makes no report. -/
theorem positionReport_test_breaker {r : DevRecord} (hc : r.cmd = .none) (hk : new ≠ .unknown) (s : State) :
    (positionReport (.ft f) r new s).reports.occurred[classRank .breaker] =
      if new ≠ .faulty ∧ r.pos = .unknown then s.reports.occurred[classRank .breaker]
      else bump s.reports.occurred[classRank .breaker] := by
  rw [positionReport_test hc hk]
  by_cases hf : new = .faulty
  · rw [if_pos hf, if_neg fun h => h.1 hf, report_breaker rfl]
  · rw [if_neg hf]
    by_cases hu : r.pos = .unknown
    · rw [if_pos hu, if_pos ⟨hf, hu⟩]
    · rw [if_neg hu, if_neg fun h => hu h.2, report_breaker rfl]

/-- R46, R56, R99: outside the watched stages, and with no CLOSE of FMf to withdraw, a change of FTf is only reported. -/
theorem positioned_test_quiet (hp : (g.dev (.ft f)).pos ≠ new) (hw : ¬ Watched (g.seq f))
    (hm : (g.dev (.fm f)).cmd = .toClose → new = .opened ∧ (g.dev (.ft f)).cmd = .none) :
    positioned (.ft f) new g = positionReport (.ft f) (g.dev (.ft f)) new (placed (.ft f) new g) := by
  have hstill (w : State) (h : w.seq f = g.seq f) : testNotice f (g.dev (.ft f)).pos new w = w :=
    testNotice_still fun hd => hw (by rw [← h]; exact hd.1)
  rw [positioned_test hp, hstill _ (by rw [positionReport_eq]; rfl), guardMain_of_safe]
  rw [positionReport_dev, positionReport_dev, placed_dev, placed_other (d := .ft f) (e := .fm f) nofun,
    openAtRest_iff]
  exact hm

/-- R46: the record of a test contactor after a change that does not drop a test out, or finds OPEN outstanding. -/
theorem positioned_test_dev (h : Watched (g.seq f) → (g.dev (.ft f)).cmd = .toOpen) :
    (positioned (.ft f) new g).dev (.ft f) = placedRecord new (deadline g 50) (g.dev (.ft f)) := by
  by_cases hp : (g.dev (.ft f)).pos = new
  · rw [show positioned (.ft f) new g = placed (.ft f) new g from if_pos hp, placed_dev]
  · have hreported : (positionReport (.ft f) (g.dev (.ft f)) new (placed (.ft f) new g)).dev (.ft f) =
        placedRecord new (deadline g 50) (g.dev (.ft f)) := (positionReport_dev ..).trans (placed_dev ..)
    have hseq : (positionReport (.ft f) (g.dev (.ft f)) new (placed (.ft f) new g)).seq f = g.seq f := by
      rw [positionReport_eq]
      rfl
    rw [positioned_test hp, guardMain_testDev]
    generalize positionReport (.ft f) (g.dev (.ft f)) new (placed (.ft f) new g) = r at hreported hseq
    by_cases hw : Watched (g.seq f)
    · unfold testNotice
      dsimp only
      split
      · rw [lockout_dev, askOpen_outstanding (by rw [hreported]; exact h hw), hreported]
      · exact hreported
    · rw [testNotice_still fun hd => hw (by rw [← hseq]; exact hd.1), hreported]

/-- R46, R52: the record that becomes FAULTY, when no watched test drops out and no CLOSE of DCM is withdrawn. -/
theorem positioned_faulty_dev (hft : ∀ f, d = .ft f → Watched (g.seq f) → (g.dev d).cmd = .toOpen)
    (hw : d = .dcm → g.rect.wait = .crossing → (g.dev d).cmd = .toOpen) :
    (positioned d .faulty g).dev d = placedRecord .faulty (deadline g 50) (g.dev d) := by
  by_cases htest : ∃ f, d = .ft f
  · obtain ⟨f, rfl⟩ := htest
    exact positioned_test_dev (hft f rfl)
  · refine positioned_dev (fun f hf => htest ⟨f, hf⟩) (fun hdcm hcross => ?_) fun _ _ _ => ⟨nofun, nofun⟩
    subst hdcm
    rw [hw rfl hcross]
    nofun

/-- R56, R103: a test contactor that is not left at rest in OPEN has a CLOSE of FMf withdrawn. -/
theorem positioned_withdraws (hg : AfterFrame s g) (hp : (s.dev (.ft f)).pos ≠ new)
    (hw : ¬ (Watched (s.seq f) ∧ (s.dev (.ft f)).pos = .closed)) (hc : (s.dev (.fm f)).cmd = .toClose)
    (ha : (s.dev (.fm f)).addr ≠ none) (ho : ¬ (new = .opened ∧ (s.dev (.ft f)).cmd = .none)) :
    (positioned (.ft f) new g).dev (.fm f) = commandedRecord (.fm f) .toOpen (some .sequencer) s (s.dev (.fm f)) ∧
    (positioned (.ft f) new g).dev (.ft f) = (placed (.ft f) new g).dev (.ft f) ∧
    TestLost f s (positioned (.ft f) new g) ∧
    (positioned (.ft f) new g).reports.occurred[classRank .breaker] =
      bump (positionReport (.ft f) (s.dev (.ft f)) new (placed (.ft f) new g)).reports.occurred[classRank .breaker] := by
  have hframe := positionReport_eq (.ft f) (g.dev (.ft f)) new (placed (.ft f) new g)
  have hsame (e : Device) : (positionReport (.ft f) (g.dev (.ft f)) new (placed (.ft f) new g)).dev e =
      (placed (.ft f) new g).dev e := positionReport_dev ..
  have hmain : (placed (.ft f) new g).dev (.fm f) = s.dev (.fm f) := (placed_other (d := .ft f) (e := .fm f) nofun).trans (hg.dev _)
  rw [positioned_test (by rw [hg.dev]; exact hp), hg.dev] at *
  generalize positionReport (.ft f) (s.dev (.ft f)) new (placed (.ft f) new g) = r at hframe hsame
  have hseq : r.seq f = s.seq f := by
    rw [hframe]
    exact hg.seq f
  have hstill : testNotice f (s.dev (.ft f)).pos new r = r :=
    testNotice_still fun hd => hw ⟨by rw [← hseq]; exact hd.1, hd.2.1⟩
  have hrest : openAtRest (r.dev (.ft f)) = false := by
    refine Bool.eq_false_iff.2 fun h => ho ?_
    rw [hsame, placed_dev, openAtRest_iff, hg.dev] at h
    exact h
  have hkept : AttemptsKept f s r := by
    rw [hframe]
    exact .trans (t := g) ⟨congrArg _ (hg.seq f), fun e _ => hg.seq e, hg.evs⟩ .of_frame
  obtain ⟨hdev, hlost, hcount⟩ := guardMain_withdraws (s := r) (f := f) (by rw [hsame, hmain]; exact hc)
    (by rw [hsame, hmain]; exact ha) hrest
  rw [hstill]
  refine ⟨?_, (guardMain_testDev ..).trans (hsame _), ⟨hkept.trans hlost.toAttemptsKept, hlost.state, hlost.cause⟩, hcount⟩
  rw [hdev, hsame, hmain]
  have htime : r.time = s.time := by
    rw [hframe]
    exact hg.time
  have hopen : openTime (.fm f) r = openTime (.fm f) s := by
    rw [hframe]
    exact hg.openTime (.fm f)
  simp only [commandedRecord, deadline, nowMs, commandTime, htime, hopen]

/-! ## DCM in the wait for a crossing (R116) -/

/-- R116: DCM leaves CLOSED in the wait for a crossing. -/
theorem positioned_dcm_crossing (hc : (g.dev .dcm).cmd ≠ .none) (hf : new ≠ .faulty) (hn : new ≠ .closed)
    (hp : (g.dev .dcm).pos = .closed) (hs : firing g.rect.state = false) (hw : g.rect.wait = .crossing) :
    positioned .dcm new g = cancelWait 1 (placed .dcm new g) := by
  have hstate : (placed .dcm new g).rect = g.rect := rfl
  rw [positioned_changed (by rw [hp]; exact hn.symm), changed_commanded hc hf, hp]
  show dcNotice .closed new (placed .dcm new g) = _
  unfold dcNotice
  rw [if_neg hn, hstate, hs, hw]
  rfl

/-- R49, R116: a cancelled wait has DCM's CLOSE withdrawn. -/
theorem cancelWait_withdraws {k : Nat} (hw : s.rect.wait ≠ .none) (ha : (s.dev .dcm).addr ≠ none)
    (hc : (s.dev .dcm).cmd = .toClose) :
    (cancelWait k s).dev .dcm = commandedRecord .dcm .toOpen (some .rectifier) s (s.dev .dcm) ∧
    (cancelWait k s).reports = (report .commandWithdrawn .rectifier (some 3)
      (some (((s.dev .dcm).requester.map requesterCode).getD 0 : Nat)) (waitCancelled k s)).reports := by
  have ha' : ((waitCancelled k s).dev .dcm).addr ≠ none := ha
  have hc' : ((waitCancelled k s).dev .dcm).cmd = .toClose := hc
  rw [cancelWait_waiting hw, if_pos hc, askOpen]
  refine ⟨requestOpen_dev ha' (by rw [hc']; nofun) .rectifier, ?_⟩
  rw [requestOpen_replaces ha' hc']
  show (takeCommand _ _ _ _).reports = _
  rw [takeCommand_reports, reportWithdrawn_eq]
  rfl

/-- R51, R54, R119: DCM's OPEN completes with nobody to be told. -/
theorem commandChecks_dcm_rests (hc : (v.dev .dcm).cmd = .toOpen) (hp : (v.dev .dcm).pos = .opened)
    (hf : (v.dev .dcm).flag ≠ .openFail) (hs : v.rect.stopStep ≠ 3) : commandChecks .dcm v = commandEnded .dcm v := by
  rw [commandChecks_completes (.inl ⟨hc, hp⟩), hc, show lateReported .dcm v = commandEnded .dcm v from if_neg fun h => hf h.2]
  exact if_neg hs

/-- R51: the checks on a DCM whose CLOSE has been withdrawn: OPEN completes the new command. -/
theorem commandChecks_dcm_withdrawn (hdev : v.dev .dcm = commandedRecord .dcm .toOpen (some .rectifier) u (u.dev .dcm))
    (hp : (u.dev .dcm).pos = new) (hn : new ≠ .faulty) (hf : (u.dev .dcm).flag = .none) (hs : v.rect.stopStep = 0) :
    commandChecks .dcm v = if new = .opened then commandEnded .dcm v else v := by
  have hcmd : (v.dev .dcm).cmd = .toOpen := by rw [hdev]; rfl
  have hpos : (v.dev .dcm).pos = new := by rw [hdev]; exact hp
  split
  · next ho =>
    exact commandChecks_dcm_rests hcmd (hpos.trans ho) (by rw [hdev]; exact ne_of_eq_of_ne hf nofun)
      (ne_of_eq_of_ne hs nofun)
  · next ho => exact GoesOn.checks ⟨.inl ⟨rfl, ho⟩, hn⟩ hcmd hpos

/-! ## A main breaker's notice (R46) -/

theorem giveNotice_main_rect : (giveNotice (.fm f) old new mark s).rect = s.rect := by
  have hmain := mainNotice_sequenceOnly f old new mark (evaluatorNotice f new s)
  show (mainNotice f old new mark (evaluatorNotice f new s)).rect = s.rect
  rw [hmain, evaluatorNotice_frame]

/-- R46: a main breaker that becomes FAULTY leaves the rectifier. -/
theorem positioned_main_rect : (positioned (.fm f) .faulty g).rect = g.rect := by
  unfold positioned
  split
  · rfl
  · unfold changed
    rw [guardPosition_main_of_safe, giveNotice_main_rect, positionReport_rect]
    · rfl
    · rw [placed_dev]
      exact ⟨nofun, nofun⟩

end Sys2Proof.Machine
end

section
set_option Elab.async false

namespace Sys2Proof.Proofs
open Sys2Proof.Machine

/-- Settles O35: the frame's state by `positionFrame_one`, then the change and the command checks, device by device. -/
theorem positionFrames : Obligations.PositionFrames := by
  refine ⟨fun fr s hd ht hsrc hs => ⟨fun h => ?malformed, fun el po hp hel h1 h4 ho => ?unmatched⟩,
    fun fr d el po s hd ht hsrc hs hp hel hpo ha ho hc => ?repeats,
    fun fr d el po new s hd ht hsrc hs hp hel hpo hmoves ha ho hc hft => ?uncommanded,
    fun fr d el po new s hd ht hsrc hs hp hel hpo hmoves ha ho hc hf hft hw => ?commanded,
    fun fr f el po new s hd ht hsrc hs hp hel hpo hmoves ha ho hc => ?testUncommanded,
    fun fr d el s hd ht hsrc hs hp hel hmoves ha ho => ?faulty,
    fun fr f el po new s hd ht hsrc hs hp hel hpo hmoves ha ho hf hc => ?testCommanded,
    fun fr el po new s hd ht hsrc hs hp hel hpo hmoves ha ho hf hw hfire hc => ?crossing⟩
  case malformed =>
    rw [positionFrame_settled hd ht hsrc hs, takePosition_malformed h]
  case unmatched =>
    have hg := afterFrame_relayed fr s
    rw [positionFrame_settled hd ht hsrc hs, takePosition_unmatched hp hel h1 h4 fun d => by rw [hg.dev]; exact ho d]
  case repeats =>
    have hg := afterFrame_relayed fr s
    rw [positionFrame_one hd ht hsrc hs hp hel hpo ha ho]
    generalize (goodFrame s).updRing (joinRelay fr) = g at hg
    have hplaced : positioned d (s.dev d).pos g = placed d (s.dev d).pos g := if_pos (by rw [hg.dev])
    rw [hplaced, commandChecks_idle (by rw [placed_dev, hg.dev]; exact hc), placed, hg.deadline]
    refine next_eq (updDev_congr ?_)
    rw [hg.dev]
    rfl
  case uncommanded =>
    have hg := afterFrame_relayed fr s
    rw [positionFrame_one hd ht hsrc hs hp hel hpo ha ho]
    generalize (goodFrame s).updRing (joinRelay fr) = g at hg
    intro old moved reported
    have hmoved : placed d new g = moved := hg.placed d new
    have hnone : (g.dev d).cmd = .none := by rw [hg.dev]; exact hc
    have hself := positioned_dev (d := d) (g := g) (new := new) hft (fun hdcm _ h => by subst hdcm; rw [hnone] at h; cases h)
      fun f _ h => by rw [hnone] at h; cases h
    have hgo : commandChecks d (positioned d new g) = guardPosition d moved (giveNotice d old new
        (Machine.uncommanded (s.dev d) new) (positionReport d (s.dev d) new moved)) := by
      rw [commandChecks_idle (by rw [hself]; exact hnone), positioned_changed (by rw [hg.dev]; exact hmoves), changed,
        hmoved, hg.dev]
    rw [hgo]
    clear_value moved
    have hknown := framePosition_known hpo
    refine ⟨fun hf => ?_, fun hf hu => ?_, fun hf hu => ?_⟩
    · rw [hf, uncommanded_faulty hc, positionReport_faulty, hc]
      rfl
    · rw [uncommanded_unknown hf hu, positionReport_unknown hf hu]
    · rw [uncommanded_known hf hu hknown hc, positionReport_uncommanded hf hu hknown hc]
      rfl
  case commanded =>
    have hg := afterFrame_relayed fr s
    rw [positionFrame_one hd ht hsrc hs hp hel hpo ha ho]
    generalize (goodFrame s).updRing (joinRelay fr) = g at hg
    intro moved
    have hmoved : placed d new g = moved := hg.placed d new
    have hgoes : GoesOn (g.dev d).cmd new := by rw [hg.dev]; exact ⟨hc, hf⟩
    rw [positioned_goesOn hft hgoes (by rw [hg.dev, ha]; nofun)
      (fun hdcm h => absurd (by rw [← hg.rect]; exact h) (hw hdcm)), positioned_changed (by rw [hg.dev]; exact hmoves),
      changed_commanded hgoes.commanded hf, hmoved, hg.dev]
  case testUncommanded =>
    have hg := afterFrame_relayed fr s
    have hcount : ((goodFrame s).updRing (joinRelay fr)).reports.occurred[classRank .breaker] =
        s.reports.occurred[classRank .breaker] := goodFrame_breaker s
    rw [positionFrame_one hd ht hsrc hs hp hel hpo ha ho]
    generalize (goodFrame s).updRing (joinRelay fr) = g at hg hcount
    intro old moved reported watched
    have hmoved : placed (.ft f) new g = moved := hg.placed (.ft f) new
    have hknown := framePosition_known hpo
    have hreported : positionReport (.ft f) (s.dev (.ft f)) new moved = reported := positionReport_test hc hknown moved
    refine ⟨fun hw hm => ?quiet, fun hw hm haddr hn => ?withdraws, fun hw hold => ?drops⟩
    case quiet =>
      have hquiet := positioned_test_quiet (g := g) (f := f) (new := new) (by rw [hg.dev]; exact hmoves)
        (by rw [hg.seq]; exact hw) fun h => ⟨hm.resolve_left (not_not.2 (by rw [← hg.dev]; exact h)), by rw [hg.dev]; exact hc⟩
      have hidle : ((positioned (.ft f) new g).dev (.ft f)).cmd = .none := by
        rw [positioned_test_dev fun h => absurd (by rw [hg.seq] at h; exact h) hw, hg.dev]
        exact hc
      rw [commandChecks_idle hidle, hquiet, hmoved, hg.dev, hreported]
    case withdraws =>
      obtain ⟨hmain, htest, hlost, hbreaker⟩ := positioned_withdraws hg hmoves (fun h => hw h.1) hm haddr fun h => hn h.1
      have hself := htest.trans (placed_dev ..)
      rw [hg.dev] at hself
      refine ⟨_, next_eq (commandChecks_idle (by rw [hself]; exact hc)), ?_⟩
      rw [hmain, hself]
      refine ⟨rfl, rfl, rfl, rfl, rfl, hlost.state, hlost.cause, hlost.others, hlost.evs, hbreaker.trans ?_⟩
      have hplaced : moved.reports.occurred[classRank .breaker] = s.reports.occurred[classRank .breaker] := hcount
      rw [hmoved, positionReport_test_breaker hc hknown, hplaced]
      split <;> rfl
    case drops =>
      obtain ⟨hlost, hpos, hcmd⟩ := frame_drops_test (g := g) (f := f) (new := new) (by rw [hg.dev]; exact hold)
        (by rw [hg.seq]; exact hw) (fun hn => hmoves (hold.trans hn.symm)) (by rw [hg.dev, ha]; nofun)
        fun h => by rw [hg.dev, hc] at h; cases h
      have hlost := hlost.of_after hg
      exact ⟨_, rfl, hlost.state, hlost.cause, hlost.attempts, hpos, hcmd, hlost.others, hlost.evs⟩
  case faulty =>
    have hg := afterFrame_relayed fr s
    rw [positionFrame_one (new := .faulty) hd ht hsrc hs hp hel rfl ha ho]
    generalize (goodFrame s).updRing (joinRelay fr) = g at hg
    intro r faulty
    have hrecord : placedRecord .faulty (deadline g 50) (g.dev d) = faulty := by
      rw [hg.deadline, hg.dev]
      rfl
    have haddr (e : Device) : ((positioned d .faulty g).dev e).addr = (s.dev e).addr := by rw [positioned_addr, hg.dev]
    have hself (hft : ∀ f, d = .ft f → Watched (s.seq f) → r.cmd = .toOpen)
        (hw : d = .dcm → s.rect.wait = .crossing → r.cmd = .toOpen) : (positioned d .faulty g).dev d = faulty := by
      rw [← hrecord]
      refine positioned_faulty_dev (fun f h => ?_) ?_
      · rw [hg.seq, hg.dev]
        exact hft f h
      · rw [hg.rect, hg.dev]
        exact hw
    refine ⟨fun hc htimer => ?openFails, fun hc htimer hft => ?openFailed, fun hc hw hft => ?closeFails⟩
    case openFails =>
      have hdev := hself (fun _ _ _ => hc) fun _ _ => hc
      refine ⟨_, next_eq (commandChecks_openFails (by rw [hdev]; exact hc) (by rw [hdev]) (by rw [hdev]; exact htimer)),
        ?_, ?_, ?_, ?_⟩
      · rw [escalate_self, updDev_failed, hdev]
        rfl
      · rintro f rfl
        have hdcm : ((positioned (.fm f) .faulty g).updDev (.fm f) failedRecord).dev .dcm =
            (positioned (.fm f) .faulty g).dev .dcm := State.updDev_dev_ne (d := .fm f) (e := .dcm) _ _ nofun
        rw [escalate_main_dev, escalate_main_rect, escalate_main_seq, escalated_state, State.updDev_rect,
          positioned_main_rect, hg.rect]
        exact ⟨fun h => (escalated_dcm f (by rw [hdcm, haddr]; exact h)).1, rfl, rfl, rfl⟩
      · rintro f rfl
        rw [escalate_test, lockout_seq]
        exact ⟨rfl, rfl⟩
      · rintro rfl h
        refine escalate_dcm_acm ?_
        rw [State.updDev_dev_ne (d := .dcm) (e := .acm) _ _ nofun, haddr]
        exact h
    case openFailed =>
      intro moved
      have hdev := hself (fun _ _ _ => hc) fun _ _ => hc
      have hmoved : placed d .faulty g = moved := updDev_congr hrecord
      rw [commandChecks_openFailed (by rw [hdev]; exact hc) (by rw [hdev]) (by rw [hdev]; exact htimer),
        positioned_changed (by rw [hg.dev]; exact hmoves), changed, hmoved, hg.dev, positionReport_faulty,
        uncommanded_commanded (by rw [show (s.dev d).cmd = .toOpen from hc]; nofun),
        show (s.dev d).cmd = .toOpen from hc]
      rfl
    case closeFails =>
      have hwatched (f : Fin 8) (h : d = .ft f) : ¬ Watched (s.seq f) := by
        obtain ⟨htimer, hmeasuring, _⟩ := hft f h
        exact fun h => h.elim hmeasuring fun h => h.2 htimer
      have hdev := hself (fun f h hw => absurd hw (hwatched f h)) fun h hcross => absurd hcross (hw h)
      have hmain (f : Fin 8) (h : d = .ft f) : ((positioned d .faulty g).dev (.fm f)).cmd ≠ .toClose := by
        subst h
        obtain ⟨_, _, hm⟩ := hft f rfl
        rw [positioned_test_quiet (by rw [hg.dev]; exact hmoves) (by rw [hg.seq]; exact hwatched f rfl)
          fun h => absurd (by rw [← hg.dev]; exact h) hm, positionReport_dev,
          placed_other (d := .ft f) (e := .fm f) nofun, hg.dev]
        exact hm
      have hopen : openTime d (positioned d .faulty g) = openTime d s :=
        ((positioned_steady d .faulty g).openTime d).trans (hg.openTime d)
      have htime : (positioned d .faulty g).time = s.time := (positioned_notified ..).time.trans hg.time
      generalize positioned d .faulty g = v at haddr hdev hmain hopen htime
      refine ⟨_, next_eq ((commandChecks_closeFails (by rw [hdev]; exact hc) (by rw [hdev])).trans (closeFailed_eq hmain)),
        ?_, fun f hf => ?_⟩
      · refine (congrArg (fun p : PerDevice DevRecord => p.get d) (tellCloseFailed_devs ..)).trans ?_
        refine (closeReported_self (by rw [haddr, ha]; nofun)).trans ?_
        simp only [hdev, hopen, deadline, nowMs, htime, Nat.one_mul]
      · rw [tellCloseFailed_feeder hf, lockout_seq]
        exact ⟨rfl, rfl⟩
  case testCommanded =>
    have hg := afterFrame_relayed fr s
    have hcount : ((goodFrame s).updRing (joinRelay fr)).reports.occurred[classRank .breaker] =
        s.reports.occurred[classRank .breaker] := goodFrame_breaker s
    rw [positionFrame_one hd ht hsrc hs hp hel hpo ha ho]
    generalize (goodFrame s).updRing (joinRelay fr) = g at hg hcount
    intro moved dropsOut
    have hmoved : placed (.ft f) new g = moved := hg.placed (.ft f) new
    have hgoes : GoesOn (s.dev (.ft f)).cmd new := ⟨hc, hf⟩
    have hplaced : (placed (.ft f) new g).dev (.ft f) = placedRecord new (deadline g 50) (s.dev (.ft f)) := by
      rw [placed_dev, hg.dev]
    refine ⟨fun hw hm => ?quiet, fun hw hm haddr => ?withdraws, fun hw => ?drops⟩
    case quiet =>
      rw [positioned_test_still (by rw [hg.dev]; exact hgoes.commanded) hf
        (by rw [hg.dev, hg.seq]; exact fun h => hw ⟨h.2.1, h.1⟩) (by rw [hg.dev]; exact hm),
        hgoes.checks (by rw [hplaced]; rfl) (by rw [hplaced]; rfl), hmoved]
    case withdraws =>
      obtain ⟨hmain, htest, hlost, hbreaker⟩ := positioned_withdraws hg hmoves (fun h => hw ⟨h.2, h.1⟩) hm haddr
        fun h => hgoes.commanded h.2
      have hself := htest.trans hplaced
      refine ⟨_, next_eq (hgoes.checks (by rw [hself]; rfl) (by rw [hself]; rfl)), ?_⟩
      rw [hmain, htest, hmoved]
      refine ⟨rfl, rfl, rfl, rfl, hlost.state, hlost.cause, hlost.others, hlost.evs, hbreaker.trans ?_⟩
      rw [positionReport_commanded hgoes.commanded hf]
      exact congrArg bump hcount
    case drops =>
      obtain ⟨hold, hwatched⟩ := hw
      obtain ⟨hlost, hpos, hcmd⟩ := frame_drops_test (g := g) (f := f) (new := new) (by rw [hg.dev]; exact hold)
        (by rw [hg.seq]; exact hwatched) (fun hn => hmoves (hold.trans hn.symm)) (by rw [hg.dev, ha]; nofun)
        fun h => by rw [hg.dev] at h; rw [← h]; exact hgoes
      have hlost := hlost.of_after hg
      exact ⟨_, rfl, hlost.state, hlost.cause, hlost.attempts, hpos, hcmd, hlost.others, hlost.evs⟩
  case crossing =>
    have hg := afterFrame_relayed fr s
    rw [positionFrame_one hd ht hsrc hs hp hel hpo ha ho]
    generalize (goodFrame s).updRing (joinRelay fr) = g at hg
    intro r moved cancelled
    have hmoved : placed .dcm new g = moved := hg.placed .dcm new
    have hgoes : GoesOn (s.dev .dcm).cmd new := ⟨hc, hf⟩
    have hcommanded : (g.dev .dcm).cmd ≠ .none := by rw [hg.dev]; exact hgoes.commanded
    have hfires : firing g.rect.state = false := by rw [hg.rect]; exact hfire
    have hself : moved.dev .dcm = placedRecord new (deadline g 50) (s.dev .dcm) := by
      rw [← hmoved, placed_dev, hg.dev]
    have hcancelled : cancelled.dev .dcm = placedRecord new (deadline g 50) (s.dev .dcm) := hself
    have hcancels (hold : r.pos = .closed) : positioned .dcm new g = cancelWait 1 moved := by
      rw [← hmoved]
      exact positioned_dcm_crossing hcommanded hf (fun hn => hmoves (Eq.trans hold hn.symm))
        (by rw [hg.dev]; exact hold) hfires (by rw [hg.rect]; exact hw)
    have hcrossing : moved.rect.wait ≠ .none := by
      rw [← hmoved]
      show g.rect.wait ≠ .none
      rw [hg.rect, hw]
      nofun
    refine ⟨fun hold => ?still, fun hold hopen => ?cancels, fun hold hclose hflag hstep => ?withdraws⟩
    case still =>
      rw [positioned_dcm_still hcommanded hf (.inr ⟨hfires, fun h => hold (by rw [hg.dev] at h; exact h.2)⟩), hmoved,
        hgoes.checks (by rw [hself]; rfl) (by rw [hself]; rfl)]
    case cancels =>
      have hwait : cancelWait 1 moved = cancelled := by
        rw [cancelWait_waiting hcrossing, if_neg (by rw [hself]; exact fun h => by cases hopen.symm.trans h)]
        rfl
      rw [hcancels hold, hwait, hgoes.checks (v := cancelled) (by rw [hcancelled]; rfl) (by rw [hcancelled]; rfl)]
    case withdraws =>
      have hassigned : (moved.dev .dcm).addr ≠ none := by
        rw [hself]
        exact ne_of_eq_of_ne ha nofun
      obtain ⟨hdev, hreports⟩ := cancelWait_withdraws (k := 1) hcrossing hassigned (by rw [hself]; exact hclose)
      have hrect : (cancelWait 1 moved).rect = { s.rect with wait := .none } := by
        rw [cancelWait_rect, ← hg.rect]
        rfl
      have hother (e : Device) (he : e ≠ .dcm) : (cancelWait 1 moved).dev e = s.dev e :=
        (cancelWait_other he 1 moved).trans ((State.updDev_dev_ne _ _ he).trans (hg.dev e))
      have htold : (report .commandWithdrawn .rectifier (some 3)
          (some (((moved.dev .dcm).requester.map requesterCode).getD 0 : Nat)) (waitCancelled 1 moved)).reports =
          (report .commandWithdrawn .rectifier (some 3) (some ((r.requester.map requesterCode).getD 0 : Nat))
            cancelled).reports := by
        rw [hself]
        rfl
      rw [hcancels hold]
      generalize cancelWait 1 moved = v at hdev hreports hrect hother
      have hkept : (moved.dev .dcm).flag = .none := by rw [hself]; exact hflag
      rw [commandChecks_dcm_withdrawn hdev (by rw [hself]; rfl) hf hkept (by rw [hrect]; exact hstep)]
      by_cases hopen : new = .opened
      · rw [if_pos hopen]
        refine ⟨_, rfl, hrect, hreports.trans htold, fun ht => absurd (hopen.symm.trans ht) nofun, fun _ => ?_,
          fun e he => (commandEnded_other he).trans (hother e he)⟩
        rw [commandEnded_dev, hdev, completedRecord, commandedRecord]
        simp only [hkept]
        rfl
      · rw [if_neg hopen]
        have hdeadline (ms : Nat) : deadline moved ms = s.time.now + ms * Config.unitsPerMs := hg.deadline ms
        have hnow : nowMs moved = s.time.now / Config.unitsPerMs := by rw [← hg.time]; rfl
        have hopenTime : commandTime .dcm .toOpen moved = openTime .dcm s := hg.openTime .dcm
        refine ⟨v, rfl, hrect, hreports.trans htold, fun _ => ?_, fun ho => absurd ho hopen, hother⟩
        rw [hdev, commandedRecord, hdeadline, hdeadline, hnow, hopenTime, Nat.one_mul]

end Sys2Proof.Proofs
end

section
set_option Elab.async false

/-! SUPPORT. The Intertrip Controller's record: when its transmit queue is in order (R78, R79), when its timers go with its
wires (R65 to R69), and what an enqueue and the controller's own operations make of both. -/

namespace Sys2Proof.Machine

/-! ## The transmit queue (R78, R79) -/

/-- R78, R79: one entry for a section, an entry to send while SENDING, and a change mark on the entry in flight alone. -/
structure QueueInOrder (sending : Prop) (q : List TxEntry) : Prop where
  codes : (q.map (·.code)).Nodup
  head : sending → q ≠ []
  tail : ∀ e ∈ q.drop 1, e.changed = false
  still : ¬ sending → ∀ e ∈ q, e.changed = false

namespace QueueInOrder
variable {p r : Prop} {q rest : List TxEntry} {e x : TxEntry}

protected theorem congr (h : QueueInOrder p q) (hp : p ↔ r) : QueueInOrder r q := by
  rwa [← propext hp]

/-- R77, R83: an empty queue is in order outside SENDING. -/
theorem empty (hr : ¬ r) : QueueInOrder r [] := ⟨List.nodup_nil, fun h => absurd h hr, nofun, fun _ => nofun⟩

/-- Outside SENDING no entry carries a mark, so the queue is in order in whatever state follows. -/
theorem unmarked (h : QueueInOrder p q) (hp : ¬ p) (hr : r → q ≠ []) : QueueInOrder r q :=
  ⟨h.codes, hr, h.tail, fun _ => h.still hp⟩

/-- R77: the head, its mark cleared, stands for the section as before. -/
theorem replaceHead (h : QueueInOrder p (e :: rest)) (hcode : x.code = e.code) (hmark : x.changed = false) :
    QueueInOrder r (x :: rest) where
  codes := by
    have hcodes := h.codes
    rwa [List.map_cons, ← hcode, ← List.map_cons] at hcodes
  head _ := nofun
  tail := h.tail
  still _ := List.forall_mem_cons.2 ⟨hmark, h.tail⟩

/-- R77: the head leaves the queue. -/
theorem dropHead (h : QueueInOrder p (e :: rest)) (hr : ¬ r) : QueueInOrder r rest where
  codes := (List.nodup_cons.1 h.codes).2
  head hs := absurd hs hr
  tail x hx := h.tail x (List.drop_subset 1 rest hx)
  still _ := h.tail

/-- R79: the mark of the head is cleared when its attempt is given up. -/
theorem clearHead (h : QueueInOrder p q) (hr : ¬ r) : QueueInOrder r (clearHeadMark q) := by
  cases q with
  | nil => exact empty hr
  | cons e rest => exact h.replaceHead rfl rfl

end QueueInOrder

/-- R78: a superseded entry carries a mark when it is in flight, or carried one before. -/
theorem supersede_unmarked {k : Kind} {e : TxEntry} (h : e.changed = false) : (supersede false k e).changed = false := by
  unfold supersede
  split
  · exact h
  · rfl

/-- R78: with no entry in flight an enqueue makes no mark. -/
theorem enterTx_unmarked {code : Byte} {k : Kind} {q : List TxEntry} (h : ∀ e ∈ q, e.changed = false) :
    ∀ e ∈ enterTx false code k q, e.changed = false := by
  induction q with
  | nil => exact List.forall_mem_singleton.2 rfl
  | cons e rest ih =>
    obtain ⟨he, hrest⟩ := List.forall_mem_cons.1 h
    unfold enterTx
    split
    · exact List.forall_mem_cons.2 ⟨supersede_unmarked he, hrest⟩
    · exact List.forall_mem_cons.2 ⟨he, ih hrest⟩

theorem enterTx_ne_nil (b : Bool) (code : Byte) (k : Kind) (q : List TxEntry) : enterTx b code k q ≠ [] := by
  cases q with
  | nil => exact List.cons_ne_nil _ _
  | cons e rest =>
    unfold enterTx
    split <;> exact List.cons_ne_nil _ _

/-- R78, R79: an enqueue marks no entry but the head. -/
theorem enterTx_tail {b : Bool} {code : Byte} {k : Kind} {q : List TxEntry} (h : ∀ e ∈ q.drop 1, e.changed = false) :
    ∀ e ∈ (enterTx b code k q).drop 1, e.changed = false := by
  cases q with
  | nil => exact nofun
  | cons e rest =>
    unfold enterTx
    split
    · exact h
    · exact enterTx_unmarked h

/-- R78, R79: an enqueue keeps the queue in order. -/
theorem QueueInOrder.enter {p : Prop} [Decidable p] {q : List TxEntry} (h : QueueInOrder p q) (code : Byte) (k : Kind) :
    QueueInOrder p (enterTx (decide p) code k q) where
  codes := enterTx_nodup _ code k q h.codes
  head _ := enterTx_ne_nil _ code k q
  tail := enterTx_tail h.tail
  still hp := by
    rw [decide_eq_false hp]
    exact enterTx_unmarked (h.still hp)

/-! ## The whole record -/

/-- R66, R74: a wire that this part drives is low, CK in SENDING alone and DT in SENDING and RECEIVING; a time of its own
as a contender runs in SENDING alone, and while it drives CK. -/
structure LineCtl.Driven (l : LineCtl) : Prop where
  phase : l.phaseAt ≠ none → l.state = .sending
  ck : l.driveCk = true → l.ckLow = true ∧ l.state = .sending ∧ l.phaseAt ≠ none
  dt : l.driveDt = true → l.dtLow = true ∧ (l.state = .sending ∨ l.state = .receiving)

/-- What TransmitConsistent says, of the Intertrip Controller's record. -/
structure LineCtl.Consistent (l : LineCtl) : Prop where
  free : l.freeSince ≠ none ↔ l.state ≠ .sending ∧ l.state ≠ .receiving ∧ l.ckLow = false ∧ l.dtLow = false
  low : l.lowAt ≠ none → l.ckLow = true ∨ l.dtLow = true
  watched : l.state ≠ .fault → l.ckLow = true ∨ l.dtLow = true → l.lowAt ≠ none
  driven : l.Driven
  queued : QueueInOrder (l.state = .sending) l.queue

theorem transmitConsistent_iff (s : State) : TransmitConsistent s ↔ s.line.Consistent := by
  constructor
  · rintro ⟨⟨hfree, hlow, hwatched, hphase, hck, hdt⟩, hcodes, hhead, hmarks⟩
    refine ⟨hfree, hlow, hwatched, ⟨hphase, hck, hdt⟩, hcodes, hhead, fun e he => ?_, fun hs => ?_⟩
    · by_cases hs : s.line.state = .sending
      · rw [if_pos hs] at hmarks
        exact hmarks e he
      · rw [if_neg hs] at hmarks
        exact hmarks e (List.drop_subset 1 _ he)
    · rwa [if_neg hs] at hmarks
  · rintro ⟨hfree, hlow, hwatched, ⟨hphase, hck, hdt⟩, hcodes, hhead, htail, hstill⟩
    refine ⟨⟨hfree, hlow, hwatched, hphase, hck, hdt⟩, hcodes, hhead, ?_⟩
    by_cases hs : s.line.state = .sending
    · rwa [if_pos hs]
    · rw [if_neg hs]
      exact hstill hs

/-- R65 to R69: after an event on the line both timers go with the wires, whatever they were before. -/
theorem LineCtl.timed_consistent {l : LineCtl} (hd : l.Driven) (hq : QueueInOrder (l.state = .sending) l.queue)
    (now : Nat) : (l.timed now).Consistent where
  free := l.timed_freeSince now
  low := (l.timed_lowAt now).1
  watched _ := (l.timed_lowAt now).2
  driven := ⟨hd.phase, hd.ck, hd.dt⟩
  queued := hq

namespace LineCtl

/-- Outside SENDING this part drives no CK and times nothing of its own. -/
theorem Driven.quiet {l : LineCtl} (h : l.Driven) (hs : l.state ≠ .sending) : l.driveCk = false ∧ l.phaseAt = none :=
  ⟨Bool.eq_false_iff.2 fun hc => hs (h.ck hc).2.1, by_contra fun hp => hs (h.phase hp)⟩

/-- Outside SENDING and RECEIVING it drives no wire. -/
theorem Driven.released {l : LineCtl} (h : l.Driven) (hs : l.state ≠ .sending) (hr : l.state ≠ .receiving) :
    l.driveDt = false :=
  Bool.eq_false_iff.2 fun hd => (h.dt hd).2.elim hs hr

/-- A part that drives nothing and times nothing. -/
theorem Driven.idle {l : LineCtl} (hp : l.phaseAt = none) (hc : l.driveCk = false) (hd : l.driveDt = false) : l.Driven :=
  ⟨fun h => absurd hp h, fun h => (by rw [hc] at h; cases h), fun h => (by rw [hd] at h; cases h)⟩

namespace Consistent
variable {l : LineCtl}

/-- A running bus-free timer says that both wires are high outside a message. -/
theorem of_free {t : Nat} (h : l.Consistent) (ht : l.freeSince = some t) :
    l.state ≠ .sending ∧ l.state ≠ .receiving ∧ l.ckLow = false ∧ l.dtLow = false :=
  h.free.1 (by rw [ht]; nofun)

/-- R81, R72: what is counted, and what is accepted, is no part of it. -/
theorem recount (h : l.Consistent) (a : Option (Byte × Kind)) (c : LineCounters) :
    ({ l with accepted := a, counters := c } : LineCtl).Consistent :=
  ⟨h.free, h.low, h.watched, ⟨h.driven.phase, h.driven.ck, h.driven.dt⟩, h.queued⟩

/-- R80: nor is the table. -/
theorem retable (h : l.Consistent) (t : Option LineTable) : ({ l with table := t } : LineCtl).Consistent :=
  ⟨h.free, h.low, h.watched, ⟨h.driven.phase, h.driven.ck, h.driven.dt⟩, h.queued⟩

/-- Another queue in order. -/
theorem requeue {q : List TxEntry} (h : l.Consistent) (hq : QueueInOrder (l.state = .sending) q) :
    ({ l with queue := q } : LineCtl).Consistent :=
  ⟨h.free, h.low, h.watched, ⟨h.driven.phase, h.driven.ck, h.driven.dt⟩, hq⟩

/-- R68: with the bus-free timer running the line may be called FREE. -/
theorem freed {t : Nat} (h : l.Consistent) (ht : l.freeSince = some t) : ({ l with state := .free } : LineCtl).Consistent := by
  obtain ⟨hs, hr, hck, hdt⟩ := h.of_free ht
  obtain ⟨hdrive, hphase⟩ := h.driven.quiet hs
  refine ⟨?_, h.low, fun _ hw => ?_, .idle hphase hdrive (h.driven.released hs hr), h.queued.unmarked hs nofun⟩
  · exact ⟨fun _ => ⟨nofun, nofun, hck, hdt⟩, fun _ => by rw [ht]; nofun⟩
  · simp [hck, hdt] at hw

end Consistent
end LineCtl

end Sys2Proof.Machine
end

section
set_option Elab.async false

/-! SUPPORT. The Intertrip Controller's own operations keep its record consistent: the events on the wires, the ends of its
timers, an attempt to send, and what a message read off the line is judged to be. -/

namespace Sys2Proof.Machine

variable {s t : State} {l : LineCtl}

/-- R65: an event on the line, by what it makes of the wires and the queue. -/
theorem updWires_consistent {g : LineCtl → LineCtl} (hd : (g s.line).Driven)
    (hq : QueueInOrder ((g s.line).state = .sending) (g s.line).queue) : (updWires g s).line.Consistent :=
  LineCtl.timed_consistent hd hq _

/-- R68: a stop, from whatever the wires were. -/
theorem goWaiting_consistent (hq : QueueInOrder False s.line.queue) : (goWaiting s).line.Consistent :=
  updWires_consistent (.idle rfl rfl rfl) (hq.congr (iff_of_false id nofun))

/-- R67, R71: and a start. -/
theorem startReceive_consistent (hq : QueueInOrder False s.line.queue) : (startReceive s).line.Consistent :=
  updWires_consistent (.idle rfl rfl rfl) (hq.congr (iff_of_false id nofun))

theorem endMessage_consistent (hq : QueueInOrder False s.line.queue) (restart : Bool) :
    (endMessage restart s).line.Consistent := by
  cases restart with
  | false => exact goWaiting_consistent hq
  | true => exact startReceive_consistent hq

theorem canReceive_iff : canReceive l = true ↔ l.state ≠ .sending ∧ l.state ≠ .fault := by
  simp [canReceive]

namespace LineCtl.Consistent

/-- Outside SENDING the queue is in order for a line that sends nothing. -/
theorem still (h : l.Consistent) (hs : l.state ≠ .sending) : QueueInOrder False l.queue :=
  h.queued.congr (iff_false_intro hs)

protected theorem ite {p : Prop} [Decidable p] (hs : s.line.Consistent) (ht : t.line.Consistent) :
    (if p then s else t).line.Consistent := by split <;> assumption

/-- What leaves the Intertrip Controller alone. -/
theorem frame (h : s.line.Consistent) (e : t.line = s.line) : t.line.Consistent := e ▸ h

protected theorem enqueue {f : Fin 8} {k : Kind} (h : s.line.Consistent) : (enqueue f k s).line.Consistent := by
  unfold Machine.enqueue
  split
  · exact h
  · next t _ => exact .ite h (h.requeue (h.queued.enter t.sections[f] k))

protected theorem advanceTo {n : Nat} (h : s.line.Consistent) : (advanceTo n s).line.Consistent :=
  h.frame (advanceTo_line n s)

/-! ## Falls, rises and timers (R65 to R69) -/

protected theorem abandonMessage {restart : Bool} (h : s.line.Consistent) :
    (abandonMessage restart s).line.Consistent := by
  unfold Machine.abandonMessage
  split
  · next hc =>
    refine endMessage_consistent ?_ restart
    split <;> exact h.still (canReceive_iff.1 hc).1
  · exact h

/-- R67, R68: a low event outside a message. -/
theorem lowEvent {ck dt : Bool} {st : LineState} (h : s.line.Consistent) (hs : s.line.state ≠ .sending)
    (hr : s.line.state ≠ .receiving) (hst : st ≠ .sending) :
    (updWires (fun l => { l with state := st, ckLow := ck, dtLow := dt }) s).line.Consistent := by
  obtain ⟨hck, hphase⟩ := h.driven.quiet hs
  exact updWires_consistent (.idle hphase hck (h.driven.released hs hr)) (h.queued.unmarked hs fun he => absurd he hst)

/-- A wire that this part does not drive falls in a message. -/
theorem fallsInMessage {dt : Bool} (h : s.line.Consistent) (hdt : s.line.driveDt = true → dt = true) :
    (updWires (fun l => { l with dtLow := dt }) s).line.Consistent :=
  updWires_consistent ⟨h.driven.phase, h.driven.ck, fun hd => ⟨hdt hd, (h.driven.dt hd).2⟩⟩ h.queued

protected theorem dataFalls (h : s.line.Consistent) : (dataFalls s).line.Consistent := by
  unfold Machine.dataFalls
  dsimp only
  split
  · next hw =>
    exact .ite (h.lowEvent (ck := s.line.ckLow) (by rw [hw]; nofun) (by rw [hw]; nofun) nofun)
      (startReceive_consistent (h.still (by rw [hw]; nofun)))
  · next hw =>
    exact .ite (h.lowEvent (ck := s.line.ckLow) (by rw [hw]; nofun) (by rw [hw]; nofun) nofun)
      (startReceive_consistent (h.still (by rw [hw]; nofun)))
  · exact .ite (h.fallsInMessage fun _ => rfl) h.abandonMessage
  · exact h.fallsInMessage fun _ => rfl
  · exact h.fallsInMessage fun _ => rfl

/-- R74: a clock of the message being sent. -/
theorem senderClock {n : Nat} {dt : Bool} {at_ : Nat} (h : s.line.Consistent) (hs : s.line.state = .sending) :
    (updWires (fun l => { l with clocks := n, phaseAt := some at_ }.drive true dt) s).line.Consistent :=
  updWires_consistent ⟨fun _ => hs, fun _ => ⟨rfl, hs, nofun⟩, fun hd => ⟨(LineCtl.drive_low true dt _).2 hd, .inl hs⟩⟩
    h.queued

/-- R72: a clock of the message being received; the receiver can drive DT in it. -/
theorem receiverClock_falls {n : Nat} {dt : LineCtl → Bool} (h : s.line.Consistent) (hr : s.line.state = .receiving) :
    (updWires (fun l => { l with clocks := n, ckLow := true }.drive false (dt l)) s).line.Consistent := by
  have hs : s.line.state ≠ .sending := by rw [hr]; nofun
  exact updWires_consistent ⟨h.driven.phase, nofun, fun hd => ⟨(LineCtl.drive_low false _ _).2 hd, .inr hr⟩⟩ h.queued

/-- R66, R67: CK rises, and DT with it or not; a rise that this part's own high time runs from leaves CK to it. -/
theorem rises {d : Nat} {b : Prop} [Decidable b] {dt : Bool} (h : s.line.Consistent)
    (hdt : s.line.driveDt = true → dt = true) :
    (updWires (fun l => { (if b then l.risen d else l) with ckLow := false, dtLow := dt, driveCk := false }) s).line.Consistent := by
  have hrisen : ∃ p, (if b then s.line.risen d else s.line) = { s.line with phaseAt := p } ∧
      (p ≠ none → s.line.state = .sending) := by
    split
    · rcases s.line.risen_cases d with ⟨e, _⟩ | ⟨e, hs, _⟩ | ⟨e, hs, _⟩
      · exact ⟨_, e, h.driven.phase⟩
      · exact ⟨_, e, fun _ => hs⟩
      · exact ⟨_, e, fun _ => hs⟩
    · exact ⟨_, rfl, h.driven.phase⟩
  obtain ⟨p, hp, hphase⟩ := hrisen
  refine updWires_consistent ?_ ?_ <;> rw [hp]
  · exact ⟨hphase, nofun, fun hd => ⟨hdt hd, (h.driven.dt hd).2⟩⟩
  · exact h.queued

protected theorem bothHigh (h : s.line.Consistent) : (bothHigh s).line.Consistent := by
  unfold Machine.bothHigh
  dsimp only
  split
  · exact h
  · next hc =>
    simp only [Bool.or_eq_true, not_or, Bool.not_eq_true] at hc
    exact .ite h.abandonMessage (h.rises fun hd => by rw [hc.1] at hd; cases hd)

/-- R69: a line fault leaves a wire low and no timer running. -/
theorem faulted {k : Held} {c : LineCounters} (h : s.line.Consistent) :
    ({ s.line.noMessage with
      state := .fault, freeSince := none, lowAt := none,
      queue := if s.line.state = .sending then clearHeadMark s.line.queue else s.line.queue,
      ckLow := k ≠ .dt, dtLow := k ≠ .ck, driveCk := false, driveDt := false, counters := c } : LineCtl).Consistent where
  free := by
    refine iff_of_false (fun hn => hn rfl) ?_
    rintro ⟨_, _, hck, hdt⟩
    cases k
    · cases hck
    · cases hdt
    · cases hck
  low := nofun
  watched hn := absurd rfl hn
  driven := .idle rfl rfl rfl
  queued := by
    split
    · exact h.queued.clearHead nofun
    · next hs => exact h.queued.unmarked hs nofun

protected theorem lowExpired {k : Held} (h : s.line.Consistent) : (lowExpired k s).line.Consistent := by
  unfold Machine.lowExpired
  split
  · next hf =>
    cases hl : s.line.lowAt with
    | none => exact h
    | some d =>
      rw [whenExpired_some]
      have ha := h.advanceTo (n := d)
      rw [← advanceTo_line d s] at hf
      exact ⟨ha.free, nofun, fun hn => absurd hf hn, ⟨ha.driven.phase, ha.driven.ck, ha.driven.dt⟩, ha.queued⟩
  · cases hl : s.line.lowAt with
    | none => exact h
    | some d => exact h.advanceTo.faulted

protected theorem becomeFree {n : Nat} (h : s.line.Consistent) (hn : s.line.freeSince = some n) :
    (becomeFree s).line.Consistent := .ite (h.freed hn) (h.freed hn)

protected theorem busFreeExpired (h : s.line.Consistent) : (busFreeExpired s).line.Consistent := by
  unfold Machine.busFreeExpired
  split
  · exact h
  · next n hn => exact .ite (h.advanceTo.becomeFree (by rw [advanceTo_line]; exact hn)) h

/-! ## Sending (R74 to R77) -/

protected theorem startSending (h : s.line.Consistent) : (startSending s).line.Consistent := by
  unfold Machine.startSending
  split
  · next e rest hf hq =>
    refine updWires_consistent ⟨fun _ => rfl, nofun, fun _ => ⟨rfl, .inl rfl⟩⟩
      (h.queued.unmarked (by rw [hf]; nofun) fun _ => ?_)
    rw [hq]
    nofun
  · exact h

protected theorem loseArbitration {clock : Fin 14} (h : s.line.Consistent) :
    (loseArbitration clock s).line.Consistent :=
  .ite (updWires_consistent (.idle rfl rfl rfl) (h.queued.clearHead nofun)) h

/-- R77: what the end of an attempt makes of the queue, for a line that sends nothing more. -/
theorem settled {ack : Bool} (h : QueueInOrder (s.line.state = .sending) s.line.queue) (hs : s.line.state = .sending) :
    QueueInOrder False (settleHead ack s).line.queue := by
  unfold settleHead
  split
  · next hq => exact absurd hq (h.head hs)
  · next e rest hq =>
    rw [hq] at h
    dsimp only
    split
    · exact h.replaceHead rfl rfl
    · next hc =>
      split
      · exact h.dropHead id
      · split
        · exact h.replaceHead rfl (Bool.eq_false_iff.2 hc)
        · exact h.dropHead id

protected theorem endAttempt {ack : Bool} (h : s.line.Consistent) : (endAttempt ack s).line.Consistent := by
  unfold Machine.endAttempt
  split
  · next hs => exact goWaiting_consistent (settled h.queued hs)
  · exact h

protected theorem phaseReleases (h : s.line.Consistent) :
    (updWires (fun l => { l with driveCk := false, phaseAt := none }) s).line.Consistent :=
  updWires_consistent ⟨nofun, nofun, h.driven.dt⟩ h.queued

/-! ## Receiving (R71, R72) -/

protected theorem judgeBits {bits : List Bool} (h : s.line.Consistent) : (judgeBits bits s).line.Consistent := by
  obtain ⟨a, c, e, _⟩ := judgeBits_eq bits s
  rw [e]
  exact h.recount a c

protected theorem judgeRecord (h : s.line.Consistent) : (judgeRecord s).line.Consistent := .ite h.judgeBits h

protected theorem lostArbitration {clock : Fin 14} (h : s.line.Consistent) :
    (lostArbitration clock s).line.Consistent := .ite h.loseArbitration.judgeRecord h

/-- R67: a sample shows CK high, and DT as it reads and as this part drives it. -/
theorem sampled {bit : Bool} {heard : List Bool} (h : s.line.Consistent) (hr : s.line.state = .receiving) :
    (updWires (fun l => { l with ckLow := false, dtLow := !bit || l.driveDt, heard := heard }) s).line.Consistent := by
  have hck := (h.driven.quiet (by rw [hr]; nofun)).1
  exact updWires_consistent ⟨h.driven.phase, fun hd => (by rw [hck] at hd; cases hd),
    fun hd => ⟨Bool.or_eq_true_iff.2 (.inr hd), .inr hr⟩⟩ h.queued

protected theorem receiveSample {bit : Bool} (h : s.line.Consistent) (hr : s.line.state = .receiving) :
    (receiveSample bit s).line.Consistent :=
  .ite (h.sampled hr) (.ite (h.sampled hr).judgeRecord h)

protected theorem senderSample {bit : Bool} (h : s.line.Consistent) : (senderSample bit s).line.Consistent := by
  unfold Machine.senderSample
  dsimp only
  refine .ite h ?_
  split
  · exact h.lostArbitration
  · exact h.rises (d := s.time.now + halfBit / 2) (b := s.line.ckLow = true) fun hd => Bool.or_eq_true_iff.2 (.inr hd)

protected theorem sampleLine {bit : Bool} (h : s.line.Consistent) : (sampleLine bit s).line.Consistent := by
  unfold Machine.sampleLine
  split
  · next hr => exact h.receiveSample hr
  · exact h.senderSample
  · exact h
  · exact h
  · exact h

/-! ## Adoption and RESTART (R80, R83) -/

protected theorem adoptLine {bank : List Byte} (h : s.line.Consistent) : (adoptLine bank s).line.Consistent := by
  have hadopted := h.retable (some (lineTableOf bank))
  unfold Machine.adoptLine adoptLineTable
  dsimp only
  split
  · exact hadopted
  · next n hn => exact .ite (LineCtl.Consistent.becomeFree hadopted hn) hadopted

/-- R83: the message in progress is given up and this part releases the wires; the queue is emptied in every state. -/
protected theorem restartLine (h : s.line.Consistent) : (restartLine s).line.Consistent := by
  have hdropped (c : LineCounters) : (LineCtl.timed s.time.now { ({ s.line.noMessage with
      state := .waiting, freeSince := none }.drive false false) with queue := [], counters := c }).Consistent :=
    LineCtl.timed_consistent (.idle rfl rfl rfl) (.empty nofun) _
  unfold Machine.restartLine
  dsimp only
  split
  · exact hdropped _
  · exact hdropped _
  · next hs _ => exact (h.requeue (.empty hs)).recount _ _

end LineCtl.Consistent

end Sys2Proof.Machine
end

section
set_option Elab.async false

/-! SUPPORT. Outside an adoption of the intertrip table every other block touches the Intertrip Controller by enqueues alone
(R78): `EnqueuesOnly` relates the controller's record before and after, and each operation of those blocks is met once. -/

namespace Sys2Proof.Machine

/-- The transmit queue alone has changed, and it is in order if it was (R78, R79). -/
structure EnqueuesOnly (l m : LineCtl) : Prop where
  frame : m = { l with queue := m.queue }
  queued : QueueInOrder (l.state = .sending) l.queue → QueueInOrder (l.state = .sending) m.queue

namespace EnqueuesOnly
variable {l m n : LineCtl} {s t : State} {f : Fin 8} {d : Device} {by_ : Requester}

protected theorem refl (l : LineCtl) : EnqueuesOnly l l := ⟨rfl, id⟩

protected theorem rfl : EnqueuesOnly l l := .refl l

theorem state (h : EnqueuesOnly l m) : m.state = l.state := by rw [h.frame]

theorem table (h : EnqueuesOnly l m) : m.table = l.table := by rw [h.frame]

protected theorem trans (h : EnqueuesOnly l m) (k : EnqueuesOnly m n) : EnqueuesOnly l n where
  frame := by rw [k.frame, h.frame]
  queued hq := by
    rw [← h.state] at hq ⊢
    exact k.queued (by rw [h.state] at hq ⊢; exact h.queued hq)

/-- What is consistent stays so. -/
theorem consistent (h : EnqueuesOnly l m) (hl : l.Consistent) : m.Consistent := by
  rw [h.frame]
  exact hl.requeue (h.queued hl.queued)

/-- A further change that leaves the Intertrip Controller alone. -/
theorem and (h : EnqueuesOnly l s.line) (e : t.line = s.line) : EnqueuesOnly l t.line := e ▸ h

protected theorem ite {p : Prop} [Decidable p] (hs : EnqueuesOnly l s.line) (ht : EnqueuesOnly l t.line) :
    EnqueuesOnly l (if p then s else t).line := by split <;> assumption

protected theorem forEach {α : Type} {as : List α} {k : α → State → State} (h : EnqueuesOnly l s.line)
    (hk : ∀ a u, EnqueuesOnly l u.line → EnqueuesOnly l (k a u).line) : EnqueuesOnly l (forEach as k s).line :=
  forEach_keeps (fun u => EnqueuesOnly l u.line) k as (fun a _ u => hk a u) s h

protected theorem enqueue {k : Kind} (h : EnqueuesOnly l s.line) : EnqueuesOnly l (enqueue f k s).line := by
  refine h.trans ⟨by rw [enqueue_eq], fun hq => ?_⟩
  unfold Machine.enqueue
  split
  · exact hq
  · split
    · exact hq
    · exact hq.enter _ k

/-! ## The Switchgear Supervisor -/

protected theorem lockout {cause : LockoutCause} (h : EnqueuesOnly l s.line) : EnqueuesOnly l (lockout f cause s).line := by
  rw [lockout_line]
  exact h.enqueue

protected theorem takeCommand {c : Command} {q : Option Requester} (h : EnqueuesOnly l s.line) :
    EnqueuesOnly l (takeCommand d c q s).line := h.and (by rw [takeCommand_eq])

protected theorem guardMain (h : EnqueuesOnly l s.line) : EnqueuesOnly l (guardMain f s).line :=
  .ite (EnqueuesOnly.takeCommand (s := reportWithdrawn (.fm f) s) h).lockout h

protected theorem guardCommand (h : EnqueuesOnly l s.line) : EnqueuesOnly l (guardCommand d s).line := by
  unfold Machine.guardCommand
  split
  · exact h.guardMain
  · exact h

protected theorem requestOpen (h : EnqueuesOnly l s.line) : EnqueuesOnly l (requestOpen d by_ s).2.line := by
  rcases requestOpen_cases d by_ s with ⟨_, e⟩ | ⟨_, _, e⟩ | ⟨_, _, e⟩ | ⟨_, _, e⟩ <;> rw [e]
  · exact h
  · exact h
  · exact h.takeCommand.guardCommand
  · exact (EnqueuesOnly.takeCommand (s := reportWithdrawn d s) h).guardCommand

protected theorem askOpen (h : EnqueuesOnly l s.line) : EnqueuesOnly l (askOpen d by_ s).line := h.requestOpen

protected theorem requestClose (h : EnqueuesOnly l s.line) : EnqueuesOnly l (requestClose d by_ s).2.line := by
  rcases requestClose_cases d by_ s with ⟨_, e⟩ | ⟨_, _, e⟩ | ⟨_, _, e⟩ <;> rw [e]
  · exact h
  · exact h
  · exact h.takeCommand

protected theorem guardPosition {changed : State} (h : EnqueuesOnly l s.line) :
    EnqueuesOnly l (guardPosition d changed s).line := by
  unfold Machine.guardPosition
  split
  · exact .ite h.askOpen.lockout h
  · exact h.guardMain
  · exact h

protected theorem repeatExpired (h : EnqueuesOnly l s.line) : EnqueuesOnly l (repeatExpired d s).line :=
  .ite h (h.and (by rw [sendCommand_eq]))

protected theorem clearFlagAtRest (h : EnqueuesOnly l s.line) : EnqueuesOnly l (clearFlagAtRest d s).line := .ite h h

protected theorem restartSwitchgear (h : EnqueuesOnly l s.line) : EnqueuesOnly l (restartSwitchgear s).line := by
  have hcleared := h.forEach (as := deviceList)
    (k := fun d s => (endCommand d s).updDev d fun r => { r with flag := .none }) fun _ _ hu => hu
  dsimp only [Machine.restartSwitchgear]
  exact hcleared

/-! ## The Feeder Evaluators -/

protected theorem trigger {cause : Cause} {src : Source} (h : EnqueuesOnly l s.line) :
    EnqueuesOnly l (trigger cause src s).2.line := h.and (by rw [trigger_eq])

protected theorem settle (h : EnqueuesOnly l s.line) : EnqueuesOnly l (settle f s).line :=
  h.and (by rw [Notified.settle_frame])

protected theorem tripDecision {cause : Cause} {value : Int} (h : EnqueuesOnly l s.line) :
    EnqueuesOnly l (tripDecision f cause value s).line := by
  have hasked : EnqueuesOnly l (Machine.askOpen (.fm f) .feederProtection (s.updEv f fun e => { e.clearElements with
      state := .tripping, pendingTrip := some cause, lastTrip := some (cause, value) })).line := EnqueuesOnly.askOpen h
  unfold Machine.tripDecision
  dsimp only
  rw [tellTrip_frame]
  split
  · exact hasked.trigger
  · exact EnqueuesOnly.enqueue hasked.trigger

protected theorem channelLoss (h : EnqueuesOnly l s.line) : EnqueuesOnly l (channelLoss f s).line := by
  unfold Machine.channelLoss
  split
  · exact h
  · split
    · exact h
    · exact h.tripDecision

protected theorem viewChange {new : ChanState} (h : EnqueuesOnly l s.line) :
    EnqueuesOnly l (viewChange f new s).line := by
  have hsettled : EnqueuesOnly l (Machine.settle f (s.updEv f fun e => { e with chanView := new })).line :=
    EnqueuesOnly.settle h
  have hlost : EnqueuesOnly l (Machine.channelLoss f (s.updEv f fun e => { e with chanView := new })).line :=
    EnqueuesOnly.channelLoss h
  unfold Machine.viewChange
  dsimp only
  split
  · exact .ite hsettled h
  · exact .ite hsettled h
  · exact h
  · exact .ite hlost h
  · exact .ite hlost h

protected theorem evaluatorNotice {new : Position} (h : EnqueuesOnly l s.line) :
    EnqueuesOnly l (evaluatorNotice f new s).line := by
  have hsettled {g : Evaluator → Evaluator} : EnqueuesOnly l (Machine.settle f (s.updEv f g)).line :=
    EnqueuesOnly.settle h
  unfold Machine.evaluatorNotice
  dsimp only
  split
  · exact .ite hsettled h
  · exact .ite h h
  · exact .ite h h
  · rw [updEv_updEv]
    exact .ite hsettled h
  · exact h

protected theorem intertripTrip {code : Byte} (h : EnqueuesOnly l s.line) :
    EnqueuesOnly l (intertripTrip f code s).line := by
  unfold Machine.intertripTrip
  dsimp only
  split
  · exact .ite h h.tripDecision
  · exact .ite h h.tripDecision
  · exact .ite h h.tripDecision
  · exact h
  · exact h

protected theorem testEnd {ft : FeederSettings} {slope : Int} (h : EnqueuesOnly l s.line) :
    EnqueuesOnly l (testEnd f ft slope s).line := by
  unfold Machine.testEnd
  dsimp only
  split <;> exact h

protected theorem missingStep {ft : FeederSettings} (h : EnqueuesOnly l s.line) :
    EnqueuesOnly l (missingStep f ft s).line := by
  unfold Machine.missingStep
  dsimp only
  split
  · exact EnqueuesOnly.testEnd h
  · exact h

protected theorem ownStep {ft : FeederSettings} {own old : Instant} (h : EnqueuesOnly l s.line) :
    EnqueuesOnly l (ownStep f ft own old s).line := by
  have hstart {u : State} (hu : EnqueuesOnly l u.line) : EnqueuesOnly l (startTest f ft own old u).line :=
    .ite (.ite (EnqueuesOnly.trigger hu) hu) hu
  unfold Machine.ownStep
  refine .ite h.tripDecision ?_
  dsimp only
  split
  · exact .ite h.tripDecision (hstart h)
  · exact .ite h.tripDecision (.ite h.tripDecision (EnqueuesOnly.testEnd h))
  · exact h

protected theorem evaluatorAdopt {ft : FeederSettings} {b : Bool} (h : EnqueuesOnly l s.line) :
    EnqueuesOnly l (evaluatorAdopt f ft b s).line := by
  have hsettled {g : Evaluator → Evaluator} : EnqueuesOnly l (Machine.settle f (s.updEv f g)).line :=
    EnqueuesOnly.settle h
  exact .ite (.ite hsettled hsettled) h

protected theorem restartEvaluator (h : EnqueuesOnly l s.line) : EnqueuesOnly l (restartEvaluator f s).line := by
  unfold Machine.restartEvaluator
  dsimp only
  split
  · split
    · exact h.askOpen
    · exact h.askOpen.and (by rw [tellTrip_frame])
  · exact .ite h h

/-! ## The Reclose Sequencers -/

protected theorem waitDead {n : Nat} (h : EnqueuesOnly l s.line) : EnqueuesOnly l (waitDead f n s).line := .ite h h

protected theorem closingEntry (h : EnqueuesOnly l s.line) : EnqueuesOnly l (closingEntry f s).line := by
  have hasked : EnqueuesOnly l (Machine.requestClose (.fm f) .sequencer s).2.line := h.requestClose
  exact .ite h.lockout <| .ite h <| .ite h <| .ite hasked hasked.lockout

protected theorem testingEntry (h : EnqueuesOnly l s.line) : EnqueuesOnly l (testingEntry f s).line := by
  have hasked : EnqueuesOnly l (Machine.requestClose (.ft f) .sequencer s).2.line := h.requestClose
  exact .ite h.lockout <| .ite (EnqueuesOnly.closingEntry h) <| .ite hasked hasked.lockout

protected theorem testStart (h : EnqueuesOnly l s.line) : EnqueuesOnly l (testStart f s).line :=
  .ite h <| .ite h h.testingEntry

protected theorem testOutcome {o : TestOutcome} {r uB uL : Option Nat} {value : Option Int}
    (h : EnqueuesOnly l s.line) : EnqueuesOnly l (testOutcome f o r uB uL value s).line :=
  EnqueuesOnly.askOpen (d := .ft f) (by_ := .sequencer) (s := testResult f o r uB uL value s) h

protected theorem settleExpired (h : EnqueuesOnly l s.line) : EnqueuesOnly l (settleExpired f s).line :=
  .ite h h.testOutcome

protected theorem takeSequencerCopy {k : Copy} (h : EnqueuesOnly l s.line) :
    EnqueuesOnly l (takeSequencerCopy f k s).line := by
  have hworked {g : Sequencer → Sequencer} : EnqueuesOnly l (workOut f (s.updSeq f g)).line :=
    .ite (EnqueuesOnly.testOutcome h) (.ite (EnqueuesOnly.testOutcome h) (EnqueuesOnly.testOutcome h))
  unfold Machine.takeSequencerCopy
  dsimp only
  split
  · refine .ite ?_ h
    split
    · exact h.closingEntry
    · exact h.testingEntry
  · exact .ite (.ite h.testOutcome (.ite hworked h)) h
  · exact h

protected theorem sequencerStateNotice {n : StateNotice} (h : EnqueuesOnly l s.line) :
    EnqueuesOnly l (sequencerStateNotice f n s).line := .ite h.testOutcome h

protected theorem busChannelChanged (h : EnqueuesOnly l s.line) : EnqueuesOnly l (busChannelChanged f s).line :=
  .ite (.ite h h.testOutcome) h

protected theorem interruptTest (h : EnqueuesOnly l s.line) : EnqueuesOnly l (interruptTest f s).line :=
  EnqueuesOnly.askOpen (d := .ft f) (by_ := .sequencer) (s := clearSums f s) h

protected theorem testCleared (h : EnqueuesOnly l s.line) : EnqueuesOnly l (testCleared f s).line := by
  unfold Machine.testCleared
  dsimp only
  split
  · exact h
  · exact h.closingEntry
  · exact h.closingEntry
  · exact .ite (EnqueuesOnly.waitDead h) (EnqueuesOnly.lockout h)
  · exact .ite h h
  · exact h.lockout
  · exact .ite h h.testStart

protected theorem holdNotice (h : EnqueuesOnly l s.line) : EnqueuesOnly l (holdNotice f s).line := by
  unfold Machine.holdNotice
  dsimp only
  split
  · exact h
  · exact h
  · exact EnqueuesOnly.interruptTest h
  · exact EnqueuesOnly.interruptTest h
  · exact .ite (EnqueuesOnly.askOpen (d := .fm f) (by_ := .sequencer) h) h
  · exact h

protected theorem releaseHold (h : EnqueuesOnly l s.line) : EnqueuesOnly l (releaseHold f s).line :=
  .ite (EnqueuesOnly.testStart h) h

protected theorem sequenceStart (h : EnqueuesOnly l s.line) : EnqueuesOnly l (sequenceStart f s).line :=
  .ite h <| .ite (EnqueuesOnly.lockout h) <| .ite (EnqueuesOnly.lockout h) (EnqueuesOnly.waitDead h)

protected theorem retrip (h : EnqueuesOnly l s.line) : EnqueuesOnly l (retrip f s).line :=
  .ite (EnqueuesOnly.lockout h) <| .ite (EnqueuesOnly.waitDead h) (EnqueuesOnly.lockout h)

protected theorem mainNotice {old new : Position} {mark : Bool} (h : EnqueuesOnly l s.line) :
    EnqueuesOnly l (mainNotice f old new mark s).line := by
  unfold Machine.mainNotice
  dsimp only
  split
  · exact .ite h (.ite h.sequenceStart h)
  · exact .ite (.ite h.sequenceStart h) h
  · exact .ite h h
  · exact .ite h h
  · exact .ite h h
  · exact .ite h.retrip h
  · exact .ite h.retrip h
  · exact .ite h h
  all_goals exact h

protected theorem sequencerCompletion {isMain : Bool} {c : Command} (h : EnqueuesOnly l s.line) :
    EnqueuesOnly l (sequencerCompletion f isMain c s).line := by
  unfold Machine.sequencerCompletion
  dsimp only
  split
  · exact h
  · exact h.testCleared
  · exact h
  · exact .ite (.ite h h.testStart) h
  · exact h

protected theorem reclaimExpired (h : EnqueuesOnly l s.line) : EnqueuesOnly l (reclaimExpired f s).line :=
  EnqueuesOnly.enqueue h

protected theorem operatorOpen (h : EnqueuesOnly l s.line) : EnqueuesOnly l (operatorOpen f s).2.line := by
  have hasked : EnqueuesOnly l (Machine.requestOpen (.fm f) .operator s).2.line := h.requestOpen
  unfold Machine.operatorOpen
  dsimp only
  generalize Machine.requestOpen (.fm f) .operator s = r at hasked
  have hboth : EnqueuesOnly l (if (r.2.dev (.ft f)).pos ≠ .opened || (r.2.dev (.ft f)).cmd ≠ .none then
      Machine.askOpen (.ft f) .operator r.2 else r.2).line := .ite hasked.askOpen hasked
  generalize (if (r.2.dev (.ft f)).pos ≠ .opened || (r.2.dev (.ft f)).cmd ≠ .none then
      Machine.askOpen (.ft f) .operator r.2 else r.2) = both at hboth
  split
  · exact h
  · split
    · exact hboth
    · split <;> exact hboth

protected theorem operatorClose (h : EnqueuesOnly l s.line) : EnqueuesOnly l (operatorClose f s).line :=
  EnqueuesOnly.testStart (f := f) (s := report .sequenceStart (.feeder f) (some 6) (some 1)
    (s.updSeq f fun q => { q with attempts := 0, limit := 1, noted := none })) h

protected theorem resetLockout (h : EnqueuesOnly l s.line) : EnqueuesOnly l (resetLockout f s).line := by
  have hcleared : EnqueuesOnly l (Machine.clearFlagAtRest (.ft f) (Machine.clearFlagAtRest (.fm f) s)).line :=
    h.clearFlagAtRest.clearFlagAtRest
  unfold Machine.resetLockout
  generalize Machine.clearFlagAtRest (.ft f) (Machine.clearFlagAtRest (.fm f) s) = u at hcleared
  exact EnqueuesOnly.enqueue hcleared

/-! ## The Rectifier Group Controller -/

protected theorem rectTrip {cause : Cause} {value : Int} (h : EnqueuesOnly l s.line) :
    EnqueuesOnly l (rectTrip cause value s).line := h.and (by rw [rectTrip_frame])

protected theorem cancelWait {cause : Nat} (h : EnqueuesOnly l s.line) : EnqueuesOnly l (cancelWait cause s).line :=
  .ite h <| .ite (EnqueuesOnly.askOpen h) h

protected theorem stopFailed (h : EnqueuesOnly l s.line) : EnqueuesOnly l (stopFailed s).line :=
  h.and (stopFailed_line s)

protected theorem beginBreakerStep {n : Nat} (h : EnqueuesOnly l s.line) :
    EnqueuesOnly l (beginBreakerStep n d s).line := by
  have hasked : EnqueuesOnly l (Machine.requestOpen d .rectifier (setStopStep n s)).2.line := EnqueuesOnly.requestOpen h
  exact .ite hasked hasked.stopFailed

protected theorem becomeBlocked (h : EnqueuesOnly l s.line) : EnqueuesOnly l (becomeBlocked s).line := .ite h h

protected theorem currentLost {c : Fin 24} {left : Bool} (h : EnqueuesOnly l s.line) :
    EnqueuesOnly l (currentLost c left s).line := .ite h.rectTrip <| .ite h.stopFailed h

protected theorem takeCurrentCopy {k : Copy} (h : EnqueuesOnly l s.line) :
    EnqueuesOnly l (takeCurrentCopy k s).line := by
  have hover {rt : RectSettings} {u : State} (hu : EnqueuesOnly l u.line) : EnqueuesOnly l (overcurrent rt k u).line :=
    .ite (.ite hu.rectTrip hu) hu
  have hadded {u : State} (hu : EnqueuesOnly l u.line) : EnqueuesOnly l (addCurrent k.own u).line := .ite hu hu
  have hstop {rt : RectSettings} {u : State} (hu : EnqueuesOnly l u.line) : EnqueuesOnly l (stopArrival rt k u).line :=
    .ite (.ite hu.beginBreakerStep hu) hu
  unfold Machine.takeCurrentCopy
  split
  · exact h
  · exact .ite (hstop (hadded (hover (.ite h h.currentLost)))) h

protected theorem takeBusCopy {k : Copy} (h : EnqueuesOnly l s.line) : EnqueuesOnly l (takeBusCopy k s).line :=
  .ite (.ite h h) h

protected theorem trackerTo {st : TrackState} {cause value : Nat} (h : EnqueuesOnly l s.line) :
    EnqueuesOnly l (trackerTo st cause value s).line :=
  .ite (.ite (EnqueuesOnly.rectTrip h) (EnqueuesOnly.cancelWait h)) h

protected theorem rectStateNotice {n : StateNotice} (h : EnqueuesOnly l s.line) :
    EnqueuesOnly l (rectStateNotice n s).line := by
  unfold Machine.rectStateNotice
  split
  · exact h
  · next r _ =>
    have htracked : EnqueuesOnly l (if r.uabChan = n.chan then trackerChannelLost s else s).line := .ite h.trackerTo h
    exact .ite (.ite htracked.currentLost htracked) h

protected theorem acNotice {new : Position} {mark : Bool} (h : EnqueuesOnly l s.line) :
    EnqueuesOnly l (acNotice new mark s).line := by
  have hoff : EnqueuesOnly l (Machine.cancelWait 4 (rectGo .off s)).line := EnqueuesOnly.cancelWait h
  have hended : EnqueuesOnly l (if (Machine.cancelWait 4 (rectGo .off s)).rect.stopStep = 4 then
      Machine.cancelWait 4 (rectGo .off s) else setStopStep 0 (Machine.cancelWait 4 (rectGo .off s))).line := .ite hoff hoff
  unfold Machine.acNotice
  dsimp only
  split
  · exact .ite h (.ite h h)
  · exact .ite h (.ite hended hended)
  · exact .ite h.rectTrip h
  · exact .ite h.rectTrip h
  · exact .ite h.rectTrip h
  · exact h

protected theorem dcNotice {old new : Position} (h : EnqueuesOnly l s.line) :
    EnqueuesOnly l (dcNotice old new s).line :=
  .ite h <| .ite h.becomeBlocked <| .ite h.cancelWait h

protected theorem rectCompletion {c : Command} (h : EnqueuesOnly l s.line) :
    EnqueuesOnly l (rectCompletion d c s).line := by
  unfold Machine.rectCompletion
  split
  · exact .ite h h
  · exact .ite h.beginBreakerStep h
  · exact .ite h h
  · exact h

protected theorem rectOpenFailed (h : EnqueuesOnly l s.line) : EnqueuesOnly l (rectOpenFailed d s).line :=
  h.and (rectOpenFailed_line d s)

protected theorem closeAc (h : EnqueuesOnly l s.line) : EnqueuesOnly l (closeAc s).2.line := by
  unfold Machine.closeAc
  split
  · exact h.requestClose
  · exact h

protected theorem deblock (h : EnqueuesOnly l s.line) : EnqueuesOnly l (deblock s).2.line := by
  unfold Machine.deblock
  split
  · exact h
  · split
    · exact h
    · dsimp only
      split
      · exact h
      · split
        · exact h.requestClose (d := .dcm) (by_ := .rectifier)
        · exact h

protected theorem block (h : EnqueuesOnly l s.line) : EnqueuesOnly l (block s).2.line := by
  unfold Machine.block
  split <;> exact h

protected theorem stopFull (h : EnqueuesOnly l s.line) : EnqueuesOnly l (stopFull s).2.line := by
  unfold Machine.stopFull
  split
  · exact h
  · split
    · exact h
    · exact h
    · exact h
    · exact h.cancelWait (cause := 5)
    · exact h

protected theorem resetRect (h : EnqueuesOnly l s.line) : EnqueuesOnly l (resetRect s).2.line := by
  unfold Machine.resetRect
  split
  · exact h.clearFlagAtRest.clearFlagAtRest (d := .acm)
  · exact h

/-! ## The regulator and the firing scheduler -/

protected theorem regulatorStep {rt : RectSettings} (h : EnqueuesOnly l s.line) :
    EnqueuesOnly l (regulatorStep rt s).line := by
  have hlimited {b : Bool} : EnqueuesOnly l (setLimitFlag b (resumeRegulator s)).line := .ite (.ite h h) (.ite h h)
  have hrunning {uTgt : Int} {u : State} (hu : EnqueuesOnly l u.line) : EnqueuesOnly l (testRunning rt uTgt u).line :=
    .ite hu hu
  exact .ite (.ite h h) (hrunning hlimited)

protected theorem endWait {rt : RectSettings} {at_ : Int} (h : EnqueuesOnly l s.line) :
    EnqueuesOnly l (endWait rt at_ s).line := .ite h.cancelWait <| .ite h.cancelWait h

protected theorem firingFallsDue (h : EnqueuesOnly l s.line) : EnqueuesOnly l (firingFallsDue s).line := by
  unfold Machine.firingFallsDue
  split
  · exact h
  · have hdue {n : Nat} : EnqueuesOnly l (advanceTo n s).line := h.and (advanceTo_line n s)
    exact .ite (EnqueuesOnly.becomeBlocked hdue) hdue

protected theorem timeoutCheck (h : EnqueuesOnly l s.line) : EnqueuesOnly l (timeoutCheck s).line := by
  unfold Machine.timeoutCheck
  dsimp only
  split
  · exact .ite h.trackerTo h
  · exact h

/-! ## Positions -/

protected theorem giveNotice {old new : Position} {mark : Bool} (h : EnqueuesOnly l s.line) :
    EnqueuesOnly l (giveNotice d old new mark s).line := by
  unfold Machine.giveNotice
  split
  · exact h.evaluatorNotice.mainNotice
  · exact .ite h.askOpen.lockout h
  · exact h.dcNotice
  · exact h.acNotice

protected theorem escalate (h : EnqueuesOnly l s.line) : EnqueuesOnly l (escalate d s).line := by
  unfold Machine.escalate
  split
  · exact EnqueuesOnly.lockout h.askOpen.rectTrip.enqueue.trigger
  · exact EnqueuesOnly.lockout h
  · exact EnqueuesOnly.rectOpenFailed (h.askOpen (d := .acm) (by_ := .escalation))
  · exact EnqueuesOnly.rectOpenFailed h

protected theorem openFailed (h : EnqueuesOnly l s.line) : EnqueuesOnly l (openFailed d s).line := EnqueuesOnly.escalate h

protected theorem tellCloseFailed (h : EnqueuesOnly l s.line) : EnqueuesOnly l (tellCloseFailed d s).line := by
  unfold Machine.tellCloseFailed
  split
  · exact h.lockout
  · exact h.lockout
  · exact .ite h.rectTrip h
  · exact h

protected theorem closeFailed (h : EnqueuesOnly l s.line) : EnqueuesOnly l (closeFailed d s).line :=
  EnqueuesOnly.guardCommand (EnqueuesOnly.tellCloseFailed
    (EnqueuesOnly.takeCommand (s := s.updDev d fun r => { r with flag := .closeFail }) h))

protected theorem tellCompleted {c : Command} (h : EnqueuesOnly l s.line) : EnqueuesOnly l (tellCompleted d c s).line := by
  unfold Machine.tellCompleted
  split
  · exact h.sequencerCompletion
  · exact h.sequencerCompletion
  · exact h.rectCompletion

protected theorem commandChecks (h : EnqueuesOnly l s.line) : EnqueuesOnly l (commandChecks d s).line := by
  have hcompleted : EnqueuesOnly l (completeCommand d s).line := EnqueuesOnly.tellCompleted (.ite h h)
  unfold Machine.commandChecks
  dsimp only
  split
  · exact hcompleted
  · exact hcompleted
  · exact .ite h h.openFailed
  · exact h.closeFailed
  · exact h

protected theorem openTimerExpired (h : EnqueuesOnly l s.line) : EnqueuesOnly l (openTimerExpired d s).line :=
  .ite h.openFailed h

protected theorem closeTimerExpired (h : EnqueuesOnly l s.line) : EnqueuesOnly l (closeTimerExpired d s).line :=
  .ite h.closeFailed h

/-! ## Adoption by the other blocks, and state notices -/

protected theorem takeAddress {a : Byte × Byte} (h : EnqueuesOnly l s.line) : EnqueuesOnly l (takeAddress d a s).line := by
  have hmoved : EnqueuesOnly l (readdress d a s).line :=
    .ite h <| .ite h <| .ite (EnqueuesOnly.and h (by rw [sendCommand_eq]; rfl)) h
  exact .ite hmoved hmoved.giveNotice.guardPosition

protected theorem adoptFeeder {b : Bool} {bank : List Byte} (h : EnqueuesOnly l s.line) :
    EnqueuesOnly l (adoptFeeder b bank f s).line :=
  (EnqueuesOnly.takeAddress (s := sequencerAdopt f (planOf bank f) (evaluatorAdopt f (feederOf bank f) b s))
    h.evaluatorAdopt).takeAddress

protected theorem rectChannelsMove {old : Option RectSettings} {rt : RectSettings} (h : EnqueuesOnly l s.line) :
    EnqueuesOnly l (rectChannelsMove old rt s).line := by
  have hbus : EnqueuesOnly l (if old.map (fun o => o.busChan) = some rt.busChan then s
      else forEach feeders busChannelChanged s).line := .ite h (h.forEach fun _ _ hu => hu.busChannelChanged)
  unfold Machine.rectChannelsMove
  dsimp only
  generalize (if old.map (fun o => o.busChan) = some rt.busChan then s
      else forEach feeders busChannelChanged s) = bus at hbus
  have huab : EnqueuesOnly l (if old.map (fun o => o.uabChan) = some rt.uabChan then bus
      else trackerTo .unlocked 4 bus.rect.tracker.p256 bus).line := .ite hbus hbus.trackerTo
  split
  · exact huab
  · exact .ite (EnqueuesOnly.rectTrip huab) huab

protected theorem adoptRect {bank : List Byte} (h : EnqueuesOnly l s.line) : EnqueuesOnly l (adoptRect bank s).line := by
  rw [adoptRect_eq]
  exact (EnqueuesOnly.takeAddress (EnqueuesOnly.rectChannelsMove (s := clampAlpha (rectOf bank) s) h)).takeAddress

protected theorem stateNotice {n : StateNotice} (h : EnqueuesOnly l s.line) : EnqueuesOnly l (stateNotice n s).line := by
  refine h.forEach fun k u hu => ?_
  unfold noticeTo
  split
  · exact hu.viewChange
  · exact hu.sequencerStateNotice
  · exact hu.rectStateNotice
  · exact hu

protected theorem adoptStreams {bank : List Byte} (h : EnqueuesOnly l s.line) : EnqueuesOnly l (adoptStreams bank s).line := by
  rw [adoptStreams_eq]
  exact (h.and (State.updMatcher_line ..)).forEach fun c u hu =>
    .ite hu (.ite hu (EnqueuesOnly.stateNotice (s := u.updChan c resetChannel) hu))

/-! ## Messages on the intertrip line (R73) -/

protected theorem applyMessage {code : Byte} {k : Kind} (h : EnqueuesOnly l s.line) :
    EnqueuesOnly l (applyMessage code k f s).line := by
  unfold Machine.applyMessage
  split
  · exact h.intertripTrip.holdNotice
  · exact h.holdNotice
  · exact h.releaseHold

end EnqueuesOnly

end Sys2Proof.Machine
end

section
set_option Elab.async false

/-! SUPPORT. The Intertrip Controller's record stays consistent through a look at the safe points, an accepted message, the
arrivals, RESTART, the requests and the frames, and through every command. -/

namespace Sys2Proof.Machine

namespace LineCtl.Consistent
variable {s t : State} {f : Fin 8} {d : Device}

/-- What touches the line by enqueues alone (R78). -/
theorem enqueues (h : s.line.Consistent) (k : EnqueuesOnly s.line t.line) : t.line.Consistent := k.consistent h

protected theorem forEach {α : Type} {as : List α} {k : α → State → State} (h : s.line.Consistent)
    (hk : ∀ a u, u.line.Consistent → (k a u).line.Consistent) : (forEach as k s).line.Consistent :=
  forEach_keeps (fun u => u.line.Consistent) k as (fun a _ u => hk a u) s h

/-! ## Adoption (R149) -/

protected theorem adoptIf {k : Fin 13} {safe : State → Bool} {adopt : List Byte → State → State}
    (h : s.line.Consistent) (ha : ∀ bank u, u.line.Consistent → (adopt bank u).line.Consistent) :
    (adoptIf k safe adopt s).line.Consistent := by
  rcases adoptIf_cases k safe adopt s with e | ⟨_, _, _, _, e⟩ <;> rw [e]
  · exact h
  · exact (ha _ _ h).frame (by rw [clearMark_eq])

/-- A round over the consumers, whatever their safe points. -/
protected theorem adoptRound {feeder : Fin 8 → State → Bool} {rect line capture : State → Bool} {settles : Bool}
    (h : s.line.Consistent) : (forEach feeders (fun f => Machine.adoptIf (feederMark f) (feeder f) fun b =>
      adoptFeeder settles b f) s |> Machine.adoptIf 9 rect adoptRect |> Machine.adoptIf 10 line adoptLine |>
      Machine.adoptIf 12 capture adoptCapture).line.Consistent := by
  have hfeeders := h.forEach (as := feeders)
    (k := fun f => Machine.adoptIf (feederMark f) (feeder f) fun b => adoptFeeder settles b f)
    fun _ _ hu => hu.adoptIf fun _ _ hv => hv.enqueues EnqueuesOnly.rfl.adoptFeeder
  exact ((hfeeders.adoptIf fun _ _ hu => hu.enqueues EnqueuesOnly.rfl.adoptRect).adoptIf
    fun _ _ => LineCtl.Consistent.adoptLine).adoptIf fun _ _ hu => hu

protected theorem sweeps {n : Nat} (h : s.line.Consistent) : (sweeps n s).line.Consistent :=
  sweeps_keeps (fun u => u.line.Consistent) (fun _ hu => hu.adoptRound) n s h

protected theorem rebuildConsumers (h : s.line.Consistent) : (rebuildConsumers s).line.Consistent :=
  h.frame (by rw [rebuildConsumers_eq])

protected theorem finish (h : s.line.Consistent) : (finish s).line.Consistent := .ite h.sweeps.rebuildConsumers h

protected theorem adoptRectAtCrossing (h : s.line.Consistent) : (adoptRectAtCrossing s).line.Consistent :=
  .ite (LineCtl.Consistent.adoptIf h fun _ _ hu => hu.enqueues EnqueuesOnly.rfl.adoptRect).rebuildConsumers h

protected theorem completePending (h : s.line.Consistent) : (completePending s).line.Consistent :=
  .ite (h.adoptRound (settles := false)).rebuildConsumers h

protected theorem startSwitch (h : s.line.Consistent) : (startSwitch s).line.Consistent := by
  have hbegun (u : State) (hu : u.line.Consistent) :
      (Machine.adoptAlways 11 adoptReports (Machine.adoptAlways 0 adoptStreams u)).line.Consistent :=
    (hu.adoptIf fun _ _ hv => hv.enqueues EnqueuesOnly.rfl.adoptStreams).adoptIf fun _ _ hv => hv
  have hmarked : (s.updBanks fun k => { k with
      target := some (standby s), mask := Vector.replicate 13 true }).line.Consistent := h
  have hlast (u : State) (hu : u.line.Consistent) : (rebuildConsumers (Machine.sweeps 13 u)).line.Consistent :=
    hu.sweeps.rebuildConsumers
  unfold Machine.startSwitch
  dsimp only
  refine hlast _ ?_
  split
  · exact (hbegun _ hmarked).adoptRound
  · exact hbegun _ hmarked

/-! ## Messages on the intertrip line (R72) -/

/-- R72: an accepted message is applied by enqueues alone. -/
theorem applyAccepted_enqueues (s : State) :
    EnqueuesOnly { s.line with accepted := none } (applyAccepted s).line := by
  unfold applyAccepted
  split
  · next ha => rw [← ha]; exact .rfl
  · exact EnqueuesOnly.forEach (s := s.updLine fun l => { l with accepted := none }) .rfl fun _ _ hu => hu.applyMessage

protected theorem applyAccepted (h : s.line.Consistent) : (applyAccepted s).line.Consistent :=
  (applyAccepted_enqueues s).consistent (h.recount none s.line.counters)

protected theorem receiverClock (h : s.line.Consistent) (hr : s.line.state = .receiving) :
    (receiverClock s).line.Consistent :=
  .ite (h.receiverClock_falls hr).applyAccepted.finish (h.receiverClock_falls hr)

protected theorem clockFalls (h : s.line.Consistent) : (clockFalls s).line.Consistent := by
  unfold Machine.clockFalls
  dsimp only
  split
  · next hs => exact h.senderClock hs
  · next hr => exact h.receiverClock hr
  · next hw => exact h.lowEvent (dt := s.line.dtLow) (by rw [hw]; nofun) (by rw [hw]; nofun) nofun
  · next hw => exact h.lowEvent (dt := s.line.dtLow) (by rw [hw]; nofun) (by rw [hw]; nofun) nofun
  · next hw =>
    exact h.lowEvent (st := s.line.state) (dt := s.line.dtLow) (by rw [hw]; nofun) (by rw [hw]; nofun) (by rw [hw]; nofun)

protected theorem lineLow {w : Wire} (h : s.line.Consistent) : (lineLow w s).line.Consistent := by
  unfold Machine.lineLow
  split
  · exact .ite h h.clockFalls
  · exact .ite h h.dataFalls

protected theorem idleCycle (h : s.line.Consistent) : (idleCycle s).line.Consistent := by
  have hends : (phaseEnds (tick s)).line.Consistent :=
    .ite (LineCtl.Consistent.phaseReleases h.advanceTo) (LineCtl.Consistent.lineLow h.advanceTo)
  exact .ite hends h.advanceTo

/-- R71, R72: outside SENDING a message is judged and applied up to its end. -/
protected theorem receiveMessage {r : Reception} {restart : Bool} (h : s.line.Consistent) :
    (receiveMessage r restart s).line.Consistent := by
  unfold Machine.receiveMessage
  split
  · exact h.sampleLine
  · next bits =>
    unfold receiveWhole
    split
    · next hc =>
      have hjudged {u : State} (hu : u.line.Consistent) (hs : u.line.state ≠ .sending) :
          (endMessage restart (Machine.applyAccepted u)).line.Consistent :=
        endMessage_consistent (hu.applyAccepted.still (by rwa [(applyAccepted_enqueues u).state])) restart
      have hs := (canReceive_iff.1 hc).1
      split
      · exact hjudged h hs
      · refine hjudged h.judgeBits ?_
        obtain ⟨_, _, e, _⟩ := judgeBits_eq (receivedBits s.line bits) s
        rwa [e]
    · exact h

/-! ## Positions -/

protected theorem ownerNotice {old new : Position} {mark : Bool} (h : s.line.Consistent) :
    (ownerNotice d old new mark s).line.Consistent := by
  unfold Machine.ownerNotice
  split
  · exact ((h.enqueues EnqueuesOnly.rfl.evaluatorNotice).finish.enqueues EnqueuesOnly.rfl.mainNotice).finish
  · exact (h.enqueues EnqueuesOnly.rfl.giveNotice).finish

protected theorem changePosition {new : Position} (h : s.line.Consistent) : (changePosition d new s).line.Consistent := by
  have hreported : (positionReport d (s.dev d) new (s.updDev d fun r => { r with pos := new })).line.Consistent :=
    h.frame (by rw [positionReport_eq]; rfl)
  exact (hreported.ownerNotice.enqueues EnqueuesOnly.rfl.guardPosition).finish

protected theorem positionAged (h : s.line.Consistent) : (positionAged d s).line.Consistent := by
  unfold Machine.positionAged
  dsimp only
  split
  · exact h
  · have haged : (breakerReport .positionUnknown d (positionCode (s.dev d).pos)
      (s.updDev d fun r => { r with pos := .unknown, ageAt := none })).line.Consistent := h
    exact haged.ownerNotice.enqueues EnqueuesOnly.rfl.guardPosition

protected theorem takePosition {fr : Frame} (h : s.line.Consistent) : (takePosition fr s).line.Consistent := by
  have hmatch {new : Position} {e : Device} {u : State} (hu : u.line.Consistent) :
      (matchPosition new e u).line.Consistent := by
    have hfresh : (u.updDev e fun r => { r with ageAt := some (deadline u 50) }).line.Consistent := hu
    exact LineCtl.Consistent.enqueues (.ite hfresh hfresh.changePosition) EnqueuesOnly.rfl.commandChecks
  unfold Machine.takePosition
  dsimp only
  split
  · exact h
  · split
    · exact h
    · split
      · exact h
      · exact h.forEach fun _ _ hu => hmatch hu

/-! ## Arrivals -/

protected theorem missingSteps {c : Fin 24} {n : Nat} (h : s.line.Consistent) :
    (missingSteps f c n s).line.Consistent := by
  induction n generalizing s with
  | zero => exact h
  | succ n ih =>
    unfold Machine.missingSteps
    split
    · exact h
    · exact ih (h.enqueues EnqueuesOnly.rfl.missingStep).finish

protected theorem takeEvaluatorCopy {k : Copy} (h : s.line.Consistent) : (takeEvaluatorCopy f k s).line.Consistent := by
  have hview : (viewChange f k.after s).line.Consistent := h.enqueues EnqueuesOnly.rfl.viewChange
  have hwork : (missingSteps f k.chan k.missing (viewChange f k.after s)).line.Consistent := hview.missingSteps
  have harrive : (if k.after = .valid then
      match evaluates f k.chan (missingSteps f k.chan k.missing (viewChange f k.after s)) with
      | none => missingSteps f k.chan k.missing (viewChange f k.after s)
      | some t => ownStep f t k.own (k.hist.getD 3 missingInstant)
          (missingSteps f k.chan k.missing (viewChange f k.after s))
      else viewChange f k.after s).line.Consistent := by
    refine .ite ?_ hview
    split
    · exact hwork
    · exact hwork.enqueues EnqueuesOnly.rfl.ownStep
  unfold Machine.takeEvaluatorCopy
  refine .ite ?_ h
  split
  · exact harrive
  · exact harrive
  · exact hview

protected theorem evaluatorTakes (h : s.line.Consistent) : (evaluatorTakes f s).line.Consistent := by
  unfold Machine.evaluatorTakes
  split
  · exact h
  · exact LineCtl.Consistent.finish (LineCtl.Consistent.takeEvaluatorCopy (s := s.updEv f _) h)

protected theorem sequencerTakes (h : s.line.Consistent) : (sequencerTakes f s).line.Consistent := by
  unfold Machine.sequencerTakes
  split
  · exact h
  · next k rest _ =>
    have htaken : (s.updSeq f fun q => { q with inbox := rest }).line.Consistent := h
    exact (htaken.enqueues EnqueuesOnly.rfl.takeSequencerCopy).finish

protected theorem lockedCrossing {back : Nat} (h : s.line.Consistent) : (lockedCrossing back s).line.Consistent := by
  have ha : (adoptRectAtCrossing (dropFirings s)).line.Consistent :=
    LineCtl.Consistent.adoptRectAtCrossing (s := dropFirings s) h
  unfold Machine.lockedCrossing
  dsimp only
  split
  · exact ha
  · split
    · exact ha.enqueues EnqueuesOnly.rfl.regulatorStep
    · exact ha.enqueues EnqueuesOnly.rfl.regulatorStep
    · exact ha
    · exact .ite (ha.enqueues EnqueuesOnly.rfl.endWait) ha
    · exact ha

protected theorem takeTrackerCopy {k : Copy} (h : s.line.Consistent) : (takeTrackerCopy k s).line.Consistent := by
  have hcrossing {time : BitVec 40} {back : Nat} {n : BitVec 32} {u : State} (hu : u.line.Consistent) :
      (takeCrossing time back n u).line.Consistent := by
    unfold takeCrossing
    dsimp only
    split
    · exact hu
    · refine .ite ?_ hu
      split <;> exact hu
    · exact .ite (LineCtl.Consistent.lockedCrossing (s := (noteCrossing time n u).updRect _) hu)
        (LineCtl.Consistent.enqueues (s := rejectPeriod (noteCrossing time n u)) hu EnqueuesOnly.rfl.trackerTo)
  unfold Machine.takeTrackerCopy
  dsimp only
  refine .ite (.ite (LineCtl.Consistent.enqueues ?_ EnqueuesOnly.rfl.timeoutCheck)
    (.ite h (LineCtl.Consistent.enqueues (s := s.updRect _) h EnqueuesOnly.rfl.trackerTo))) h
  split
  · exact h
  · exact hcrossing (u := s.updRect _) h

protected theorem trackerTakes (h : s.line.Consistent) : (trackerTakes s).line.Consistent := by
  unfold Machine.trackerTakes
  split
  · exact h
  · exact LineCtl.Consistent.finish (LineCtl.Consistent.takeTrackerCopy (s := s.updRect _) h)

protected theorem currentTakes (h : s.line.Consistent) : (currentTakes s).line.Consistent := by
  unfold Machine.currentTakes
  split
  · exact h
  · next k rest _ =>
    have htaken : (s.updRect fun r => { r with curIn := rest }).line.Consistent := h
    exact (htaken.enqueues EnqueuesOnly.rfl.takeCurrentCopy).finish

protected theorem busTakes (h : s.line.Consistent) : (busTakes s).line.Consistent := by
  unfold Machine.busTakes
  split
  · exact h
  · next k rest _ =>
    have htaken : (s.updRect fun r => { r with busIn := rest }).line.Consistent := h
    exact htaken.enqueues EnqueuesOnly.rfl.takeBusCopy

protected theorem captureTakes (h : s.line.Consistent) : (captureTakes s).line.Consistent := by
  have htaken {u : State} {k : Copy} (hu : u.line.Consistent) : (takeCaptureCopy k u).line.Consistent :=
    .ite (LineCtl.Consistent.forEach (s := u.updCapture _) hu fun _ _ hv => .ite hv hv) hu
  unfold Machine.captureTakes
  split
  · exact h
  · exact (htaken (u := s.updCapture _) h).finish

/-- What one turn keeps, any number of turns keeps. -/
protected theorem times {k : State → State} {n : Nat} (h : s.line.Consistent)
    (hk : ∀ u, u.line.Consistent → (k u).line.Consistent) : (times n k s).line.Consistent := by
  induction n generalizing s with
  | zero => exact h
  | succ n ih => exact ih (hk s h)

protected theorem drainConsumer {k : Consumer} (h : s.line.Consistent) : (drainConsumer k s).line.Consistent := by
  unfold Machine.drainConsumer
  split
  · exact h.times fun _ => LineCtl.Consistent.evaluatorTakes
  · exact h.times fun _ => LineCtl.Consistent.sequencerTakes
  · exact h.times fun _ => LineCtl.Consistent.captureTakes
  · exact ((h.times fun _ => LineCtl.Consistent.trackerTakes).times fun _ => LineCtl.Consistent.currentTakes).times
      fun _ => LineCtl.Consistent.busTakes

protected theorem fileOldest {c : Fin 24} (h : s.line.Consistent) : (fileOldest c s).line.Consistent := by
  have hhand {k : Copy} {taker : Consumer} {u : State} (hu : u.line.Consistent) : (handCopy k taker u).line.Consistent := by
    unfold handCopy
    split
    · exact hu
    · exact hu
    · exact hu
    · split <;> exact hu
  have hreport {code : ReportCode} {value : Option Int} {u : State} (hu : u.line.Consistent) :
      (channelReport code c value u).line.Consistent := .ite hu hu
  unfold Machine.fileOldest
  dsimp only
  split
  · exact h
  · exact LineCtl.Consistent.forEach (.ite (hreport (u := s.updChan c _) h) h) fun _ _ hu => hhand hu

protected theorem drainAll (h : s.line.Consistent) : (drainAll s).line.Consistent :=
  (h.forEach fun _ _ hu => hu.times fun _ => LineCtl.Consistent.fileOldest).forEach fun _ _ hu => hu.drainConsumer

protected theorem stalenessExpired {c : Fin 24} (h : s.line.Consistent) : (stalenessExpired c s).line.Consistent := by
  have hreport {code : ReportCode} {value : Option Int} {u : State} (hu : u.line.Consistent) :
      (channelReport code c value u).line.Consistent := .ite hu hu
  have hstale {u : State} (hu : u.line.Consistent) : (goStale c u).line.Consistent := hreport (u := u.updChan c _) hu
  exact .ite ((hstale (h.forEach fun _ _ hu => hu.drainConsumer)).enqueues EnqueuesOnly.rfl.stateNotice).finish h

/-! ## RESTART (R194) -/

@[simp] theorem abandonValidation_line (s : State) : (abandonValidation s).line = s.line := by
  unfold abandonValidation
  split <;> rfl

protected theorem restartAll (h : s.line.Consistent) : (restartAll s).line.Consistent := by
  have hswitchgear : (restartSwitchgear (restartMeasurement (restartReports s))).line.Consistent :=
    LineCtl.Consistent.enqueues (s := restartMeasurement (restartReports s)) h EnqueuesOnly.rfl.restartSwitchgear
  unfold Machine.restartAll
  generalize Machine.restartSwitchgear (restartMeasurement (restartReports s)) = u at hswitchgear ⊢
  have hsequencers := hswitchgear.restartLine.forEach (as := feeders) (k := restartSequencer) fun _ _ hu => hu
  generalize Machine.forEach feeders restartSequencer (Machine.restartLine u) = v at hsequencers ⊢
  have hring : (restartRing (abandonValidation (restartCapture (restartRect v)))).line.Consistent :=
    hsequencers.frame (abandonValidation_line (restartCapture (restartRect v)))
  have hidle := hring.completePending.forEach (as := feeders) (k := restartIdle) fun _ _ hu => hu
  have harmed (w : State) (hw : w.line.Consistent) : (armAfterRestart w).line.Consistent := hw
  exact harmed _ (hidle.forEach fun _ _ hu => hu.enqueues EnqueuesOnly.rfl.restartEvaluator)

end LineCtl.Consistent

end Sys2Proof.Machine
end

section
set_option Elab.async false

/-! SUPPORT. The Intertrip Controller's record stays consistent through the requests, the frames and every command. -/

namespace Sys2Proof.Machine

/-- The service of a request keeps the Intertrip Controller's record consistent. -/
def ServesLine (request : State → Reply) : Prop := ∀ u, u.line.Consistent → (request u).2.line.Consistent

namespace ServesLine
variable {request : State → Reply} {src tag : Byte} {params : List Byte}

theorem of_line (h : ∀ u, (request u).2.line = u.line) : ServesLine request := fun u hu => hu.frame (h u)

/-- R189: a request that fails its checks changes nothing. -/
theorem checked {fromManager : Bool} {len : Nat} {serve_ : State → Reply} (h : ServesLine serve_) :
    ServesLine (checked fromManager len src params serve_) := by
  intro u hu
  unfold Machine.checked
  split
  · exact hu
  · split
    · exact hu
    · exact h u hu

theorem requestReadFeeder : ServesLine (requestReadFeeder src params) := .checked (of_line fun u => by split <;> rfl)

theorem requestReadChannel : ServesLine (requestReadChannel src params) := .checked (of_line fun u => by split <;> rfl)

/-- R192: a group of counters is read, or read and cleared. -/
theorem readGroup {option : Nat} {data : State → List Byte} {clear : State → State}
    (h : ∀ u, u.line.Consistent → (clear u).line.Consistent) : ServesLine (readGroup option data clear) := by
  intro u hu
  unfold Machine.readGroup
  split
  · exact hu
  · split
    · exact h u hu
    · exact hu

/-- R81, R192: of the six groups one is the line's, and its counters are no part of what is consistent. -/
theorem groupByCode (group option selector : Nat) : ServesLine (groupByCode group option selector) := by
  intro u hu
  have hentry (k : Fin 24) (v : State) (hv : v.line.Consistent) : (clearEntry k v).line.Consistent := hv
  have hring (v : State) (hv : v.line.Consistent) : (clearRingGroup v).line.Consistent := hv
  have hline (v : State) (hv : v.line.Consistent) :
      (v.updLine fun l => { l with counters := LineCounters.zero }).line.Consistent :=
    hv.recount v.line.accepted LineCounters.zero
  unfold Machine.groupByCode streamsGroup
  split
  · exact readGroup hring u hu
  · split
    · split
      · exact readGroup (fun v hv => hv.frame (State.updMatcher_line ..)) u hu
      · split
        · exact readGroup (hentry _) u hu
        · exact hu
    · exact hu
  · exact readGroup hline u hu
  · exact readGroup (fun v hv => hv.frame (State.updReports_line ..)) u hu
  · exact readGroup (fun v hv => hv.frame (State.updCapture_line ..)) u hu
  · exact readGroup (fun v hv => hv.frame (State.updRect_line ..)) u hu
  · exact hu

theorem requestReadCounters : ServesLine (requestReadCounters src params) := .checked (groupByCode _ _ _)

theorem requestWriteTable : ServesLine (requestWriteTable src params) := by
  refine of_line fun u => ?_
  unfold Machine.requestWriteTable serveWrite
  dsimp only
  split
  · rfl
  · repeat' split
    all_goals rfl

theorem requestReadTable : ServesLine (requestReadTable src params) := by
  refine .checked (of_line fun u => ?_)
  dsimp only
  repeat' split
  all_goals rfl

theorem requestValidate : ServesLine (requestValidate src tag params) := by
  refine .checked (of_line fun u => ?_)
  repeat' split
  all_goals rfl

theorem requestActivate : ServesLine (requestActivate src params) := by
  refine .checked fun u hu => ?_
  split
  · exact hu
  · split
    · exact hu
    · exact hu.drainAll.startSwitch

/-- A refused operation leaves the state as it was. -/
theorem doneOrState {u : State} {r : Bool × State} (hu : u.line.Consistent) (h : r.2.line.Consistent) :
    (doneOrState u r).2.line.Consistent := by
  unfold Machine.doneOrState
  split
  · exact h
  · exact hu

theorem operateFeeder (f : Fin 8) (action : Nat) : ServesLine (operateFeeder f action) := by
  intro u hu
  unfold Machine.operateFeeder
  split
  · exact doneOrState hu (hu.enqueues EnqueuesOnly.rfl.operatorOpen).finish
  · split
    · exact (hu.enqueues EnqueuesOnly.rfl.operatorClose).finish
    · exact hu
  · split
    · exact (hu.enqueues EnqueuesOnly.rfl.resetLockout).finish
    · exact hu
  · exact hu

theorem operateRect (action : Nat) : ServesLine (operateRect action) := by
  intro u hu
  unfold Machine.operateRect
  split
  · exact doneOrState hu (hu.enqueues EnqueuesOnly.rfl.closeAc)
  · exact doneOrState hu (hu.enqueues EnqueuesOnly.rfl.deblock)
  · exact doneOrState hu (hu.enqueues EnqueuesOnly.rfl.block)
  · exact doneOrState hu (hu.enqueues EnqueuesOnly.rfl.stopFull)
  · exact doneOrState hu (hu.enqueues EnqueuesOnly.rfl.resetRect)
  · exact hu

theorem requestOperate : ServesLine (requestOperate src params) := by
  refine .checked fun u hu => ?_
  split
  · exact operateFeeder _ _ u hu
  · split
    · exact operateRect _ u hu
    · exact hu

theorem requestReadReports : ServesLine (requestReadReports src params) := by
  refine .checked (of_line fun u => ?_)
  dsimp only
  split <;> rfl

theorem requestReadCapture : ServesLine (requestReadCapture src params) := by
  refine .checked (of_line fun u => ?_)
  unfold serveReadCapture
  dsimp only
  repeat' split
  all_goals rfl

theorem requestReleaseCapture : ServesLine (requestReleaseCapture src params) := by
  refine .checked (of_line fun u => ?_)
  dsimp only
  repeat' split
  all_goals rfl

theorem requestTriggerCapture : ServesLine (requestTriggerCapture src params) :=
  .checked fun _ hu => hu.enqueues EnqueuesOnly.rfl.trigger

theorem requestSetTime : ServesLine (requestSetTime src params) := by
  refine .checked (of_line fun u => ?_)
  dsimp only
  split <;> rfl

theorem requestRestart : ServesLine (requestRestart src params) := by
  refine .checked fun u hu => ?_
  split
  · exact hu.restartAll
  · exact hu

theorem requestStatus : ServesLine (requestStatus src params) := .checked (of_line fun _ => rfl)

theorem requestReadRectifier : ServesLine (requestReadRectifier src params) := .checked (of_line fun _ => rfl)

theorem requestCaptureList : ServesLine (requestCaptureList src params) := .checked (of_line fun _ => rfl)

theorem requestByCode (code : Byte) : ServesLine (requestByCode code src tag params) := by
  intro u hu
  unfold Machine.requestByCode
  split
  · exact requestStatus u hu
  · exact requestReadFeeder u hu
  · exact requestReadRectifier u hu
  · exact requestReadChannel u hu
  · exact requestReadCounters u hu
  · exact requestWriteTable u hu
  · exact requestReadTable u hu
  · exact requestValidate u hu
  · exact requestActivate u hu
  · exact requestOperate u hu
  · exact requestReadReports u hu
  · exact requestCaptureList u hu
  · exact requestReadCapture u hu
  · exact requestReleaseCapture u hu
  · exact requestTriggerCapture u hu
  · exact requestSetTime u hu
  · exact requestRestart u hu
  · exact hu

/-- R188: an answer, a held place and an overrun are the Ring Port's. -/
theorem respond {s : State} (h : ServesLine request) (hs : s.line.Consistent) :
    (respond src tag request s).line.Consistent := by
  unfold Machine.respond placeReply
  split
  · split
    · exact h s hs
    · exact h s hs
  · exact hs

theorem takeManage {s : State} {payload : List Byte} (hs : s.line.Consistent) :
    (takeManage src payload s).line.Consistent := by
  have hno (p : List Byte) : ServesLine (requestNoTag src p) := fun u hu => by rwa [requestNoTag_state]
  unfold Machine.takeManage
  split
  · exact (requestByCode _).respond hs
  · split
    · exact (hno _).respond (s := freeTaken s) hs
    · exact (hno _).respond hs

theorem onRequest {s : State} (h : ServesLine request) (hs : s.line.Consistent) :
    (onRequest src tag request s).line.Consistent := by
  unfold Machine.onRequest
  split
  · exact hs
  · split
    · exact hs
    · exact h.respond (hs.frame (goodFrame_line s))

end ServesLine

/-! ## Frames and timers -/

namespace LineCtl.Consistent
variable {s : State}

@[simp] theorem takeSample_line (fr : Frame) (s : State) : (takeSample fr s).line = s.line := by
  unfold takeSample
  split
  · rfl
  · split
    · rfl
    · dsimp only
      split
      · rfl
      · refine forEach_frame State.line _ _ (fun p u => ?_) _
        dsimp only
        split <;> rfl

protected theorem arriveFrame {fr : Frame} (h : s.line.Consistent) : (arriveFrame fr s).line.Consistent := by
  have hused {b : Bool} {u : State} (hu : u.line.Consistent) : (useFrame fr b u).line.Consistent := by
    unfold useFrame
    split
    · exact hu.frame (takeSample_line ..)
    · exact hu.takePosition.finish
    · split
      · exact ServesLine.takeManage hu
      · exact hu
    · exact hu
  have hg : (goodFrame s).line.Consistent := h.frame (goodFrame_line s)
  unfold Machine.arriveFrame sortFrame
  split
  · exact h
  · split
    · exact h
    · split
      · exact hused (u := (goodFrame s).updRing (joinRelay fr)) hg
      · split
        · exact hused hg
        · exact hg

protected theorem arriveBytes {bytes : List Byte} (h : s.line.Consistent) : (arriveBytes bytes s).line.Consistent := by
  unfold Machine.arriveBytes
  split
  · exact h
  · split
    · exact h
    · exact h.arriveFrame

/-- A timer's expiry: stopped, or run out at its time. -/
protected theorem whenExpired {timer : Option Nat} {k : State → State} (h : s.line.Consistent)
    (hk : ∀ u, u.line.Consistent → (k u).line.Consistent) : (whenExpired timer k s).line.Consistent := by
  unfold Machine.whenExpired
  split
  · exact h
  · exact hk _ h.advanceTo

/-- A timer whose expiry touches the line by enqueues alone. -/
theorem expires {timer : Option Nat} {k : State → State} (h : s.line.Consistent)
    (hk : ∀ u, EnqueuesOnly u.line (k u).line) : (Machine.whenExpired timer (fun u => finish (k u)) s).line.Consistent :=
  h.whenExpired fun u hu => (hu.enqueues (hk u)).finish

protected theorem whenSequenceTimer {f : Fin 8} {st : SeqState} {k : State → State} (h : s.line.Consistent)
    (hk : ∀ u, EnqueuesOnly u.line (k u).line) : (whenSequenceTimer f st k s).line.Consistent := .ite (h.expires hk) h

@[simp] theorem completeValidation_line (s : State) : (completeValidation s).line = s.line := by
  unfold completeValidation endValid
  split
  · rfl
  · split
    · rfl
    · dsimp only
      split <;> rfl

/-- R82: after a cold reset the timers run by the wires that another station holds. -/
theorem cold (ckLow dtLow : Bool) : (LineCtl.initial ckLow dtLow).Consistent where
  free := by cases ckLow <;> cases dtLow <;> simp [LineCtl.initial]
  low := by cases ckLow <;> cases dtLow <;> simp [LineCtl.initial]
  watched := by cases ckLow <;> cases dtLow <;> simp [LineCtl.initial]
  driven := .idle rfl rfl rfl
  queued := .empty nofun

end LineCtl.Consistent

/-! ## Every command -/

/-- Every command keeps the Intertrip Controller's record consistent. -/
theorem exec_keeps_line (c : Instr) (s : State) (h : s.line.Consistent) :
    ∃ t, exec c s = .next t ∧ t.line.Consistent := by
  have request {src tag : Byte} {r : State → Reply} (hr : ServesLine r) : (onRequest src tag r s).line.Consistent :=
    hr.onRequest h
  cases c with
  | coldReset addr gw =>
    refine ⟨_, rfl, ?_⟩
    rw [coldReset_line]
    exact .cold _ _
  | ringFrame bytes => exact ⟨_, rfl, h.arriveBytes⟩
  | sampleFrame frame => exact ⟨_, rfl, h.arriveFrame⟩
  | channelArrival c => exact ⟨_, rfl, h.fileOldest⟩
  | stalenessTimerExpiry c => exact ⟨_, rfl, h.whenExpired fun _ => LineCtl.Consistent.stalenessExpired⟩
  | evaluatorArrival f => exact ⟨_, rfl, h.evaluatorTakes⟩
  | sequencerArrival f => exact ⟨_, rfl, h.sequencerTakes⟩
  | trackerArrival => exact ⟨_, rfl, h.trackerTakes⟩
  | rectCurrentArrival => exact ⟨_, rfl, h.currentTakes⟩
  | rectBusArrival => exact ⟨_, rfl, h.busTakes⟩
  | captureArrival => exact ⟨_, rfl, h.captureTakes⟩
  | positionFrame frame => exact ⟨_, rfl, h.arriveFrame⟩
  | positionAgeExpiry d => exact ⟨_, rfl, h.whenExpired fun _ hu => hu.positionAged.finish⟩
  | repeatTimerExpiry d => exact ⟨_, rfl, h.whenExpired fun _ hu => hu.enqueues EnqueuesOnly.rfl.repeatExpired⟩
  | openTimerExpiry d => exact ⟨_, rfl, .ite (h.expires fun _ => EnqueuesOnly.rfl.openTimerExpired) h⟩
  | closeTimerExpiry d => exact ⟨_, rfl, .ite (h.expires fun _ => EnqueuesOnly.rfl.closeTimerExpired) h⟩
  | deadTimeExpiry f => exact ⟨_, rfl, h.whenSequenceTimer fun _ => EnqueuesOnly.rfl.testStart⟩
  | settleTimerExpiry f => exact ⟨_, rfl, h.whenSequenceTimer fun _ => EnqueuesOnly.rfl.settleExpired⟩
  | reclaimExpiry f => exact ⟨_, rfl, h.whenSequenceTimer fun _ => EnqueuesOnly.rfl.reclaimExpired⟩
  | holdTimerExpiry f => exact ⟨_, rfl, h.expires fun _ => EnqueuesOnly.rfl.releaseHold⟩
  | busWaitExpiry f => exact ⟨_, rfl, .ite (h.expires fun _ => EnqueuesOnly.rfl.lockout) h⟩
  | stopStepTimerExpiry => exact ⟨_, rfl, .ite (h.expires fun _ => EnqueuesOnly.rfl.stopFailed) h⟩
  | firingDue => exact ⟨_, rfl, (h.enqueues EnqueuesOnly.rfl.firingFallsDue).finish⟩
  | gatePulseEnd g => exact ⟨_, rfl, h.whenExpired fun _ hu => hu⟩
  | fillTimerExpiry slot =>
    refine ⟨_, rfl, h.whenExpired fun u hu => ?_⟩
    have hfilled : (fillExpired slot u).line.Consistent := .ite hu hu
    exact hfilled.finish
  | validationComplete => exact ⟨_, rfl, h.frame (LineCtl.Consistent.completeValidation_line s)⟩
  | ringDownTimerExpiry => exact ⟨_, rfl, h.whenExpired fun u hu => .ite hu hu⟩
  | ringOutFrameEnd => exact ⟨_, rfl, h⟩
  | dayRollover => exact ⟨_, rfl, h.advanceTo⟩
  | intertripMessageReceived r restart => exact ⟨_, rfl, h.receiveMessage.finish⟩
  | messageAbandoned restart => exact ⟨_, rfl, h.abandonMessage⟩
  | lineLowEvent w => exact ⟨_, rfl, h.lineLow⟩
  | lowTimerExpiry held => exact ⟨_, rfl, h.lowExpired.finish⟩
  | busFreeTimerExpiry => exact ⟨_, rfl, h.busFreeExpired⟩
  | intertripMessageStart => exact ⟨_, rfl, h.startSending⟩
  | arbitrationLost clock => exact ⟨_, rfl, h.lostArbitration.finish⟩
  | sendAttemptEnd ack => exact ⟨_, rfl, h.endAttempt.finish⟩
  | status src tag params => exact ⟨_, rfl, request .requestStatus⟩
  | readFeeder src tag params => exact ⟨_, rfl, request .requestReadFeeder⟩
  | readRectifier src tag params => exact ⟨_, rfl, request .requestReadRectifier⟩
  | readChannel src tag params => exact ⟨_, rfl, request .requestReadChannel⟩
  | readCountersRing src tag o sel extra => exact ⟨_, rfl, request .requestReadCounters⟩
  | readCountersStreams src tag o sel extra => exact ⟨_, rfl, request .requestReadCounters⟩
  | readCountersIntertrip src tag o sel extra => exact ⟨_, rfl, request .requestReadCounters⟩
  | readCountersReports src tag o sel extra => exact ⟨_, rfl, request .requestReadCounters⟩
  | readCountersCapture src tag o sel extra => exact ⟨_, rfl, request .requestReadCounters⟩
  | readCountersFiring src tag o sel extra => exact ⟨_, rfl, request .requestReadCounters⟩
  | writeTable src tag params => exact ⟨_, rfl, request .requestWriteTable⟩
  | readTable src tag params => exact ⟨_, rfl, request .requestReadTable⟩
  | validate src tag params => exact ⟨_, rfl, request .requestValidate⟩
  | activate src tag params => exact ⟨_, rfl, request .requestActivate⟩
  | operateOpen src tag target extra => exact ⟨_, rfl, request .requestOperate⟩
  | operateClose src tag target extra => exact ⟨_, rfl, request .requestOperate⟩
  | resetLockout src tag target extra => exact ⟨_, rfl, request .requestOperate⟩
  | closeAc src tag target extra => exact ⟨_, rfl, request .requestOperate⟩
  | deblock src tag target extra => exact ⟨_, rfl, request .requestOperate⟩
  | block src tag target extra => exact ⟨_, rfl, request .requestOperate⟩
  | stopFull src tag target extra => exact ⟨_, rfl, request .requestOperate⟩
  | resetRect src tag target extra => exact ⟨_, rfl, request .requestOperate⟩
  | readReports src tag params => exact ⟨_, rfl, request .requestReadReports⟩
  | captureList src tag params => exact ⟨_, rfl, request .requestCaptureList⟩
  | readCapture src tag params => exact ⟨_, rfl, request .requestReadCapture⟩
  | releaseCapture src tag params => exact ⟨_, rfl, request .requestReleaseCapture⟩
  | triggerCapture src tag params => exact ⟨_, rfl, request .requestTriggerCapture⟩
  | setTime src tag params => exact ⟨_, rfl, request .requestSetTime⟩
  | restart src tag params => exact ⟨_, rfl, request .requestRestart⟩
  | unknownRequest src tag code params => exact ⟨_, rfl, request (.requestByCode _)⟩
  | bothWiresHigh => exact ⟨_, rfl, h.bothHigh⟩

end Sys2Proof.Machine

namespace Sys2Proof.Proofs
open Sys2Proof.Machine

/-- Settles O11: command by command, and the cycle that passes when none waits. -/
theorem transmitKept : Obligations.TransmitKept := by
  intro s t hs hst
  rw [transmitConsistent_iff] at hs ⊢
  unfold step at hst
  split at hst
  · cases hst
    exact hs.idleCycle
  · next c rest _ =>
    obtain ⟨v, hv, hkept⟩ := exec_keeps_line c { s with pending := rest } hs
    rw [hv] at hst
    cases hst
    exact hkept

end Sys2Proof.Proofs
end

section
set_option Elab.async false

/-! SUPPORT. What an enqueue makes of the transmit queue, and what each event on the wires of the line makes of the
Intertrip Controller's record (R65 to R71). -/

namespace Sys2Proof.Machine

/-! ## An enqueue (R78) -/

/-- R78: an enqueue for a feeder of an enabled table's section. -/
theorem enqueue_enabled {f : Fin 8} {tb : LineTable} {s : State} (h : s.line.table = some tb) (he : tb.enable = true)
    (hc : tb.sections[f] ≠ 0) (k : Kind) : enqueue f k s = { s with line := { s.line with
      queue := enterTx (s.line.state = .sending) tb.sections[f] k s.line.queue } } := by
  unfold enqueue
  rw [h]
  exact if_neg (by simpa [he] using hc)

/-- R78: without a table, or with a disabled one, or without a section, nothing joins. -/
theorem enqueue_ignored {f : Fin 8} {s : State}
    (h : ∀ tb, s.line.table = some tb → tb.enable = false ∨ tb.sections[f] = 0) (k : Kind) : enqueue f k s = s := by
  unfold enqueue
  split
  · rfl
  · next tb ht => exact if_pos (by rcases h tb ht with he | hc <;> simp [*])

/-- R78: an entry of another section is passed over, and after the head none is in flight. -/
theorem enterTx_pass {b : Bool} {code : Byte} {k : Kind} {pre q : List TxEntry} (h : ∀ x ∈ pre, x.code ≠ code)
    (hp : pre ≠ []) : enterTx b code k (pre ++ q) = pre ++ enterTx false code k q := by
  induction pre generalizing b with
  | nil => exact absurd rfl hp
  | cons x pre ih =>
    obtain ⟨hx, hpre⟩ := List.forall_mem_cons.1 h
    have hrest : enterTx false code k (pre ++ q) = pre ++ enterTx false code k q := by
      cases pre with
      | nil => rfl
      | cons y pre => exact ih hpre (List.cons_ne_nil y pre)
    rw [List.cons_append, enterTx, if_neg hx, hrest, List.cons_append]

/-- R78: with no entry of the section a new one joins the tail. -/
theorem enterTx_joins {b : Bool} {code : Byte} {k : Kind} {q : List TxEntry} (h : ∀ x ∈ q, x.code ≠ code) :
    enterTx b code k q = q ++ [⟨code, k, 0, false⟩] := by
  cases q with
  | nil => rfl
  | cons x q =>
    have hjoined := enterTx_pass (b := b) (k := k) (q := []) h (List.cons_ne_nil x q)
    rwa [List.append_nil] at hjoined

/-- R78, R79: an entry of the section keeps its place, in flight when it is the head while SENDING. -/
theorem enterTx_supersedes {p : Prop} [Decidable p] {code : Byte} {k : Kind} {pre post : List TxEntry} {e : TxEntry}
    (h : ∀ x ∈ pre, x.code ≠ code) (he : e.code = code) : enterTx p code k (pre ++ e :: post) =
      pre ++ supersede (pre = [] ∧ p) k e :: post := by
  cases pre with
  | nil =>
    rw [List.nil_append, enterTx, if_pos he]
    simp
  | cons x pre =>
    rw [enterTx_pass h (List.cons_ne_nil x pre), enterTx, if_pos he]
    simp

theorem supersede_eq {p : Prop} [Decidable p] (k : Kind) (e : TxEntry) : supersede p k e =
    if e.kind = k ∨ (e.kind = .trip ∧ k = .hold) then e else { e with kind := k, attempts := 0, changed := p } := by
  simp [supersede]

end Sys2Proof.Machine

namespace Sys2Proof.Proofs
open Sys2Proof.Machine

/-- Settles O44: the queue is walked up to the section's entry, or to its end. -/
theorem enqueues : Obligations.Enqueues := by
  refine fun f k s => ⟨fun h => enqueue_ignored h k, fun tb ht he hc =>
    ⟨fun h => ?joins, fun pre e post hq h hcode => ?_⟩⟩
  case joins => rw [enqueue_enabled ht he hc, enterTx_joins h]
  rw [enqueue_enabled ht he hc, hq, enterTx_supersedes h hcode, supersede_eq]

end Sys2Proof.Proofs
end

section
set_option Elab.async false

/-! SUPPORT. What each event on the wires of the line makes of the Intertrip Controller's record (R65 to R69, R71). -/

namespace Sys2Proof.Machine

variable {s : State} {l : LineCtl}

/-- Two states that differ in the line alone are one when their lines are. -/
theorem line_congr {l m : LineCtl} (h : l = m) : ({ s with line := l } : State) = { s with line := m } := by rw [h]

/-- R69: the low timer while a wire is low: it runs on, or starts. -/
def LineCtl.lowEnd (l : LineCtl) (now : Nat) : Option Nat := some (l.lowAt.getD (now + 2 * Config.unitsPerMs))

/-- R65: with a wire low the low timer runs and the bus-free timer does not. -/
theorem LineCtl.timed_low (h : l.ckLow = true ∨ l.dtLow = true) (now : Nat) :
    l.timed now = { l with lowAt := l.lowEnd now, freeSince := none } := by
  rcases h with h | h <;> simp [LineCtl.timed, LineCtl.lowEnd, h]

/-- R67: in a message with both wires high neither runs. -/
theorem LineCtl.timed_message (hc : l.ckLow = false) (hd : l.dtLow = false) (h : l.state = .sending ∨ l.state = .receiving)
    (now : Nat) : l.timed now = { l with lowAt := none, freeSince := none } := by
  rcases h with h | h <;> simp [LineCtl.timed, hc, hd, h]

/-- R68: outside a message with both wires high the bus-free timer runs. -/
theorem LineCtl.timed_free (hc : l.ckLow = false) (hd : l.dtLow = false) (hs : l.state ≠ .sending)
    (hr : l.state ≠ .receiving) (now : Nat) :
    l.timed now = { l with lowAt := none, freeSince := some (l.freeSince.getD now) } := by
  simp [LineCtl.timed, hc, hd, hs, hr]

/-- R68: an event after which a wire is low. -/
theorem updWires_low {g : LineCtl → LineCtl} (h : (g s.line).ckLow = true ∨ (g s.line).dtLow = true) : updWires g s =
    { s with line := { g s.line with lowAt := (g s.line).lowEnd s.time.now, freeSince := none } } :=
  line_congr (LineCtl.timed_low h _)

/-- With no switch-over pending the line's event is all that happens. -/
theorem finish_updWires (h : Settled s) (g : LineCtl → LineCtl) : finish (updWires g s) = updWires g s :=
  finish_of_settled h

/-- R67, R71: the line after a start. -/
theorem startReceive_line (s : State) : startReceive s = { s with line := { s.line with
    state := .receiving, freeSince := none, lowAt := some (s.time.now + 2 * Config.unitsPerMs), clocks := 0, heard := [],
    inFlight := [], ckLow := false, dtLow := true, driveCk := false, driveDt := false, accepted := none,
    phaseAt := none } } := rfl

/-! ## Falls outside a message (R67, R68) -/

/-- R68: outside a message the line is FREE or WAITING, or in FAULT. -/
def LineCtl.Idle (l : LineCtl) : Prop := l.state = .free ∨ l.state = .waiting

theorem clockFalls_idle (h : s.line.Idle) : clockFalls s = { s with line := { s.line with
    state := .waiting, freeSince := none, lowAt := s.line.lowEnd s.time.now, ckLow := true } } := by
  have hfalls : clockFalls s = updWires (fun l => { l with state := .waiting, ckLow := true }) s := by
    unfold clockFalls
    rcases h with h | h <;> rw [h]
  exact hfalls.trans (updWires_low (.inl rfl))

theorem dataFalls_idle (h : s.line.Idle) : dataFalls s = if s.line.ckLow then
    updWires (fun l => { l with state := .waiting, dtLow := true }) s else startReceive s := by
  unfold dataFalls
  rcases h with h | h <;> simp only [h]

/-- R68: DT falls with CK low. -/
theorem dataFalls_lowEvent (h : s.line.Idle) (hc : s.line.ckLow = true) : dataFalls s = { s with line := { s.line with
    state := .waiting, freeSince := none, lowAt := s.line.lowEnd s.time.now, dtLow := true } } := by
  rw [dataFalls_idle h, if_pos hc]
  exact updWires_low (.inr rfl)

/-- R67: DT falls with CK high. -/
theorem dataFalls_start (h : s.line.Idle) (hc : s.line.ckLow = false) : dataFalls s = startReceive s := by
  rw [dataFalls_idle h, if_neg (by rw [hc]; nofun)]

/-! ## Falls in a message being received (R71, R72) -/

/-- R72: what this receiver drives on DT from a fall of CK: DT low in the acknowledge slot of an accepted message. -/
def LineCtl.acknowledges (l : LineCtl) : Bool := l.accepted.isSome && l.clocks = 14

/-- R71, R72: the record after a fall of CK in the message being received. -/
def LineCtl.clocked (l : LineCtl) (now : Nat) : LineCtl :=
  { l with
    clocks := l.clocks + 1, ckLow := true, driveCk := false, driveDt := l.acknowledges,
    dtLow := l.acknowledges || (l.dtLow && !l.driveDt), lowAt := l.lowEnd now, freeSince := none }

/-- R71, R72: a clock begins, and the fall that follows the acknowledge slot applies an accepted message. -/
theorem receiverClock_eq (h : s.line.driveCk = false) : receiverClock s =
    let fell : State := { s with line := s.line.clocked s.time.now }
    if s.line.accepted.isSome && s.line.clocks = 15 then finish (applyAccepted fell) else fell := by
  have hfell : updWires (fun l => { l with clocks := s.line.clocks + 1, ckLow := true }.drive false
      (l.accepted.isSome && s.line.clocks + 1 = 15)) s = { s with line := s.line.clocked s.time.now } := by
    refine (updWires_low (.inl ?_)).trans (line_congr ?_)
    · simp [LineCtl.drive, h]
    · simp [LineCtl.drive, LineCtl.clocked, LineCtl.acknowledges, LineCtl.lowEnd, h]
  unfold receiverClock
  dsimp only
  rw [hfell]
  simp [LineCtl.clocked]

theorem lineLow_clock (hr : s.line.state = .receiving) (hc : s.line.ckLow = false) :
    lineLow .ck s = receiverClock s := by
  simp [lineLow, clockFalls, hc, hr]

/-- R71: DT falls between the clocks of the message: a start. -/
theorem dataFalls_restart (hr : s.line.state = .receiving) (hc : s.line.ckLow = false) :
    dataFalls s = abandonMessage true s := by
  simp [dataFalls, hr, hc]

/-- R71: DT falls in a clock of the message: a bit. -/
theorem dataFalls_bit (hr : s.line.state = .receiving) (hc : s.line.ckLow = true) : dataFalls s =
    { s with line := { s.line with dtLow := true, lowAt := s.line.lowEnd s.time.now, freeSince := none } } := by
  have hfalls : dataFalls s = updWires (fun l => { l with dtLow := true }) s := by simp [dataFalls, hr, hc]
  exact hfalls.trans (updWires_low (.inr rfl))

/-! ## Both wires high (R67, R68) -/

/-- R66: a rise of CK in no message of this part's own leaves its times alone. -/
theorem LineCtl.risen_of_not_sending (hs : l.state ≠ .sending) (n : Nat) : l.risen n = l := if_neg hs

theorem bothHigh_rises (hlow : s.line.ckLow = true ∨ s.line.dtLow = true) (hd : s.line.driveDt = false)
    (hm : s.line.state = .receiving → s.line.ckLow = true) : bothHigh s = updWires (fun l =>
      { (if l.ckLow then l.risen (s.time.now + halfBit) else l) with
        ckLow := false, dtLow := false, driveCk := false }) s := by
  unfold bothHigh
  dsimp only
  rw [if_neg, if_neg]
  · simpa using hm
  · rcases hlow with h | h <;> simp [hd, h]

theorem bothHigh_idle (hs : s.line.state ≠ .sending) (hr : s.line.state ≠ .receiving)
    (hlow : s.line.ckLow = true ∨ s.line.dtLow = true) (hd : s.line.driveDt = false) (hf : s.line.freeSince = none) :
    bothHigh s = { s with line := { s.line with
      ckLow := false, dtLow := false, driveCk := false, lowAt := none, freeSince := some s.time.now } } := by
  rw [bothHigh_rises hlow hd fun h => absurd h hr, updWires_eq]
  refine line_congr ?_
  dsimp only
  rw [LineCtl.risen_of_not_sending hs, ite_self]
  refine (LineCtl.timed_free (l := { s.line with ckLow := false, dtLow := false, driveCk := false })
    rfl rfl hs hr _).trans ?_
  rw [hf]
  rfl

/-- R71: DT rises with CK high in a message being received: a stop. -/
theorem bothHigh_stop (hr : s.line.state = .receiving) (hc : s.line.ckLow = false) (hl : s.line.dtLow = true)
    (hd : s.line.driveDt = false) : bothHigh s = abandonMessage false s := by
  simp [bothHigh, hr, hc, hl, hd]

/-! ## A start or a stop (R71) -/

/-- R71: the counters after a start or a stop: a message given up before its clock 15 is a check error. -/
def LineCtl.abandonedCounters (l : LineCtl) : LineCounters :=
  if l.state = .receiving ∧ 15 ≤ l.clocks then l.counters
  else { l.counters with checkErrors := bump l.counters.checkErrors }

theorem abandonMessage_eq (h : canReceive s.line = true) (restart : Bool) : abandonMessage restart s =
    endMessage restart (s.updLine fun l => { l with counters := s.line.abandonedCounters }) := by
  unfold abandonMessage
  rw [if_pos h]
  refine congrArg (endMessage restart) ?_
  have hpast : pastSlot s.line = true ↔ s.line.state = .receiving ∧ 15 ≤ s.line.clocks := by simp [pastSlot]
  unfold LineCtl.abandonedCounters
  by_cases hp : s.line.state = .receiving ∧ 15 ≤ s.line.clocks
  · rw [if_pos (hpast.2 hp), if_pos hp]
    rfl
  · rw [if_neg (hpast.not.2 hp), if_neg hp]
    rfl

/-! ## Timers (R68, R69) -/

theorem busFreeExpired_eq {t : Nat} (hw : s.line.state = .waiting ∨ s.line.state = .fault)
    (hf : s.line.freeSince = some t) :
    busFreeExpired s = becomeFree (advanceTo (t + busFreeTime s.line) s) := by
  unfold busFreeExpired
  rw [hf]
  exact if_pos (by rcases hw with h | h <;> simp [h])

/-- R69: the line's record in FAULT. -/
def LineCtl.faultedBy (l : LineCtl) (h : Held) : LineCtl :=
  { l with
    state := .fault, freeSince := none, lowAt := none, clocks := 0, heard := [], inFlight := [], accepted := none,
    phaseAt := none, ckLow := h ≠ .dt, dtLow := h ≠ .ck, driveCk := false, driveDt := false,
    queue := if l.state = .sending then clearHeadMark l.queue else l.queue
    counters := { l.counters with faults := bump l.counters.faults } }

theorem lowExpired_eq {d : Nat} (hs : s.line.state ≠ .fault) (hl : s.line.lowAt = some d) (h : Held) :
    lowExpired h s = report .lineFault .intertrip none (some (heldCode h))
      { advanceTo d s with line := s.line.faultedBy h } := by
  have hexpired : lowExpired h s = lineFault h (advanceTo d s) := by
    unfold lowExpired
    rw [hl]
    split
    · next hf => exact absurd hf hs
    · rfl
  rw [hexpired, ← advanceTo_line d s]
  rfl

/-- R79: clearing the head's mark, as one case distinction on the state and the queue. -/
theorem clearHeadMark_inFlight (st : LineState) (q : List TxEntry) :
    (if st = .sending then clearHeadMark q else q) = match st, q with
      | .sending, e :: rest => { e with changed := false } :: rest
      | _, q => q := by
  cases st <;> cases q <;> rfl

/-! ## Samples (R67, R71) -/

/-- R71: a bit of the message is read that is not the fourteenth. -/
theorem receiveSample_reads (hr : s.line.state = .receiving) {bit : Bool} (hn : s.line.heard.length < s.line.clocks)
    (hc : s.line.clocks ≤ 14) (hj : s.line.heard.length ≠ 13) : sampleLine bit s =
      updWires (fun l => { l with ckLow := false, dtLow := !bit || l.driveDt, heard := l.heard ++ [bit] }) s := by
  unfold sampleLine receiveSample
  simp only [hr]
  rw [if_neg (by omega), if_pos hn]
  refine if_neg ?_
  simp [hr, hj]

theorem receiveSample_shows (hr : s.line.state = .receiving) {bit : Bool} (hc : 15 ≤ s.line.clocks) : sampleLine bit s =
      updWires (fun l => { l with ckLow := false, dtLow := !bit || l.driveDt }) s := by
  unfold sampleLine receiveSample
  simp only [hr]
  exact if_pos hc

end Sys2Proof.Machine

namespace Sys2Proof.Proofs
open Sys2Proof.Machine

/-- Settles O42: one rule for each event, by the state and the wires. -/
theorem lineEvents : Obligations.LineEvents := by
  refine ⟨fun s => ⟨fun hi hc => ?ck, fun hi hc hd => ?dt, fun hi hc hd => ?start, fun hc => ?ckLow, fun hd => ?dtLow,
    fun hi hw hd hf => ?high, fun t hw hf => ?free, fun t hw hf => ?restored, fun d h hs hn hl => ?fault⟩,
    fun s hs hf => ⟨?stopped, ?started, fun hr hc hd => ?restarts, fun hr hc hl hd => ?stops⟩,
    fun s hset hr => ⟨fun hc hck hn ha hd => ?clock, fun hc hd => ?bit, fun bit ends hn hc hj hd => ?sample,
      fun bit ends hc => ?shows⟩⟩
  case shows =>
    refine ⟨updWires (fun l => { l with ckLow := false, dtLow := !bit || l.driveDt }) s, next_eq ?_, hr, rfl, rfl⟩
    exact (congrArg finish (receiveSample_shows hr hc)).trans (finish_updWires hset _)
  all_goals refine next_eq ?_
  case ck => exact (if_neg (by rw [hc]; nofun)).trans (clockFalls_idle hi)
  case dt => exact (if_neg (by rw [hd]; nofun)).trans (dataFalls_lowEvent hi hc)
  case start =>
    refine (if_neg (by rw [hd]; nofun)).trans ((dataFalls_start hi hc).trans ?_)
    rw [startReceive_line]
    dsimp only
    rw [hc]
  case ckLow => exact if_pos hc
  case dtLow => exact if_pos hd
  case high =>
    refine bothHigh_idle ?_ ?_ hw hd hf <;> rcases hi with (h | h) | h <;> rw [h] <;> nofun
  case free =>
    rw [busFreeExpired_eq (.inl hw) hf]
    refine (if_neg ?_).trans ?_
    · rw [advanceTo_line, hw]
      nofun
    · rw [State.updLine, advanceTo_line]
  case restored =>
    rw [busFreeExpired_eq (.inr hw) hf]
    refine (if_pos ?_).trans ?_
    · rw [advanceTo_line, hw]
    · rw [State.updLine, advanceTo_line]
  case fault =>
    have hsettled : Settled (report .lineFault .intertrip none (some (heldCode h))
        { advanceTo d s with line := s.line.faultedBy h }) := advanceTo_settled d hs
    rw [lowExpired_eq hn hl, finish_of_settled hsettled, LineCtl.faultedBy, clearHeadMark_inFlight] <;> rfl
  case stopped => exact abandonMessage_eq (canReceive_iff.2 ⟨hs, hf⟩) false
  case started => exact abandonMessage_eq (canReceive_iff.2 ⟨hs, hf⟩) true
  case restarts =>
    refine (if_neg (by rw [hd]; nofun)).trans ((dataFalls_restart hr hc).trans ?_)
    exact abandonMessage_eq (canReceive_iff.2 ⟨hs, hf⟩) true
  case stops =>
    exact (bothHigh_stop hr hc hl hd).trans (abandonMessage_eq (canReceive_iff.2 ⟨hs, hf⟩) false)
  case clock =>
    rw [lineLow_clock hr hc, receiverClock_eq hck]
    refine (if_neg fun h => ?_).trans (line_congr ?_)
    · simp only [Bool.and_eq_true, decide_eq_true_eq] at h
      rw [ha h.2] at h
      exact absurd h.1 nofun
    · simp [LineCtl.clocked, LineCtl.acknowledges, LineCtl.lowEnd, hn, hd]
  case bit => exact (if_neg (by rw [hd]; nofun)).trans (dataFalls_bit hr hc)
  case sample =>
    refine (congrArg finish (receiveSample_reads hr hn hc hj)).trans ((finish_updWires hset _).trans (line_congr ?_))
    dsimp only
    cases bit with
    | false => exact (LineCtl.timed_low (.inr rfl) _).trans (by simp [LineCtl.lowEnd])
    | true => simp [LineCtl.timed, hr, hd]

end Sys2Proof.Proofs
end

section
set_option Elab.async false

/-! SUPPORT. An attempt to send: its start, its clocks and samples, its loss and its end (R66, R70, R74, R75, R77). -/

namespace Sys2Proof.Machine

variable {s : State} {l : LineCtl} {e : TxEntry} {rest : List TxEntry}

/-! ## The start (R74) -/

theorem startSending_eq (hq : s.line.queue = e :: rest) (hf : s.line.state = .free) (hc : s.line.ckLow = false)
    (hl : s.line.lowAt = none) : startSending s = { s with line := { s.line with
      state := .sending, clocks := 0, heard := [], inFlight := messageBits e.code e.kind, accepted := none,
      phaseAt := some (s.time.now + halfBit), driveCk := false, driveDt := true, dtLow := true, freeSince := none,
      lowAt := some (s.time.now + 2 * Config.unitsPerMs) } } := by
  have hstart : startSending s = updWires (fun l => { l.noMessage with
      state := .sending, inFlight := messageBits e.code e.kind,
      phaseAt := some (s.time.now + halfBit) }.drive false true) s := by
    unfold startSending
    rw [hf, hq]
  rw [hstart]
  refine (updWires_low (.inr rfl)).trans (line_congr ?_)
  simp [LineCtl.drive, LineCtl.noMessage, LineCtl.lowEnd, hc, hl]

/-! ## The clocks (R66, R70, R74) -/

theorem senderDrives_eq (l : LineCtl) (n : Nat) : senderDrives l n = ((n ≤ 14 && !sentBit l n) || n = 16) := by
  unfold senderDrives
  by_cases h : n ≤ 14
  · have hn : n ≠ 16 := by omega
    simp [h, hn]
  · simp [h]

/-- R66, R74: a clock of the message being sent begins, by whoever's fall of CK. -/
theorem lineLow_senderClock (hs : s.line.state = .sending) (hc : s.line.ckLow = false) :
    let drives := senderDrives s.line (s.line.clocks + 1)
    lineLow .ck s = { s with line := { s.line with
      clocks := s.line.clocks + 1, ckLow := true, driveCk := true, driveDt := drives,
      phaseAt := some (s.time.now + halfBit), dtLow := drives || (s.line.dtLow && !s.line.driveDt),
      lowAt := s.line.lowEnd s.time.now, freeSince := none } } := by
  have hfalls : lineLow .ck s = updWires (fun l => { l with
      clocks := s.line.clocks + 1, phaseAt := some (s.time.now + halfBit) }.drive true
        (senderDrives l (s.line.clocks + 1))) s := by
    simp [lineLow, clockFalls, hs, hc]
  rw [hfalls]
  exact updWires_low (.inl rfl)

/-- R66: a rise of CK in the message being sent starts this part's own high time, unless its clocks are done. -/
theorem LineCtl.risen_sending (hs : l.state = .sending) (n : Nat) :
    l.risen n = { l with phaseAt := if l.clocks < 16 then some n else none } := if_pos hs

/-- R66, R67: the line of a sender after a rise of CK that it shows with DT as the part drives it. -/
theorem LineCtl.timed_risen (hs : l.state = .sending) (n now : Nat) :
    LineCtl.timed now { (if l.ckLow then l.risen n else l) with driveCk := false, ckLow := false, dtLow := l.driveDt } =
      { l with
        driveCk := false, ckLow := false, dtLow := l.driveDt, freeSince := none,
        phaseAt := if l.ckLow then (if l.clocks < 16 then some n else none) else l.phaseAt
        lowAt := if l.driveDt then l.lowEnd now else none } := by
  rw [risen_sending hs]
  cases hc : l.ckLow <;> cases hd : l.driveDt <;> simp [timed, lowEnd, hs, hd]

/-- R66, R75: the sample of this part's own bit. -/
theorem sampleLine_own (hs : s.line.state = .sending) (h1 : 1 ≤ s.line.clocks) (h14 : s.line.clocks ≤ 14)
    (hd : s.line.driveDt = !sentBit s.line s.line.clocks) : sampleLine (sentBit s.line s.line.clocks) s =
      { s with line := { s.line with
        driveCk := false, ckLow := false, dtLow := s.line.driveDt, freeSince := none,
        phaseAt := if s.line.ckLow then some (s.time.now + halfBit / 2) else s.line.phaseAt
        lowAt := if s.line.driveDt then s.line.lowEnd s.time.now else none } } := by
  have hsample : sampleLine (sentBit s.line s.line.clocks) s = updWires (fun l =>
      { (if l.ckLow then l.risen (s.time.now + halfBit / 2) else l) with
        driveCk := false, ckLow := false, dtLow := l.driveDt }) s := by
    unfold sampleLine senderSample
    simp only [hs]
    rw [if_neg (by omega), dif_neg (by simp)]
    refine line_congr ?_
    dsimp only
    rw [← hd, Bool.or_self]
  rw [hsample, updWires_eq]
  refine line_congr ((LineCtl.timed_risen hs _ _).trans ?_)
  rw [if_pos (show s.line.clocks < 16 by omega)]

/-! ## The loss (R75) -/

/-- R75: the record of a sender that has read the other value of its bit. -/
def LineCtl.beaten (l : LineCtl) (n : Fin 14) (now : Nat) : LineCtl :=
  let driven := sentBit l (n.val + 1)
  { l with
    state := .receiving, clocks := n.val + 1, heard := l.inFlight.take n.val ++ [!driven], inFlight := [],
    ckLow := false, dtLow := driven, driveCk := false, driveDt := false, accepted := none, phaseAt := none,
    freeSince := none, lowAt := if driven then l.lowEnd now else none,
    queue := clearHeadMark l.queue, counters := { l.counters with losses := bump l.counters.losses } }

theorem loseArbitration_eq (hs : s.line.state = .sending) {n : Fin 14} (hn : s.line.clocks ≤ n.val + 1) :
    loseArbitration n s = { s with line := s.line.beaten n s.time.now } := by
  unfold loseArbitration
  rw [if_pos (by simp [hs, hn]), updWires_eq]
  refine line_congr ?_
  cases hb : sentBit s.line (n.val + 1) <;> simp [LineCtl.timed, LineCtl.beaten, LineCtl.lowEnd, hb]

/-- R71, R75: the winner's message goes on being read, and is judged once it is whole. -/
theorem lostArbitration_eq (hs : s.line.state = .sending) {n : Fin 14} (hn : s.line.clocks ≤ n.val + 1)
    (hl : s.line.inFlight.length = 14) : lostArbitration n s =
      let lost : State := { s with line := s.line.beaten n s.time.now }
      if n.val = 13 then judgeBits lost.line.heard lost else lost := by
  have hlen : (s.line.beaten n s.time.now).heard.length = 14 ↔ n.val = 13 := by
    have := n.isLt
    simp only [LineCtl.beaten, List.length_append, List.length_take, List.length_singleton, hl]
    omega
  unfold lostArbitration
  rw [if_pos hs, loseArbitration_eq hs hn]
  unfold judgeRecord
  simp only [hlen, show (s.line.beaten n s.time.now).state = .receiving from rfl, decide_true, Bool.true_and,
    decide_eq_true_eq]

/-- R75: a clock that the attempt has passed cannot be lost. -/
theorem lostArbitration_passed (hs : s.line.state = .sending) {n : Fin 14} (hn : n.val + 1 < s.line.clocks) :
    lostArbitration n s = s := by
  have hnot : loseArbitration n s = s := if_neg (by simp [hs]; omega)
  unfold lostArbitration judgeRecord
  rw [if_pos hs, hnot, if_neg (by simp [hs])]

/-- R75: the sample that reads the other value of the bit. -/
theorem sampleLine_other (hs : s.line.state = .sending) {n : Fin 14} (hn : s.line.clocks = n.val + 1) :
    sampleLine (!sentBit s.line (n.val + 1)) s = lostArbitration n s := by
  have hlt := n.isLt
  have hclock : (⟨(s.line.clocks - 1) % 14, Nat.mod_lt _ (by omega)⟩ : Fin 14) = n := Fin.ext (by simp only; omega)
  unfold sampleLine senderSample
  simp only [hs]
  rw [if_neg (by omega), dif_pos ⟨by omega, by rw [hn]; simp⟩, hclock]

/-! ## The end (R77) -/

/-- R77: the counters of an attempt that has ended. -/
def LineCtl.sentCounters (l : LineCtl) : LineCounters := { l.counters with sent := bump l.counters.sent }

theorem endAttempt_eq (hs : s.line.state = .sending) (ack : Bool) : endAttempt ack s =
    goWaiting (settleHead ack (s.updLine fun l => { l with counters := s.line.sentCounters })) := if_pos hs

/-- R79: a change mark keeps the entry, as a fresh one. -/
theorem settleHead_changed (hq : s.line.queue = e :: rest) (hc : e.changed = true) (ack : Bool) :
    settleHead ack s = s.updLine fun l => { l with
      queue := { e with attempts := 0, changed := false } :: rest
      counters := if ack then { l.counters with acked := bump l.counters.acked } else l.counters } := by
  unfold settleHead
  rw [hq]
  dsimp only
  rw [if_pos hc]
  cases ack <;> rfl

theorem settleHead_acked (hq : s.line.queue = e :: rest) (hc : e.changed = false) : settleHead true s =
    s.updLine fun l => { l with queue := rest, counters := { l.counters with acked := bump l.counters.acked } } := by
  unfold settleHead
  rw [hq]
  dsimp only
  rw [if_neg (by rw [hc]; nofun), if_pos rfl]
  rfl

theorem settleHead_again (hq : s.line.queue = e :: rest) (hc : e.changed = false)
    (ha : e.attempts + 1 < 1 + retryCount s.line) : settleHead false s =
      s.updLine fun l => { l with queue := { e with attempts := e.attempts + 1 } :: rest } := by
  unfold settleHead
  rw [hq]
  dsimp only
  rw [if_neg (by rw [hc]; nofun), if_neg nofun, if_pos ha]

theorem settleHead_unanswered (hq : s.line.queue = e :: rest) (hc : e.changed = false)
    (ha : 1 + retryCount s.line ≤ e.attempts + 1) : settleHead false s =
      report .unanswered .intertrip (some (kindCause e.kind)) (some e.code.toNat) (s.updLine fun l => { l with
        queue := rest, counters := { l.counters with unanswered := bump l.counters.unanswered } }) := by
  unfold settleHead
  rw [hq]
  dsimp only
  rw [if_neg (by rw [hc]; nofun), if_neg nofun, if_neg (by omega)]

end Sys2Proof.Machine

namespace Sys2Proof.Proofs
open Sys2Proof.Machine

/-- Settles O43: the start, the clocks, the loss and the end of an attempt, each by its rule. -/
theorem sendingAttempts : Obligations.SendingAttempts := by
  refine ⟨fun e rest s hset hq => ?_,
    fun s hset hs => ⟨fun hc => ?clock, fun ends h1 h14 hd => ?own, fun hc hd => ?rise⟩⟩
  · intro waiting sent retries
    have hended (hs : s.line.state = .sending) (ack : Bool) : exec (.sendAttemptEnd ack) s =
        .next (goWaiting (settleHead ack (s.updLine fun l => { l with counters := s.line.sentCounters }))) := by
      refine next_eq ((finish_of_settled ?_).trans (endAttempt_eq hs ack))
      exact (Steady.rfl (x := ∅)).endAttempt.target.trans hset
    have hsent : (s.updLine fun l => { l with counters := s.line.sentCounters }).line.queue = e :: rest := hq
    refine ⟨fun hf hc hl => ?start, fun hs n hn => ?_, fun hs n hn => ?passed, fun hs hc ack => ?changed,
      fun hs hc => ?acked, fun hs hc ha => ?again, fun hs hc ha => ?unanswered⟩
    case start => exact next_eq (startSending_eq hq hf hc hl)
    case passed =>
      refine next_eq ?_
      rw [lostArbitration_passed hs hn, finish_of_settled hset]
    case changed =>
      rw [hended hs, settleHead_changed hsent hc]
      rfl
    case acked =>
      rw [hended hs, settleHead_acked hsent hc]
      rfl
    case again =>
      rw [hended hs, settleHead_again hsent hc ha]
      rfl
    case unanswered =>
      rw [hended hs, settleHead_unanswered hsent hc ha]
      rfl
    · intro driven lost
      have hlost : { s with line := s.line.beaten n s.time.now } = lost := by
        refine line_congr ?_
        unfold LineCtl.beaten
        rw [hq]
        rfl
      refine ⟨fun hl hn13 => next_eq ?_, fun hl hn13 => next_eq ?_, fun ends hclock => ?_⟩
      · rw [lostArbitration_eq hs hn hl, hlost]
        dsimp only
        rw [if_neg (by omega)]
        exact finish_of_settled hset
      · rw [lostArbitration_eq hs hn hl, hlost]
        dsimp only
        rw [if_pos hn13]
        refine finish_of_settled ?_
        exact (Steady.rfl (x := ∅)).judgeBits.target.trans hset
      · exact congrArg (fun u => Host.Outcome.next (finish u)) (sampleLine_other hs hclock)
  case clock =>
    refine next_eq ((lineLow_senderClock hs hc).trans ?_)
    dsimp only
    rw [senderDrives_eq]
    rfl
  case own =>
    refine next_eq ((congrArg finish (sampleLine_own hs h1 h14 hd)).trans ?_)
    exact finish_of_settled hset
  case rise =>
    refine next_eq ((bothHigh_rises (.inl hc) hd fun h => absurd (hs.symm.trans h) nofun).trans ?_)
    rw [updWires_eq]
    refine line_congr ?_
    dsimp only
    rw [if_pos hc, LineCtl.risen_sending hs]
    refine LineCtl.timed_message ?_ ?_ ?_ _
    · rfl
    · rfl
    · exact .inl hs

end Sys2Proof.Proofs
end

section
set_option Elab.async false

/-! SUPPORT. The bits of an intertrip message (R70), and what the judgement of fourteen bits is (R71, R72). -/

namespace Sys2Proof.Machine

variable {s : State}

/-! ## Bits and numbers -/

@[simp] theorem bitsOf_length (k n : Nat) : (bitsOf k n).length = k := by simp [bitsOf]

/-- The bits of a number are those of its upper part and then those of its lower. -/
theorem bitsOf_add (j k n : Nat) : bitsOf (j + k) n = bitsOf j (n / 2 ^ k) ++ bitsOf k n := by
  unfold bitsOf
  rw [List.range_add, List.map_append, List.map_map]
  refine congrArg₂ (· ++ ·) (List.map_congr_left fun i hi => ?_) (List.map_congr_left fun i hi => ?_)
  · have := List.mem_range.1 hi
    rw [Nat.testBit_div_two_pow]
    exact congrArg n.testBit (by omega)
  · exact congrArg n.testBit (by simp only; omega)

theorem numberOfBits_concat (l : List Bool) (b : Bool) : numberOfBits (l ++ [b]) = 2 * numberOfBits l + b.toNat := by
  cases b <;> simp [numberOfBits]

/-- k bits spell a number below 2^k. -/
theorem numberOfBits_lt (l : List Bool) : numberOfBits l < 2 ^ l.length := by
  induction l using List.reverseRecOn with
  | nil => decide
  | append_singleton l b ih =>
    rw [numberOfBits_concat, List.length_append, List.length_singleton, Nat.pow_succ]
    have := b.toNat_le
    omega

/-- The k low bits of a number spell it modulo 2^k. -/
theorem numberOfBits_bitsOf (k n : Nat) : numberOfBits (bitsOf k n) = n % 2 ^ k := by
  induction k generalizing n with
  | zero => simp [bitsOf, numberOfBits, Nat.mod_one]
  | succ k ih =>
    have hbit : bitsOf 1 n = [n.testBit 0] := rfl
    rw [bitsOf_add, hbit, numberOfBits_concat, ih, pow_one, Nat.pow_succ', Nat.mod_mul, Nat.testBit_zero]
    rcases Nat.mod_two_eq_zero_or_one n with h | h
    · simp [h]
    · simp [h]
      omega

/-! ## The parts of a message (R70) -/

/-- The section, the kind and the check that fourteen bits spell. -/
def sectionBits (bits : List Bool) : Nat := numberOfBits (bits.take 8)
def kindBits (bits : List Bool) : Nat := numberOfBits ((bits.drop 8).take 2)
def checkBits (bits : List Bool) : Nat := numberOfBits (bits.drop 10)

/-- Fourteen bits put together of section, kind and check. -/
def partBits (section_ kind check : Nat) : List Bool := bitsOf 8 section_ ++ bitsOf 2 kind ++ bitsOf 4 check

section
variable (a b c : Nat)

theorem partBits_length : (partBits a b c).length = 14 := by simp [partBits]

theorem sectionBits_partBits : sectionBits (partBits a b c) = a % 256 := by
  have : (partBits a b c).take 8 = bitsOf 8 a := by simp [partBits]
  rw [sectionBits, this, numberOfBits_bitsOf]
  rfl

theorem kindBits_partBits : kindBits (partBits a b c) = b % 4 := by
  have : ((partBits a b c).drop 8).take 2 = bitsOf 2 b := by simp [partBits]
  rw [kindBits, this, numberOfBits_bitsOf]
  rfl

theorem checkBits_partBits : checkBits (partBits a b c) = c % 16 := by
  have : (partBits a b c).drop 10 = bitsOf 4 c := by simp [partBits, List.drop_append]
  rw [checkBits, this, numberOfBits_bitsOf]
  rfl

end

/-- Bits above the k lowest do not show. -/
theorem bitsOf_mod (k n : Nat) : bitsOf k (n % 2 ^ k) = bitsOf k n := by
  refine List.map_congr_left fun i hi => ?_
  have := List.mem_range.1 hi
  rw [Nat.testBit_mod_two_pow, decide_eq_true (by omega), Bool.true_and]

/-- R70: the fourteen bits of a number are those of its parts. -/
theorem bitsOf_fourteen (n : Nat) : bitsOf 14 n = partBits (n / 64) (n / 16 % 4) (n % 16) := by
  have hkind : bitsOf 2 (n / 16 % 4) = bitsOf 2 (n / 16) := bitsOf_mod 2 _
  have hcheck : bitsOf 4 (n % 16) = bitsOf 4 n := bitsOf_mod 4 _
  unfold partBits
  rw [hkind, hcheck, bitsOf_add 10 4 n, bitsOf_add 8 2 (n / 2 ^ 4), Nat.div_div_eq_div_mul]
  rfl

theorem messageBits_parts (code : Byte) (k : Kind) :
    messageBits code k = partBits code.toNat (kindCode k) (messageCheck code.toNat (kindCode k)) := rfl

theorem kindOf_kindCode (k : Kind) : kindOf (kindCode k) = some k := by cases k <;> rfl

/-- R70: the number of a message's fourteen bits. -/
theorem bitsOf_messageNumber (code : Byte) (k : Kind) :
    bitsOf 14 (BitVec.ofNat 14 (code.toNat * 64 + kindCode k * 16 + messageCheck code.toNat (kindCode k))).toNat =
      messageBits code k := by
  have hcode := code.isLt
  have hkind : kindCode k < 3 := by cases k <;> decide
  have hcheck : messageCheck code.toNat (kindCode k) < 16 := Nat.mod_lt _ (by decide)
  rw [BitVec.toNat_ofNat, Nat.mod_eq_of_lt (by omega), bitsOf_fourteen, messageBits_parts]
  congr 1 <;> omega

/-! ## The judgement (R71, R72) -/

theorem messageOf_eq {bits : List Bool} (h : bits.length = 14) : messageOf bits =
    if checkBits bits = messageCheck (sectionBits bits) (kindBits bits) then
      some (byteOf (sectionBits bits), kindOf (kindBits bits)) else none := by
  have hcheck : (bits.drop 10).take 4 = bits.drop 10 := List.take_of_length_le (by simp [h])
  unfold messageOf
  rw [hcheck]
  rfl

theorem messageOf_messageBits (code : Byte) (k : Kind) : messageOf (messageBits code k) = some (code, some k) := by
  have hkind : kindCode k % 4 = kindCode k := by cases k <;> rfl
  have hcode : code.toNat % 256 = code.toNat := Nat.mod_eq_of_lt code.isLt
  rw [messageBits_parts, messageOf_eq (partBits_length ..), checkBits_partBits, sectionBits_partBits, kindBits_partBits,
    hkind, hcode, if_pos (show messageCheck _ _ % 16 = messageCheck _ _ from Nat.mod_mod _ _), kindOf_kindCode]
  simp [byteOf]

/-- R71, R72: no feeder in service has the section by an enabled table, or the section is 0. -/
def Unserved (code : Nat) (s : State) : Prop :=
  code = 0 ∨ ∀ t, s.line.table = some t → t.enable = true →
    ∀ f : Fin 8, inService (s.ev f) = true → t.sections[f].toNat ≠ code

theorem accepts_of_unserved {code : Nat} (hlt : code < 256) (h : Unserved code s) : accepts (byteOf code) s = false := by
  have hbyte : (byteOf code).toNat = code := by simp [byteOf, hlt]
  refine Bool.eq_false_iff.2 fun ha => ?_
  obtain ⟨t, ht, he, hc, f, hf, hi⟩ := accepts_feeder ha
  rcases h with h | h
  · exact hc (by rw [h]; rfl)
  · exact h t ht he f hi (by rw [hf, hbyte])

/-- R71: the judgement that accepts nothing, with its counter. -/
def State.refused (c : LineCounters) (s : State) : State := s.updLine fun l => { l with accepted := none, counters := c }

section
variable {bits : List Bool} (hlen : bits.length = 14)
include hlen

theorem judgeBits_wrongCheck (h : checkBits bits ≠ messageCheck (sectionBits bits) (kindBits bits)) :
    judgeBits bits s = s.refused { s.line.counters with checkErrors := bump s.line.counters.checkErrors } := by
  unfold judgeBits
  rw [messageOf_eq hlen, if_neg h]
  rfl

theorem judgeBits_noKind (h : checkBits bits = messageCheck (sectionBits bits) (kindBits bits)) (hk : kindBits bits = 3) :
    judgeBits bits s = s.refused { s.line.counters with kind11 := bump s.line.counters.kind11 } := by
  unfold judgeBits
  rw [messageOf_eq hlen, if_pos h, hk]
  rfl

theorem kindBits_lt : kindBits bits < 4 := by
  have hpart : ((bits.drop 8).take 2).length = 2 := by simp [hlen]
  exact (numberOfBits_lt _).trans_eq (congrArg _ hpart)

theorem sectionBits_lt : sectionBits bits < 256 := by
  have hpart : (bits.take 8).length = 8 := by simp [hlen]
  exact (numberOfBits_lt _).trans_eq (congrArg _ hpart)

theorem judgeBits_unserved (h : checkBits bits = messageCheck (sectionBits bits) (kindBits bits)) (hk : kindBits bits ≠ 3)
    (hu : Unserved (sectionBits bits) s) :
    judgeBits bits s = s.refused { s.line.counters with received := bump s.line.counters.received } := by
  obtain ⟨k, hkind⟩ : ∃ k, kindOf (kindBits bits) = some k := by
    have := kindBits_lt hlen
    interval_cases hb : kindBits bits
    · exact ⟨_, rfl⟩
    · exact ⟨_, rfl⟩
    · exact ⟨_, rfl⟩
    · exact absurd rfl hk
  unfold judgeBits
  rw [messageOf_eq hlen, if_pos h, hkind]
  dsimp only
  rw [accepts_of_unserved (sectionBits_lt hlen) hu]
  rfl

end

/-- R72: the section of a message is accepted. -/
theorem accepts_of_feeder {code : Byte} {tb : LineTable} (ht : s.line.table = some tb) (he : tb.enable = true)
    (hc : code ≠ 0) (hf : ∃ f : Fin 8, tb.sections[f] = code ∧ inService (s.ev f) = true) : accepts code s = true := by
  obtain ⟨f, hf⟩ := hf
  have hmem : f ∈ sectionFeeders code s := by
    unfold sectionFeeders
    rw [ht]
    exact List.mem_filter.2 ⟨List.mem_finRange f, by simpa using hf⟩
  have hne : (sectionFeeders code s).isEmpty = false := by
    rw [List.isEmpty_eq_false_iff]
    exact List.ne_nil_of_mem hmem
  unfold accepts
  rw [ht, hne, decide_eq_true hc]
  simp [he]

theorem judgeBits_accepts {code : Byte} {k : Kind} (h : accepts code s = true) : judgeBits (messageBits code k) s =
    s.updLine fun l => { l with
      accepted := some (code, k), counters := { l.counters with received := bump l.counters.received } } := by
  unfold judgeBits
  rw [messageOf_messageBits]
  dsimp only
  rw [if_pos h]

/-! ## A message given whole, and its sample at clock 14 -/

/-- R71: a message given whole outside another is judged, applied and ended. -/
theorem receiveWhole_eq (h : s.line.state = .waiting ∨ s.line.state = .free) (bits : BitVec 14) :
    receiveWhole bits false s = goWaiting (applyAccepted (judgeBits (bitsOf 14 bits.toNat) s)) := by
  have hr : s.line.state ≠ .receiving := by rcases h with h | h <;> rw [h] <;> nofun
  have hcan : canReceive s.line = true := canReceive_iff.2 (by rcases h with h | h <;> rw [h] <;> decide)
  unfold receiveWhole receivedBits
  rw [if_pos hcan, if_neg (by simp [hr])]
  dsimp only
  rw [if_neg hr]
  rfl

/-- R71: the record at the sample of clock 14, before the judgement. -/
def LineCtl.wholeAt (bit : Bool) (now : Nat) (l : LineCtl) : LineCtl :=
  let low := !bit || l.driveDt
  { l with
    heard := l.heard ++ [bit], freeSince := none, ckLow := false, dtLow := low
    lowAt := if low then l.lowEnd now else none }

theorem sampleLine_fourteenth (hr : s.line.state = .receiving) (hc : s.line.clocks = 14)
    (hh : s.line.heard.length = 13) (bit : Bool) : sampleLine bit s =
      judgeBits (s.line.heard ++ [bit]) { s with line := s.line.wholeAt bit s.time.now } := by
  have hread : updWires (fun l => { l with ckLow := false, dtLow := !bit || l.driveDt, heard := l.heard ++ [bit] }) s =
      { s with line := s.line.wholeAt bit s.time.now } := by
    rw [updWires_eq]
    refine line_congr ?_
    cases hd : !bit || s.line.driveDt <;> simp [LineCtl.timed, LineCtl.wholeAt, LineCtl.lowEnd, hr, hd]
  unfold sampleLine receiveSample
  simp only [hr]
  rw [if_neg (by omega), if_pos (by omega), hread]
  unfold judgeRecord
  rw [if_pos (by simp [LineCtl.wholeAt, hr, hh])]
  rfl

end Sys2Proof.Machine

namespace Sys2Proof.Proofs
open Sys2Proof.Machine

/-- Settles O40: the three judgements that accept nothing, of a message given whole and at the sample of clock 14. -/
theorem messageNotAccepted : Obligations.MessageNotAccepted := by
  refine ⟨fun bits s hset hs => ?_, fun bit ends s hset hr hc hh => ?_⟩
  · intro sec kind check go after
    have hparts := bitsOf_fourteen bits.toNat
    have hlen : (bitsOf 14 bits.toNat).length = 14 := bitsOf_length ..
    have hsec : sectionBits (bitsOf 14 bits.toNat) = sec := by
      rw [hparts, sectionBits_partBits]
      exact Nat.mod_eq_of_lt (by have := bits.isLt; omega)
    have hkind : kindBits (bitsOf 14 bits.toNat) = kind := by rw [hparts, kindBits_partBits, Nat.mod_mod]
    have hcheck : checkBits (bitsOf 14 bits.toNat) = check := by rw [hparts, checkBits_partBits, Nat.mod_mod]
    have hgo {c : LineCounters} (h : judgeBits (bitsOf 14 bits.toNat) s = s.refused c) : go = .next (after c) := by
      have hend : receiveWhole bits false s = after c := by
        rw [receiveWhole_eq hs, h, applyAccepted_none rfl]
        rfl
      exact next_eq ((congrArg finish hend).trans (finish_of_settled hset))
    refine ⟨fun hck => hgo (judgeBits_wrongCheck hlen ?_), fun hck hk => hgo (judgeBits_noKind hlen ?_ ?_),
      fun hck hk hu => hgo (judgeBits_unserved hlen ?_ ?_ ?_)⟩
    all_goals simpa only [hsec, hkind, hcheck]
  · intro bits sec kind check go low after
    have hlen : bits.length = 14 := by simp [bits, hh]
    have hgo {c : LineCounters} (h : judgeBits bits { s with line := s.line.wholeAt bit s.time.now } =
        State.refused c { s with line := s.line.wholeAt bit s.time.now }) : go = .next (after c) := by
      have hend : sampleLine bit s = after c := (sampleLine_fourteenth hr hc hh bit).trans h
      exact next_eq ((congrArg finish hend).trans (finish_of_settled hset))
    exact ⟨fun hck => hgo (judgeBits_wrongCheck hlen hck), fun hck hk => hgo (judgeBits_noKind hlen hck hk),
      fun hck hk hu => hgo (judgeBits_unserved hlen hck hk hu)⟩

end Sys2Proof.Proofs
end

section
set_option Elab.async false

/-! SUPPORT. What an applied message asks of the feeders looks at nothing of the line but its table, its state and its
transmit queue (R73, R78): each operation commutes with a change of the rest of the line's record. -/

namespace Sys2Proof.Machine

variable {s : State} {f : Fin 8} {d : Device} {l : LineCtl}

/-- A record of the line, with what an enqueue reads and writes taken from another. -/
def LineCtl.aside (l m : LineCtl) : LineCtl := { l with table := m.table, state := m.state, queue := m.queue }

/-- Another record of the line, but for what an enqueue reads and writes. -/
def State.aside (l : LineCtl) (s : State) : State := { s with line := l.aside s.line }

theorem aside_eq {m : LineCtl} (ht : m.table = s.line.table) (hs : m.state = s.line.state) (hq : m.queue = s.line.queue) :
    { s with line := m } = s.aside m := by
  unfold State.aside LineCtl.aside
  rw [← ht, ← hs, ← hq]

theorem aside_ite {p : Prop} [Decidable p] {a b u v : State} (ha : a = u.aside l) (hb : b = v.aside l) :
    (if p then a else b) = (if p then u else v).aside l := by
  split
  · exact ha
  · exact hb

section
variable (g : Sequencer → Sequencer) (code : ReportCode) (src : Source) (cause : Option Nat)
  (value : Option Int) (slot : Option (Fin 4))

theorem updSeq_aside : (s.aside l).updSeq f g = (s.updSeq f g).aside l := rfl
theorem submit_aside : submit code src cause value slot (s.aside l) = (submit code src cause value slot s).aside l := rfl
theorem report_aside : report code src cause value (s.aside l) = (report code src cause value s).aside l := rfl

end

theorem forEach_aside {α : Type} {k : α → State → State} (hk : ∀ a u, k a (State.aside l u) = (k a u).aside l)
    (as : List α) (s : State) : forEach as k (s.aside l) = (forEach as k s).aside l := by
  induction as generalizing s with
  | nil => rfl
  | cons a as ih => rw [forEach_cons, forEach_cons, hk, ih]

theorem enqueue_aside (k : Kind) : enqueue f k (s.aside l) = (enqueue f k s).aside l := by
  have htable : (s.aside l).line.table = s.line.table := rfl
  unfold enqueue
  rw [htable]
  split
  · rfl
  · exact aside_ite rfl rfl

theorem lockout_aside (cause : LockoutCause) : lockout f cause (s.aside l) = (lockout f cause s).aside l := by
  unfold lockout
  rw [updSeq_aside, report_aside, enqueue_aside]
  rfl

/-! ## The Switchgear Supervisor -/

theorem sendCommand_aside : sendCommand d (s.aside l) = (sendCommand d s).aside l := by
  have hframe : commandFrame (s.aside l).ring.own ((s.aside l).dev d) = commandFrame s.ring.own (s.dev d) := rfl
  unfold sendCommand
  rw [hframe]
  split <;> rfl

theorem takeCommand_aside (c : Command) (q : Option Requester) :
    takeCommand d c q (s.aside l) = (takeCommand d c q s).aside l := by
  have htime : commandTime d c (s.aside l) = commandTime d c s := by cases d <;> cases c <;> rfl
  unfold takeCommand
  rw [htime, ← sendCommand_aside]
  rfl

theorem guardMain_aside : guardMain f (s.aside l) = (guardMain f s).aside l := by
  refine aside_ite ?_ rfl
  rw [← lockout_aside, ← takeCommand_aside]
  rfl

theorem guardCommand_aside : guardCommand d (s.aside l) = (guardCommand d s).aside l := by
  unfold guardCommand
  split
  · exact guardMain_aside
  · rfl

theorem requestOpen_aside (q : Requester) :
    requestOpen d q (s.aside l) = ((requestOpen d q s).1, (requestOpen d q s).2.aside l) := by
  have hcmd : ((s.aside l).dev d).cmd = (s.dev d).cmd := rfl
  have haddr : ((s.aside l).dev d).addr = (s.dev d).addr := rfl
  unfold requestOpen
  dsimp only
  rw [hcmd, haddr]
  split
  · rfl
  · split
    · rfl
    · rw [← guardCommand_aside, ← takeCommand_aside]
    · rw [← guardCommand_aside, ← takeCommand_aside]
      rfl

theorem askOpen_aside (q : Requester) : askOpen d q (s.aside l) = (askOpen d q s).aside l :=
  congrArg Prod.snd (requestOpen_aside q)

theorem requestClose_aside (q : Requester) :
    requestClose d q (s.aside l) = ((requestClose d q s).1, (requestClose d q s).2.aside l) := by
  have hrefused : closeRefused d (s.aside l) = closeRefused d s := by cases d <;> rfl
  have hcmd : ((s.aside l).dev d).cmd = (s.dev d).cmd := rfl
  unfold requestClose
  rw [hrefused, hcmd]
  split
  · rfl
  · split
    · rfl
    · rw [← takeCommand_aside]

/-! ## The Feeder Evaluators -/

theorem trigger_aside (cause : Cause) (src : Source) :
    trigger cause src (s.aside l) = ((trigger cause src s).1, (trigger cause src s).2.aside l) := by
  have hcapture : (s.aside l).capture = s.capture := rfl
  unfold trigger
  rw [hcapture]
  split
  · rfl
  · split
    · rfl
    · split <;> rfl

theorem tellTrip_aside (cause : Cause) : tellTrip f cause (s.aside l) = (tellTrip f cause s).aside l := by
  have hseq : (s.aside l).seq f = s.seq f := rfl
  unfold tellTrip
  dsimp only
  rw [hseq]
  split
  · rfl
  · rfl
  · rfl
  · rfl
  · exact aside_ite rfl rfl
  · rfl

theorem tripEffects_aside (cause : Cause) (value : Int) :
    tripEffects f cause value (s.aside l) = (tripEffects f cause value s).aside l := by
  unfold tripEffects
  rw [askOpen_aside, trigger_aside]
  dsimp only
  rw [submit_aside, enqueue_aside]
  exact aside_ite rfl rfl

theorem tripDecision_aside (cause : Cause) (value : Int) :
    tripDecision f cause value (s.aside l) = (tripDecision f cause value s).aside l := by
  have htold (u : State) : tripDecision f cause value u =
      tellTrip f cause (tripEffects f cause value (u.updEv f (trippedEv cause value))) := rfl
  rw [htold, htold, ← tellTrip_aside, ← tripEffects_aside]
  rfl

theorem intertripTrip_aside (code : Byte) : intertripTrip f code (s.aside l) = (intertripTrip f code s).aside l := by
  have hev : (s.aside l).ev f = s.ev f := rfl
  unfold intertripTrip
  dsimp only
  rw [hev]
  split
  · exact aside_ite rfl (tripDecision_aside ..)
  · exact aside_ite rfl (tripDecision_aside ..)
  · exact aside_ite rfl (tripDecision_aside ..)
  · rfl
  · rfl

/-! ## The Reclose Sequencers -/

theorem closingEntry_aside : closingEntry f (s.aside l) = (closingEntry f s).aside l := by
  have hasked := requestClose_aside (s := s) (d := .fm f) (l := l) .sequencer
  unfold closingEntry
  rw [hasked]
  exact aside_ite (lockout_aside _) (aside_ite rfl (aside_ite rfl (aside_ite rfl (lockout_aside _))))

theorem testingEntry_aside : testingEntry f (s.aside l) = (testingEntry f s).aside l := by
  have hasked := requestClose_aside (s := s) (d := .ft f) (l := l) .sequencer
  unfold testingEntry
  rw [hasked]
  exact aside_ite (lockout_aside _) (aside_ite (closingEntry_aside (s := testResult ..)) (aside_ite rfl (lockout_aside _)))

theorem testStart_aside : testStart f (s.aside l) = (testStart f s).aside l :=
  aside_ite rfl (aside_ite rfl testingEntry_aside)

theorem interruptTest_aside : interruptTest f (s.aside l) = (interruptTest f s).aside l := by
  have hasked := askOpen_aside (s := clearSums f s) (d := .ft f) (l := l) .sequencer
  exact congrArg (fun u => (enterSeq f .testClear u).updSeq f fun q => { q with purpose := some .hold }) hasked

theorem withdrawClose_aside : withdrawClose f (s.aside l) = (withdrawClose f s).aside l :=
  congrArg (fun u => u.updSeq f fun q => { q with attempts := q.attempts - 1, backingOff := true }) (askOpen_aside _)

theorem holdNotice_aside : holdNotice f (s.aside l) = (holdNotice f s).aside l := by
  have hseq : (s.aside l).seq f = s.seq f := rfl
  unfold holdNotice
  dsimp only
  rw [hseq]
  split
  · rfl
  · rfl
  · rw [updSeq_aside, interruptTest_aside]
    rfl
  · rw [updSeq_aside, interruptTest_aside]
    rfl
  · rw [updSeq_aside, withdrawClose_aside]
    exact aside_ite rfl rfl
  · rfl

theorem releaseHold_aside : releaseHold f (s.aside l) = (releaseHold f s).aside l := by
  unfold releaseHold
  dsimp only
  rw [updSeq_aside, testStart_aside]
  exact aside_ite rfl rfl

/-! ## An accepted message (R73) -/

theorem applyMessage_aside (code : Byte) (k : Kind) :
    applyMessage code k f (s.aside l) = (applyMessage code k f s).aside l := by
  cases k with
  | trip => rw [applyMessage, applyMessage, intertripTrip_aside, holdNotice_aside]
  | hold => exact holdNotice_aside
  | release => exact releaseHold_aside

/-- R73: what an accepted message asks of the feeders of its section. -/
def applied (code : Byte) (k : Kind) (s : State) : State :=
  forEach (sectionFeeders code s) (applyMessage code k) s

theorem applied_aside (code : Byte) (k : Kind) : applied code k (s.aside l) = (applied code k s).aside l :=
  forEach_aside (fun _ _ => applyMessage_aside code k) _ s

/-- The feeders are asked for nothing by the line itself but enqueues. -/
theorem applied_enqueues (code : Byte) (k : Kind) (s : State) : EnqueuesOnly s.line (applied code k s).line :=
  EnqueuesOnly.rfl.forEach fun _ _ hu => hu.applyMessage

/-- R72, R73: an accepted message is applied and reported. -/
theorem applyAccepted_eq {code : Byte} {k : Kind} (h : s.line.accepted = some (code, k)) : applyAccepted s =
    report .messageReceived .intertrip (some (kindCause k)) (some code.toNat)
      (applied code k { s with line := { s.line with accepted := none } }) := by
  unfold applyAccepted
  rw [h]
  rfl

end Sys2Proof.Machine
end

section
set_option Elab.async false

/-! SUPPORT. What an accepted message makes of each feeder of its section (R38, R73, R91, R98, R101). -/

namespace Sys2Proof.Machine

variable {s u : State} {f : Fin 8} {d : Device}

/-! ## One feeder at a time -/

/-- What each turn makes of its own feeder alone, the whole makes of each feeder of the list; what no turn touches is as it
was. -/
theorem forEach_each {α β : Type} {view : Fin 8 → State → α} {rest : State → β} {good : α → Prop}
    {k : Fin 8 → State → State}
    (hk : ∀ f u, good (view f u) → rest (k f u) = rest u ∧ ∀ g, g ≠ f → view g (k f u) = view g u) :
    ∀ (fs : List (Fin 8)) (s : State), fs.Nodup → (∀ f ∈ fs, good (view f s)) →
      rest (forEach fs k s) = rest s ∧ (∀ f, f ∉ fs → view f (forEach fs k s) = view f s) ∧
      ∀ f ∈ fs, ∃ u, rest u = rest s ∧ view f u = view f s ∧ view f (forEach fs k s) = view f (k f u) := by
  intro fs
  induction fs with
  | nil => exact fun s _ _ => ⟨rfl, fun _ _ => rfl, fun f hf => absurd hf List.not_mem_nil⟩
  | cons x fs ih =>
    intro s hn hgood
    obtain ⟨hx, hn⟩ := List.nodup_cons.1 hn
    obtain ⟨hrest, hother⟩ := hk x s (hgood x List.mem_cons_self)
    have hview (f : Fin 8) (hf : f ∈ fs) : view f (k x s) = view f s := hother f fun e => hx (e ▸ hf)
    obtain ⟨irest, iother, iown⟩ := ih (k x s) hn fun f hf => by
      rw [hview f hf]
      exact hgood f (List.mem_cons_of_mem x hf)
    refine ⟨irest.trans hrest, fun f hf => ?_, fun f hf => ?_⟩
    · exact (iother f (List.not_mem_of_not_mem_cons hf)).trans (hother f (List.ne_of_not_mem_cons hf))
    · rcases List.mem_cons.1 hf with rfl | hf
      · exact ⟨s, rfl, rfl, iother f hx⟩
      · obtain ⟨u, hu, hv, e⟩ := iown f hf
        exact ⟨u, hu.trans hrest, hv.trans (hview f hf), e⟩

theorem sectionFeeders_nodup (code : Byte) (s : State) : (sectionFeeders code s).Nodup := by
  unfold sectionFeeders
  split
  · exact List.nodup_nil
  · exact List.Nodup.filter _ (by decide)

theorem mem_sectionFeeders_iff {code : Byte} {tb : LineTable} (ht : s.line.table = some tb) :
    f ∈ sectionFeeders code s ↔ tb.sections[f] = code ∧ inService (s.ev f) = true := by
  have hall : f ∈ feeders := List.mem_finRange f
  unfold sectionFeeders
  rw [ht]
  simp [hall]

/-! ## HOLD and RELEASE (R91) -/

/-- R91: a sequence with the hold that a HOLD sets. -/
def heldSeq (f : Fin 8) (s : State) (q : Sequencer) : Sequencer :=
  { q with hold := true, holdAt := some (deadline s (1000 * (planFor f s).hold)) }

/-- R91: a sequence that gives up its state. -/
def leftSeq (st : SeqState) (q : Sequencer) : Sequencer :=
  { q with state := st, timerAt := none, busWaitAt := none, waitStep := none, purpose := none, backingOff := false }

/-- R91: a sequence without a hold. -/
def freedSeq (q : Sequencer) : Sequencer := { q with hold := false, holdAt := none }

theorem holdNotice_waiting (h : (s.seq f).state = .deadTime ∨ (s.seq f).state = .waitBus) :
    holdNotice f s = s.updSeq f fun q => leftSeq .held (heldSeq f s q) := by
  unfold holdNotice
  rcases h with h | h <;> simp only [h] <;> exact updSeq_updSeq ..

theorem holdNotice_testing (h : (s.seq f).state = .testing ∨ (s.seq f).state = .measuring) :
    holdNotice f s = interruptTest f (s.updSeq f (heldSeq f s)) := by
  unfold holdNotice
  rcases h with h | h <;> simp only [h] <;> rfl

theorem holdNotice_closing (h : (s.seq f).state = .closing) (hp : (s.dev (.fm f)).pos = .opened)
    (hb : (s.seq f).backingOff = false) : holdNotice f s = withdrawClose f (s.updSeq f (heldSeq f s)) := by
  unfold holdNotice
  simp only [h]
  exact if_pos (by simp [hp, hb])

/-- R91: in every other state a HOLD changes the hold alone. -/
theorem holdNotice_noted (h : (s.seq f).state = .closing ∧
    ((s.dev (.fm f)).pos ≠ .opened ∨ (s.seq f).backingOff = true) ∨ seqSafe (s.seq f).state = true ∨
    (s.seq f).state = .held ∨ (s.seq f).state = .testClear ∨
    (s.seq f).state = .reclaim) : holdNotice f s = s.updSeq f (heldSeq f s) := by
  unfold holdNotice
  rcases h with ⟨h, hw⟩ | h | h | h | h
  · simp only [h]
    refine if_neg fun hb => ?_
    simp only [Bool.and_eq_true, decide_eq_true_eq, Bool.not_eq_true'] at hb
    rcases hw with hw | hw
    · exact hw hb.1
    · rw [hb.2] at hw
      exact absurd hw nofun
  · simp only [seqSafe, Bool.or_eq_true, decide_eq_true_eq, or_assoc] at h
    rcases h with h | h | h <;> simp only [h] <;> rfl
  all_goals simp only [h]; rfl

theorem releaseHold_held (h : (s.seq f).state = .held) : releaseHold f s = testStart f (s.updSeq f freedSeq) := if_pos h

theorem releaseHold_noted (h : (s.seq f).state ≠ .held) : releaseHold f s = s.updSeq f freedSeq := if_neg h

/-- R73, R91: the idle sequence of a feeder after a HOLD or a RELEASE. -/
def noticedSeq (k : Kind) (f : Fin 8) (s : State) (q : Sequencer) : Sequencer :=
  { q with
    hold := k = .hold
    holdAt := if k = .hold then some (deadline s (1000 * (planFor f s).hold)) else none }

theorem applyMessage_idle {k : Kind} (hk : k = .hold ∨ k = .release) (h : seqIdle (s.seq f).state = true) (code : Byte) :
    applyMessage code k f s = s.updSeq f (noticedSeq k f s) := by
  rcases hk with rfl | rfl
  · have hsafe : seqSafe (s.seq f).state = true := by
      simp only [seqIdle, seqSafe, Bool.or_eq_true, decide_eq_true_eq] at h ⊢
      exact .inl h
    exact holdNotice_noted (.inr (.inl hsafe))
  · refine releaseHold_noted fun hheld => ?_
    rw [hheld] at h
    exact absurd h (by decide)

/-- R73, R91: with idle sequences a HOLD or a RELEASE changes the holds alone. -/
theorem applied_idle {code : Byte} {k : Kind} {tb : LineTable} (ht : s.line.table = some tb)
    (hk : k = .hold ∨ k = .release) (hidle : ∀ f : Fin 8, tb.sections[f] = code → seqIdle (s.seq f).state = true) :
    applied code k s = { s with seqs := (applied code k s).seqs } ∧
    ∀ f : Fin 8, (applied code k s).seq f =
      if tb.sections[f] = code ∧ inService (s.ev f) = true then noticedSeq k f s (s.seq f) else s.seq f := by
  have hstep (f : Fin 8) (u : State) (h : seqIdle (u.seq f).state = true) :
      ({ applyMessage code k f u with seqs := s.seqs } : State) = { u with seqs := s.seqs } ∧
        ∀ g, g ≠ f → (applyMessage code k f u).seq g = u.seq g := by
    rw [applyMessage_idle hk h]
    exact ⟨rfl, fun g hg => State.updSeq_seq_ne _ _ hg⟩
  obtain ⟨hrest, hother, hown⟩ := forEach_each (view := fun f u => u.seq f) (rest := fun u => { u with seqs := s.seqs })
    (good := fun q => seqIdle q.state = true) hstep (sectionFeeders code s) s (sectionFeeders_nodup ..)
    fun f hf => hidle f ((mem_sectionFeeders_iff ht).1 hf).1
  refine ⟨?_, fun f => ?_⟩
  · exact (congrArg (fun v : State => { v with seqs := (applied code k s).seqs }) hrest : _)
  · split
    · next hf =>
      obtain ⟨u, hu, hv, e⟩ := hown f ((mem_sectionFeeders_iff ht).2 hf)
      have htime : u.time = s.time := (congrArg State.time hu :)
      refine e.trans ?_
      rw [applyMessage_idle hk (by rw [hv]; exact hidle f hf.1), State.updSeq_seq_same, hv]
      unfold noticedSeq deadline
      rw [planFor_seq hv, htime]
    · next hf => exact hother f fun h => hf ((mem_sectionFeeders_iff ht).1 h)

/-! ## TRIP (R34, R38) -/

theorem intertripTrip_trips (h : (s.ev f).state = .quiet ∨ (s.ev f).state = .rising ∨ (s.ev f).state = .degraded)
    (hp : (s.ev f).posView ≠ .opened) (code : Byte) :
    intertripTrip f code s = tripDecision f .intertrip code.toNat s := by
  unfold intertripTrip
  rcases h with h | h | h <;> simp only [h] <;> exact if_neg hp

theorem intertripTrip_ignored (h : (s.ev f).state = .off ∨ (s.ev f).state = .tripping ∨
    (s.ev f).state = .degraded ∧ (s.ev f).posView = .opened) (code : Byte) : intertripTrip f code s = s := by
  unfold intertripTrip
  rcases h with h | h | ⟨h, hp⟩ <;> simp only [h]
  exact if_pos hp

theorem tripDecision_trips (f : Fin 8) (cause : Cause) (value : Int) (s : State) :
    Tripped f cause value s (tripDecision f cause value s) := by
  have hself : s.updEv f id = s := by simp [State.updEv]
  have := tripDecision_tripped (s := s) (f := f) (g := id) rfl cause value
  rwa [hself] at this

theorem tripDecision_eq (f : Fin 8) (cause : Cause) (value : Int) (s : State) : tripDecision f cause value s =
    tellTrip f cause (tripEffects f cause value (s.updEv f (trippedEv cause value))) := rfl

/-- R34: a trip decision asks for its own main breaker alone. -/
theorem tripDecision_otherDev {e : Device} (he : e ≠ .fm f) (cause : Cause) (value : Int) :
    (tripDecision f cause value s).dev e = s.dev e := by
  rw [tripDecision_eq, tellTrip_frame, tripEffects_frame]
  exact askOpen_other (d := .fm f) nofun he ..

/-- R87: a trip is noted by an idle sequence. -/
theorem tripDecision_idleClosed (h : (s.seq f).state = .idleClosed) (cause : Cause) (value : Int) :
    (tripDecision f cause value s).seq f = { s.seq f with noted := some cause } := by
  have htold (u : State) (hu : u.seq f = s.seq f) : (tellTrip f cause u).seq f = { s.seq f with noted := some cause } := by
    unfold tellTrip
    rw [hu, h]
    exact (State.updSeq_seq_same ..).trans (by rw [hu])
  rw [tripDecision_eq]
  refine htold _ ?_
  rw [tripEffects_frame]
  rfl

/-- R156: a report of another class leaves the count of the class INTERTRIP. -/
theorem submit_intertrips {code : ReportCode} (h : classOf code ≠ .intertrip) (src : Source) (cause : Option Nat)
    (value : Option Int) (slot : Option (Fin 4)) (s : State) :
    (submit code src cause value slot s).reports.occurred[classRank .intertrip] =
      s.reports.occurred[classRank .intertrip] := by
  have hrank : (classRank (classOf code)).val ≠ (classRank .intertrip).val := by
    generalize classOf code = c at h
    cases c <;> simp_all [classRank]
  rw [submit_occurred]
  exact Vector.getElem_set_ne _ _ hrank

theorem askOpen_main_intertrips (f : Fin 8) (q : Requester) (s : State) :
    (askOpen (.fm f) q s).reports.occurred[classRank .intertrip] = s.reports.occurred[classRank .intertrip] := by
  rcases askOpen_main_cases f q s with ⟨_, e⟩ | ⟨_, _, e⟩ | ⟨_, _, e⟩ <;> rw [e]
  · rw [takeCommand_reports]
  · rw [takeCommand_reports]
    exact submit_intertrips (by decide) _ _ _ _ s

theorem trigger_intertrips (cause : Cause) (src : Source) (s : State) :
    (trigger cause src s).2.reports.occurred[classRank .intertrip] = s.reports.occurred[classRank .intertrip] := by
  rcases trigger_cases cause src s with ⟨i, _, e⟩ | ⟨i, _, _, e⟩ | ⟨i, _, _, _, e⟩ | ⟨_, _, _, e⟩ <;> rw [e]
  · rfl
  · rfl
  · rfl
  · exact submit_intertrips (by decide) _ _ _ _ _

theorem tripDecision_intertrips (f : Fin 8) (cause : Cause) (value : Int) (s : State) :
    (tripDecision f cause value s).reports.occurred[classRank .intertrip] =
      s.reports.occurred[classRank .intertrip] := by
  rw [tripDecision_eq, tellTrip_frame, tripEffects_frame]
  refine (submit_intertrips (by decide) ..).trans ?_
  exact (trigger_intertrips ..).trans (askOpen_main_intertrips f .feederProtection (s.updEv f (trippedEv cause value)))

/-- R38, R89: a feeder that an intertrip trips from rest: in service, closed, its sequence idle. -/
def AtRest (v : Evaluator × Sequencer × DevRecord) : Prop :=
  v.1.state = .quiet ∧ v.1.posView ≠ .opened ∧ v.2.1.state = .idleClosed

/-- R73: what of the state belongs to a feeder and its main breaker, and what a TRIP of feeders at rest leaves. -/
def feederView (f : Fin 8) (s : State) : Evaluator × Sequencer × DevRecord := (s.ev f, s.seq f, s.dev (.fm f))
def lineView (s : State) : LineCtl × Nat := (s.line, s.reports.occurred[classRank .intertrip])

section
variable (f : Fin 8) (g : Sequencer → Sequencer) (s : State)

theorem lineView_updSeq : lineView (s.updSeq f g) = lineView s := rfl

theorem feederView_updSeq : feederView f (s.updSeq f g) = (s.ev f, g (s.seq f), s.dev (.fm f)) := by
  unfold feederView
  rw [State.updSeq_seq_same]
  rfl

theorem feederView_updSeq_ne {i : Fin 8} (h : i ≠ f) : feederView i (s.updSeq f g) = feederView i s := by
  unfold feederView
  rw [State.updSeq_seq_ne _ _ h]
  rfl

end

/-- R38, R73, R91: a TRIP of a feeder at rest: the trip decision and the hold. -/
theorem applyMessage_trip (h : AtRest (feederView f s)) (code : Byte) : applyMessage code .trip f s =
    (tripDecision f .intertrip code.toNat s).updSeq f (heldSeq f (tripDecision f .intertrip code.toNat s)) := by
  obtain ⟨hquiet, hpos, hseq⟩ := h
  have hsafe : seqSafe ((tripDecision f .intertrip code.toNat s).seq f).state = true := by
    rw [tripDecision_idleClosed hseq]
    exact (congrArg seqSafe hseq).trans (by decide)
  have htrip := intertripTrip_trips (.inl hquiet) hpos code
  unfold applyMessage
  dsimp only
  rw [htrip, holdNotice_noted (.inr (.inl hsafe))]

theorem applyMessage_trip_alone (h : AtRest (feederView f s)) (code : Byte) :
    lineView (applyMessage code .trip f s) = lineView s ∧
      ∀ g, g ≠ f → feederView g (applyMessage code .trip f s) = feederView g s := by
  obtain ⟨-, -, -, -, -, -, -, -, -, -, -, -, hline, -, hother, -⟩ := tripDecision_trips f .intertrip code.toNat s
  rw [if_pos rfl] at hline
  rw [applyMessage_trip h, lineView_updSeq]
  refine ⟨Prod.ext hline (tripDecision_intertrips f .intertrip code.toNat s), fun g hg => ?_⟩
  obtain ⟨hev, hseq⟩ := hother g hg
  have hdev : (tripDecision f .intertrip code.toNat s).dev (.fm g) = s.dev (.fm g) :=
    tripDecision_otherDev (fun e => hg (Device.fm.inj e)) _ _
  rw [feederView_updSeq_ne _ _ _ hg]
  exact Prod.ext hev (Prod.ext hseq hdev)

/-- R34, R89, R91: what a TRIP makes of a feeder at rest. -/
structure TripTaken (code : Byte) (v w : Evaluator × Sequencer × DevRecord) : Prop where
  state : w.1.state = .tripping
  last : w.1.lastTrip = some (.intertrip, (code.toNat : Int))
  asked : v.2.2.addr ≠ none → w.2.2.cmd = .toOpen
  noted : w.2.1.noted = some .intertrip
  hold : w.2.1.hold = true

theorem applyMessage_trip_taken (h : AtRest (feederView f s)) (code : Byte) :
    TripTaken code (feederView f s) (feederView f (applyMessage code .trip f s)) := by
  obtain ⟨hstate, hlast, -, -, -, -, -, -, -, hcmd, -⟩ := tripDecision_trips f .intertrip code.toNat s
  rw [applyMessage_trip h, feederView_updSeq, tripDecision_idleClosed h.2.2]
  exact ⟨hstate, hlast, hcmd, rfl, rfl⟩

/-- R73: a TRIP of feeders at rest trips each, and nothing is enqueued. -/
theorem applied_trip {code : Byte} {tb : LineTable} (ht : s.line.table = some tb)
    (hrest : ∀ f : Fin 8, tb.sections[f] = code → inService (s.ev f) = true → AtRest (feederView f s)) :
    lineView (applied code .trip s) = lineView s ∧
    (∀ f : Fin 8, ¬ (tb.sections[f] = code ∧ inService (s.ev f) = true) →
      feederView f (applied code .trip s) = feederView f s) ∧
    ∀ f : Fin 8, tb.sections[f] = code → inService (s.ev f) = true →
      TripTaken code (feederView f s) (feederView f (applied code .trip s)) := by
  obtain ⟨hline, hother, hown⟩ := forEach_each (view := feederView) (rest := lineView) (good := AtRest)
    (k := applyMessage code .trip) (fun f u h => applyMessage_trip_alone h code) (sectionFeeders code s) s
    (sectionFeeders_nodup ..) fun f hf => by
      obtain ⟨hs, hi⟩ := (mem_sectionFeeders_iff ht).1 hf
      exact hrest f hs hi
  refine ⟨hline, fun f hf => hother f (mt (mem_sectionFeeders_iff ht).1 hf), fun f hs hi => ?_⟩
  obtain ⟨u, -, hv, e⟩ := hown f ((mem_sectionFeeders_iff ht).2 ⟨hs, hi⟩)
  have htaken := applyMessage_trip_taken (f := f) (s := u) (by rw [hv]; exact hrest f hs hi) code
  rwa [hv, ← e] at htaken

/-! ## The OPEN that a HOLD asks for (R98, R101) -/

/-- R49: the report of the CLOSE that an OPEN request withdraws. -/
def withdrawn (d : Device) (s : State) : State :=
  if (s.dev d).cmd = .toClose then reportWithdrawn d s else s

/-- R56: the guard of a command acts on no main breaker but one with CLOSE outstanding. -/
theorem guardCommand_of_no_close (h : ∀ i, d = .ft i → (s.dev (.fm i)).cmd ≠ .toClose) : guardCommand d s = s := by
  cases d with
  | ft i => exact guardMain_of_safe i s fun hc => absurd hc (h i rfl)
  | fm i => rfl
  | dcm => rfl
  | acm => rfl

section
variable (q : Requester) (ha : (s.dev d).addr ≠ none) (hg : ∀ i, d = .ft i → (s.dev (.fm i)).cmd ≠ .toClose)
include ha hg

/-- R49: an assigned device is asked to open, and no guard follows. -/
theorem askOpen_taken : askOpen d q s =
    if (s.dev d).cmd = .toOpen then s else takeCommand d .toOpen (some q) (withdrawn d s) := by
  have hguard (u : State) (hu : u.devs = s.devs) : guardCommand d (takeCommand d .toOpen (some q) u) =
      takeCommand d .toOpen (some q) u := by
    refine guardCommand_of_no_close fun i hi => ?_
    have hmain : (takeCommand d .toOpen (some q) u).dev (.fm i) = s.dev (.fm i) := by
      rw [takeCommand_other _ _ _ _ _ (by rw [hi]; nofun), State.dev, hu, State.dev]
    rw [hmain]
    exact hg i hi
  unfold askOpen withdrawn
  rcases requestOpen_cases d q s with ⟨hn, _⟩ | ⟨_, hc, e⟩ | ⟨_, hc, e⟩ | ⟨_, hc, e⟩
  · exact absurd hn ha
  · rw [e, if_pos hc]
  · rw [e, if_neg (by rw [hc]; nofun), if_neg (by rw [hc]; nofun)]
    exact hguard s rfl
  · rw [e, if_neg (by rw [hc]; nofun), if_pos hc]
    exact hguard _ rfl

/-- R49: what an OPEN request changes beside its own record, the Ring Port and the reports: nothing. -/
theorem askOpen_taken_frame : askOpen d q s = { s with
    devs := (askOpen d q s).devs, ring := (askOpen d q s).ring, reports := (withdrawn d s).reports } := by
  rw [askOpen_taken q ha hg]
  unfold withdrawn
  split
  · next hc => rw [if_neg (by rw [hc]; nofun)]
  · rw [takeCommand_eq]
    split <;> rfl

theorem askOpen_taken_other {e : Device} (he : e ≠ d) : (askOpen d q s).dev e = s.dev e := by
  rw [askOpen_taken q ha hg]
  unfold withdrawn
  split
  · rfl
  · rw [takeCommand_other _ _ _ _ _ he]
    split <;> rfl

end

end Sys2Proof.Machine
end

section
set_option Elab.async false

/-! SUPPORT. How an accepted message is delivered: at its stop when given whole, or at the fall of CK after its clock 15
(R71, R72, R73). -/

namespace Sys2Proof.Machine

variable {s : State} {code : Byte} {k : Kind} {tb : LineTable}

/-- R72, R73: the state after an accepted message has been applied and reported, with a record of the line. -/
def delivered (code : Byte) (k : Kind) (l : LineCtl) (s : State) : State :=
  (report .messageReceived .intertrip (some (kindCause k)) (some code.toNat) (applied code k s)).aside l

/-- The delivery looks at nothing of the line but its table, its state and its queue. -/
theorem applyAccepted_delivers {m : LineCtl} (ha : m.accepted = some (code, k)) (ht : m.table = s.line.table)
    (hs : m.state = s.line.state) (hq : m.queue = s.line.queue) :
    applyAccepted { s with line := m } = delivered code k { m with accepted := none } s := by
  have haside : ({ s with line := { m with accepted := none } } : State) = s.aside { m with accepted := none } :=
    aside_eq ht hs hq
  rw [applyAccepted_eq (s := { s with line := m }) ha]
  dsimp only
  rw [haside, applied_aside]
  rfl

/-- R71, R73: an accepted message given whole is delivered and ended. -/
theorem exec_whole (hset : Settled s) (hw : s.line.state = .waiting ∨ s.line.state = .free) (h : accepts code s = true)
    {bits : BitVec 14} (hb : bitsOf 14 bits.toNat = messageBits code k) :
    exec (.intertripMessageReceived (.whole bits) false) s = .next (goWaiting (delivered code k
      { s.line with
        accepted := none, counters := { s.line.counters with received := bump s.line.counters.received } } s)) := by
  have hwhole : receiveWhole bits false s = goWaiting (delivered code k
      { s.line with
        accepted := none, counters := { s.line.counters with received := bump s.line.counters.received } } s) := by
    rw [receiveWhole_eq hw, hb, judgeBits_accepts h]
    exact congrArg goWaiting (applyAccepted_delivers rfl rfl rfl rfl)
  have hsettled : Settled (receiveWhole bits false s) := (Steady.rfl (x := ∅)).receiveWhole.target.trans hset
  exact next_eq ((finish_of_settled hsettled).trans hwhole)

/-- R72, R73: the fall of CK after the acknowledge slot delivers the message. -/
theorem exec_sixteenth (hset : Settled s) (hr : s.line.state = .receiving) (hc : s.line.clocks = 15)
    (ha : s.line.accepted = some (code, k)) (hck : s.line.ckLow = false) (hd : s.line.driveCk = false) :
    exec (.lineLowEvent .ck) s =
      .next (delivered code k { s.line.clocked s.time.now with accepted := none } s) := by
  have hdelivered : applyAccepted { s with line := s.line.clocked s.time.now } =
      delivered code k { s.line.clocked s.time.now with accepted := none } s := applyAccepted_delivers ha rfl rfl rfl
  have hsettled : Settled (applyAccepted { s with line := s.line.clocked s.time.now }) :=
    Steady.target (x := ∅) (Steady.applyAccepted (s := { s with line := s.line.clocked s.time.now }) .rfl) |>.trans hset
  refine next_eq ((lineLow_clock hr hck).trans ((receiverClock_eq hd).trans ?_))
  dsimp only
  rw [if_pos (by simp [ha, hc]), finish_of_settled hsettled, hdelivered]

/-- R71, R72: the line's record after the fall of CK that begins clock 16. -/
theorem LineCtl.clocked_sixteenth {l : LineCtl} (hc : l.clocks = 15) (now : Nat) : l.clocked now = { l with
    clocks := 16, ckLow := true, driveCk := false, driveDt := false, dtLow := l.dtLow && !l.driveDt,
    freeSince := none, lowAt := l.lowEnd now } := by
  simp [clocked, acknowledges, hc]

/-- R73: the messages' feeders one after another. -/
theorem applied_eq (ht : s.line.table = some tb) : applied code k s =
    ((List.finRange 8).filter fun f => tb.sections[f] = code && inService (s.ev f)).foldl
      (fun u f => applyMessage code k f u) s := by
  unfold applied sectionFeeders
  rw [ht]
  rfl

/-- R73: what a report and a record of the line leave of what was applied. -/
theorem delivered_line (l : LineCtl) : (delivered code k l s).line = l.aside (applied code k s).line := rfl

/-- An applied message leaves the line's table and state; its queue decides the record delivered. -/
theorem delivered_line_of_queue {l : LineCtl} (ht : l.table = s.line.table) (hs : l.state = s.line.state)
    (hq : (applied code k s).line.queue = l.queue) : (delivered code k l s).line = l := by
  have happlied := applied_enqueues code k s
  rw [delivered_line, LineCtl.aside, happlied.table, happlied.state, hq, ← ht, ← hs]

/-- R72: the line after the fall that applied a message which enqueued nothing. -/
theorem delivered_sixteenth (hc : s.line.clocks = 15) (hq : (applied code k s).line.queue = s.line.queue) :
    (delivered code k { s.line.clocked s.time.now with accepted := none } s).line = { s.line with
      clocks := 16, accepted := none, ckLow := true, driveCk := false, driveDt := false,
      dtLow := s.line.dtLow && !s.line.driveDt, freeSince := none, lowAt := s.line.lowEnd s.time.now } := by
  rw [LineCtl.clocked_sixteenth hc]
  refine delivered_line_of_queue ?_ ?_ hq
  · rfl
  · rfl

/-! ## HOLD (R91, R98, R101) -/

variable {f : Fin 8} {d : Device}

/-- R49: the withdrawal's report looks at no sequence. -/
theorem reportedreports_updSeq (g : Sequencer → Sequencer) :
    (withdrawn d (s.updSeq f g)).reports = (withdrawn d s).reports := by
  unfold withdrawn
  rw [State.updSeq_dev]
  split <;> rfl

/-- R49, R98, R101: what an OPEN that the sequencer asks for leaves, with the sequence's own changes before and after. -/
structure OpenAsked (f : Fin 8) (d : Device) (s u : State) : Prop where
  others : ∀ e, e ≠ d → u.dev e = s.dev e
  kept : (s.dev d).cmd = .toOpen → u.dev d = s.dev d
  taken : (s.dev d).cmd ≠ .toOpen → u.dev d = commandedRecord d .toOpen (some .sequencer) s (s.dev d)
  reports : u.reports = (withdrawn d s).reports
  evs : u.evs = s.evs
  line : u.line = s.line
  rect : u.rect = s.rect
  seqs : ∀ i, i ≠ f → u.seq i = s.seq i

section
variable (ha : (s.dev d).addr ≠ none) (hg : ∀ i, d = .ft i → (s.dev (.fm i)).cmd ≠ .toClose)
  (g h : Sequencer → Sequencer)
include ha hg

theorem openAsked : OpenAsked f d s ((askOpen d .sequencer (s.updSeq f g)).updSeq f h) := by
  have hframe := askOpen_taken_frame (s := s.updSeq f g) .sequencer ha hg
  refine ⟨fun e he => askOpen_taken_other (s := s.updSeq f g) .sequencer ha hg he, fun hc => ?_, fun hc => ?_, ?_, ?_,
    ?_, ?_, fun i hi => ?_⟩
  · rw [State.updSeq_dev, askOpen_outstanding (by exact hc), State.updSeq_dev]
  · have htime : commandTime d .toOpen (s.updSeq f g) = commandTime d .toOpen s := by cases d <;> rfl
    refine (requestOpen_dev (s := s.updSeq f g) ha hc .sequencer).trans ?_
    unfold commandedRecord
    rw [htime]
    rfl
  · rw [State.updSeq_reports, hframe]
    exact reportedreports_updSeq g
  · rw [State.updSeq_evs, hframe]
    rfl
  · rw [State.updSeq_line, hframe]
    rfl
  · rw [State.updSeq_rect, hframe]
    rfl
  · rw [State.updSeq_seq_ne _ _ hi, hframe]
    exact State.updSeq_seq_ne _ _ hi

theorem openAsked_seq : ((askOpen d .sequencer (s.updSeq f g)).updSeq f h).seq f = h (g (s.seq f)) := by
  have hseq : (askOpen d .sequencer (s.updSeq f g)).seq f = g (s.seq f) := by
    rw [askOpen_taken_frame (s := s.updSeq f g) .sequencer ha hg]
    exact State.updSeq_seq_same ..
  rw [State.updSeq_seq_same, hseq]

end

/-- R98: the test given up for a hold: the sums are cleared, FTf is asked to open, and the sequence waits for it. -/
theorem interruptTest_eq (g : Sequencer → Sequencer) : interruptTest f (s.updSeq f g) =
    (askOpen (.ft f) .sequencer (s.updSeq f fun q =>
      { g q with busSum := 0, busCount := 0, lineSum := 0, lineCount := 0 })).updSeq f fun q =>
        { leftSeq .testClear q with purpose := some .hold } := by
  have hclear : clearSums f (s.updSeq f g) = s.updSeq f fun q =>
      { g q with busSum := 0, busCount := 0, lineSum := 0, lineCount := 0 } := updSeq_updSeq ..
  unfold interruptTest
  rw [hclear]
  exact updSeq_updSeq ..

end Sys2Proof.Machine

namespace Sys2Proof.Proofs
open Sys2Proof.Machine

/-- Settles O41: an accepted message is delivered in two ways, whole or at the fall of CK after clock 15, and what it makes
of the feeders is the same in both. -/
theorem messagesAccepted : Obligations.MessagesAccepted := by
  refine ⟨fun code k tb s hset ht hk hidle => ?idle, fun code tb s hset ht hrest => ?trip,
    fun code k tb bit ends s hset hr hc hh hb ht he hz hf => ?judged,
    fun s hr hck hd => ⟨fun hc hdt => ?slot, fun hc ha => ?unaccepted⟩,
    fun code k tb s hset ht he hz hf => ?every,
    fun f code s => ⟨fun h hp => ?trips, fun h => intertripTrip_ignored h code⟩,
    fun f s => ?hold, fun f s => ⟨fun h => releaseHold_held h, fun h => releaseHold_noted h⟩⟩
  case idle =>
    intro bits given
    obtain ⟨hframe, hseq⟩ := applied_idle (s := s) ht hk hidle
    have hqueue : (applied code k s).line.queue = s.line.queue := by rw [hframe]
    have hgiven {t : State} {l : LineCtl} (h : t = { delivered code k l s with line := t.line }) : given t := by
      refine ⟨fun f => ?_, ?_⟩
      · rw [h]
        exact hseq f
      · rw [h]
        unfold delivered
        rw [hframe]
        rfl
    exact ⟨fun hw he hz hf => ⟨_, exec_whole hset hw (accepts_of_feeder ht he hz hf) (bitsOf_messageNumber code k),
        hgiven rfl, rfl, hqueue, rfl, rfl⟩,
      fun hr hc ha hck hd => ⟨_, exec_sixteenth hset hr hc ha hck hd, hgiven rfl,
        delivered_sixteenth hc hqueue⟩⟩
  case trip =>
    intro bits given
    have hbits : bitsOf 14 bits.toNat = messageBits code .trip := bitsOf_messageNumber code .trip
    obtain ⟨hline, hother, htaken⟩ := applied_trip (s := s) ht hrest
    have hqueue : (applied code .trip s).line.queue = s.line.queue := congrArg (fun v => v.1.queue) hline
    have hgiven {t : State} {l : LineCtl} (h : t = { delivered code .trip l s with line := t.line }) : given t := by
      have hview (f : Fin 8) : feederView f t = feederView f (applied code .trip s) := by rw [h]; rfl
      refine ⟨fun f hs hi => ?_, fun f hf => ?_, ?_⟩
      · obtain ⟨hstate, hlast, hasked, hnoted, hhold⟩ := htaken f hs hi
        rw [← hview] at hstate hlast hasked hnoted hhold
        exact ⟨hstate, hlast, hasked, hnoted, hhold⟩
      · have hkept := (hview f).trans (hother f hf)
        exact ⟨congrArg (fun v => v.1) hkept, congrArg (fun v => v.2.1) hkept⟩
      · have hcount := congrArg Prod.snd hline
        rw [h]
        refine (congrArg (fun v : Vector Nat 8 => v[classRank .intertrip]) (submit_occurred ..)).trans ?_
        exact (Vector.getElem_set_self _).trans (congrArg bump hcount)
    exact ⟨fun hw he hz hf => ⟨_, exec_whole hset hw (accepts_of_feeder ht he hz hf) hbits, hgiven rfl, hqueue, rfl⟩,
      fun hr hc ha hck hd => ⟨_, exec_sixteenth hset hr hc ha hck hd, hgiven rfl,
        delivered_sixteenth hc hqueue⟩⟩
  case judged =>
    intro low
    have haccepts : accepts code { s with line := s.line.wholeAt bit s.time.now } = true := accepts_of_feeder ht he hz hf
    refine next_eq ((congrArg finish ((sampleLine_fourteenth hr hc hh bit).trans ?_)).trans (finish_of_settled hset))
    rw [hb, judgeBits_accepts haccepts]
    exact line_congr (by rw [LineCtl.wholeAt, hb]; rfl)
  case slot =>
    refine next_eq ((lineLow_clock hr hck).trans ((receiverClock_eq hd).trans ((if_neg ?_).trans (line_congr ?_))))
    · simp [hc]
    · simp [LineCtl.clocked, LineCtl.acknowledges, LineCtl.lowEnd, hc, hdt]
  case unaccepted =>
    refine next_eq ((lineLow_clock hr hck).trans ((receiverClock_eq hd).trans ((if_neg ?_).trans (line_congr ?_))))
    · simp [ha]
    · exact LineCtl.clocked_sixteenth hc _
  case every =>
    intro bits concerned folded given
    have hfold : folded = applied code k s := by
      rw [applied_eq ht]
      exact congrArg (fun step => concerned.foldl step s) (by cases k <;> rfl)
    have hgiven {t : State} {l : LineCtl} (h : t = { delivered code k l s with line := t.line })
        (hq : t.line.queue = (applied code k s).line.queue) (ha : t.line.accepted = none) : given t := by
      rw [← hfold] at hq
      refine ⟨hq, ha, ?_⟩
      rw [hfold]
      exact h
    exact ⟨fun hw => ⟨_, exec_whole hset hw (accepts_of_feeder ht he hz hf) (bitsOf_messageNumber code k),
        hgiven rfl rfl rfl⟩,
      fun hr hc ha hck hd => ⟨_, exec_sixteenth hset hr hc ha hck hd, hgiven rfl rfl rfl⟩⟩
  case trips =>
    rw [intertripTrip_trips h hp]
    exact tripDecision_trips ..
  case hold =>
    intro q u held left reported asked
    have hasked {d : Device} {v : State} (hs : deviceSource d = .feeder f) (h : OpenAsked f d s v) (hv : u = v) :
        asked d := by
      have hreport : withdrawn d s = reported d := by
        unfold withdrawn
        rw [reportWithdrawn_eq, hs]
      rw [← hv] at h
      exact ⟨h.others, h.kept, h.taken, h.reports.trans (by rw [hreport]), h.evs, h.line, h.rect, h.seqs⟩
    refine ⟨fun h => holdNotice_waiting h, fun h hc ha => ?_, fun h hp hb ha => ?_, fun h => holdNotice_noted h⟩
    · have hu : u = _ := (holdNotice_testing h).trans (interruptTest_eq _)
      have hg (i : Fin 8) (hi : Device.ft f = .ft i) : (s.dev (.fm i)).cmd ≠ .toClose := Device.ft.inj hi ▸ hc
      refine ⟨hasked rfl (openAsked ha hg _ _) hu, ?_⟩
      rw [hu, openAsked_seq ha hg]
      rfl
    · have hu : u = _ := holdNotice_closing h hp hb
      refine ⟨hasked rfl (openAsked ha nofun _ _) hu, ?_⟩
      refine (congrArg (fun v : State => v.seq f) hu).trans ((openAsked_seq ha nofun _ _).trans ?_)
      rfl

end Sys2Proof.Proofs
end

section
set_option Elab.async false

/-! SUPPORT. The attempt counts of the sequences against their limits (R85): one record, what a request makes of the
sequences, and the operations of the Reclose Sequencers. -/

namespace Sys2Proof.Machine

/-! ## One record -/

/-- R85: the states that lead to a test. -/
def leadsToTest : SeqState → Bool
  | .deadTime | .held | .waitBus | .testing | .measuring | .testClear => true
  | .idleClosed | .idleOpen | .closing | .reclaim | .lockout => false

namespace AttemptsInLimit
variable {q : Sequencer}

theorem idle_iff (h : seqIdle q.state = true) : AttemptsInLimit q ↔ q.attempts = 0 := by
  unfold AttemptsInLimit
  cases hq : q.state <;> simp_all [seqIdle]

theorem leads_iff (h : leadsToTest q.state = true) : AttemptsInLimit q ↔ q.attempts < q.limit := by
  unfold AttemptsInLimit
  cases hq : q.state <;> simp_all [leadsToTest]

theorem closing_iff (h : q.state = .closing) :
    AttemptsInLimit q ↔ if q.backingOff then q.attempts < q.limit else 1 ≤ q.attempts ∧ q.attempts ≤ q.limit := by
  unfold AttemptsInLimit
  simp only [h]

theorem ended_iff (h : q.state = .reclaim ∨ q.state = .lockout) : AttemptsInLimit q ↔ q.attempts ≤ q.limit := by
  unfold AttemptsInLimit
  rcases h with h | h <;> simp only [h]

theorem of_idle (h : seqIdle q.state = true) (ha : q.attempts = 0) : AttemptsInLimit q := (idle_iff h).2 ha

theorem of_leads (h : leadsToTest q.state = true) (ha : q.attempts < q.limit) : AttemptsInLimit q := (leads_iff h).2 ha

theorem of_ended (h : q.state = .reclaim ∨ q.state = .lockout) (ha : q.attempts ≤ q.limit) : AttemptsInLimit q :=
  (ended_iff h).2 ha

/-- The four kinds of state that R85 tells apart. -/
theorem kinds (st : SeqState) : seqIdle st = true ∨ leadsToTest st = true ∨ st = .closing ∨ st = .reclaim ∨ st = .lockout := by
  cases st <;> decide

/-- In no state does the count exceed the limit. -/
theorem le (h : AttemptsInLimit q) : q.attempts ≤ q.limit := by
  rcases kinds q.state with hq | hq | hq | hq
  · have := (idle_iff hq).1 h
    omega
  · exact ((leads_iff hq).1 h).le
  · have := (closing_iff hq).1 h
    split at this <;> omega
  · exact (ended_iff hq).1 h

end AttemptsInLimit

/-! ## The eight sequences -/

/-- Every sequence keeps to its limit. -/
structure InLimit (v : Vector Sequencer 8) : Prop where
  each : ∀ f : Fin 8, AttemptsInLimit v[f]

/-- A sequence has an attempt left. -/
def AttemptLeft (f : Fin 8) (v : Vector Sequencer 8) : Prop := v[f].attempts < v[f].limit

theorem sequencesInLimit_iff (s : State) : SequencesInLimit s ↔ InLimit s.seqs := ⟨.mk, InLimit.each⟩

namespace InLimit
variable {s t : State} {f : Fin 8} {d : Device}

theorem frame (h : InLimit s.seqs) (e : t.seqs = s.seqs) : InLimit t.seqs := e ▸ h

protected theorem ite {p : Prop} [Decidable p] (hs : InLimit s.seqs) (ht : InLimit t.seqs) :
    InLimit (if p then s else t).seqs := by split <;> assumption

/-- What each turn of a forEach keeps of it, the whole keeps. -/
protected theorem forEach {α : Type} {l : List α} {k : α → State → State} (h : InLimit s.seqs)
    (hk : ∀ a u, InLimit u.seqs → InLimit (k a u).seqs) : InLimit (forEach l k s).seqs :=
  forEach_keeps (fun u => InLimit u.seqs) k l (fun a _ u => hk a u) s h

/-- One sequence is replaced. -/
theorem set {v : Vector Sequencer 8} {q : Sequencer} (h : InLimit v) (hq : AttemptsInLimit q) : InLimit (v.set f q) := by
  refine ⟨fun g => ?_⟩
  by_cases hg : f = g
  · subst hg
    rwa [Fin.getElem_fin, Vector.getElem_set_self]
  · rw [Fin.getElem_fin, Vector.getElem_set_ne _ _ fun e => hg (Fin.ext e)]
    exact h.each g

/-- A change of one sequence; most leave state, count and limit. -/
theorem updSeq {g : Sequencer → Sequencer} (h : InLimit s.seqs)
    (hg : AttemptsInLimit (s.seq f) → AttemptsInLimit (g (s.seq f)) := by exact id) : InLimit (s.updSeq f g).seqs :=
  h.set (hg (h.each f))

theorem left (h : InLimit s.seqs) (hq : leadsToTest (s.seq f).state = true) : AttemptLeft f s.seqs :=
  (AttemptsInLimit.leads_iff hq).1 (h.each f)

/-- R103: a lockout keeps count and limit. -/
protected theorem lockout {cause : LockoutCause} (h : InLimit s.seqs) : InLimit (lockout f cause s).seqs := by
  rw [lockout_seqs]
  exact h.set ((h.each f).le :)

end InLimit

theorem AttemptLeft.lockout {f g : Fin 8} {cause : LockoutCause} {s : State} (h : AttemptLeft g s.seqs) :
    AttemptLeft g (lockout f cause s).seqs := by
  rw [lockout_seqs]
  unfold AttemptLeft
  by_cases hg : f = g
  · subst hg
    rw [Fin.getElem_fin, Vector.getElem_set_self]
    exact h
  · rw [Fin.getElem_fin, Vector.getElem_set_ne _ _ fun e => hg (Fin.ext e)]
    exact h

/-- A change that leaves count and limit. -/
theorem AttemptLeft.updSeq {f : Fin 8} {g : Sequencer → Sequencer} {s : State} (h : AttemptLeft f s.seqs)
    (hg : ∀ q, (g q).attempts = q.attempts ∧ (g q).limit = q.limit := by exact fun _ => ⟨rfl, rfl⟩) :
    AttemptLeft f (s.updSeq f g).seqs := by
  obtain ⟨ha, hl⟩ := hg (s.seq f)
  show ((s.updSeq f g).seq f).attempts < ((s.updSeq f g).seq f).limit
  rw [State.updSeq_seq_same, ha, hl]
  exact h

theorem AttemptLeft.testResult {f : Fin 8} {o : TestOutcome} {r uB uL : Option Nat} {n : Option Int} {s : State}
    (h : AttemptLeft f s.seqs) : AttemptLeft f (testResult f o r uB uL n s).seqs :=
  h.updSeq (g := fun q => { q with lastTest := some ⟨o, r, uB, uL, s.time.day, s.time.micros, s.time.unset⟩ })

/-! ## Requests -/

@[simp] theorem takeCommand_seqs (d : Device) (c : Command) (q : Option Requester) (s : State) :
    (takeCommand d c q s).seqs = s.seqs := by rw [takeCommand_eq]

/-- R56: what the guard of a test contactor makes of the sequences. -/
theorem guardMain_seqs_cases (f : Fin 8) (s : State) :
    (guardMain f s).seqs = s.seqs ∨ (guardMain f s).seqs = (lockout f .testContactor s).seqs := by
  unfold guardMain
  split
  · refine .inr ?_
    rw [lockout_seqs, lockout_seqs, State.seq, takeCommand_seqs]
    rfl
  · exact .inl rfl

/-- R49, R56: what an OPEN request makes of the sequences: nothing, or the lockout of the guard that follows it. -/
theorem requestOpen_seqs_cases (d : Device) (q : Requester) (s : State) :
    (requestOpen d q s).2.seqs = s.seqs ∨ ∃ f, (requestOpen d q s).2.seqs = (lockout f .testContactor s).seqs := by
  have hguard (u : State) (hu : u.seqs = s.seqs) :
      (guardCommand d u).seqs = s.seqs ∨ ∃ f, (guardCommand d u).seqs = (lockout f .testContactor s).seqs := by
    unfold guardCommand
    split
    · next f =>
      refine (guardMain_seqs_cases f u).imp (fun h => h.trans hu) fun h => ⟨f, ?_⟩
      rw [h, lockout_seqs, lockout_seqs, State.seq, State.seq, hu]
    · exact .inl hu
  rcases requestOpen_cases d q s with ⟨_, e⟩ | ⟨_, _, e⟩ | ⟨_, _, e⟩ | ⟨_, _, e⟩ <;> rw [e]
  · exact .inl rfl
  · exact .inl rfl
  · exact hguard _ (takeCommand_seqs ..)
  · exact hguard _ (takeCommand_seqs ..)

@[simp] theorem requestClose_seqs (d : Device) (q : Requester) (s : State) : (requestClose d q s).2.seqs = s.seqs := by
  rcases requestClose_cases d q s with ⟨_, e⟩ | ⟨_, _, e⟩ | ⟨_, _, e⟩ <;> rw [e]
  exact takeCommand_seqs ..

/-- A main breaker's OPEN is followed by no guard. -/
@[simp] theorem askOpen_main_seqs (f : Fin 8) (q : Requester) (s : State) : (askOpen (.fm f) q s).seqs = s.seqs := by
  rw [askOpen_main_eq]

theorem AttemptLeft.askOpen {f : Fin 8} {d : Device} {q : Requester} {s : State} (h : AttemptLeft f s.seqs) :
    AttemptLeft f (askOpen d q s).seqs := by
  unfold Machine.askOpen
  rcases requestOpen_seqs_cases d q s with e | ⟨g, e⟩ <;> rw [e]
  · exact h
  · exact h.lockout

namespace InLimit
variable {s t : State} {f : Fin 8} {d : Device}

protected theorem advanceTo {n : Nat} (h : InLimit s.seqs) : InLimit (advanceTo n s).seqs := h.frame (advanceTo_seqs n s)

protected theorem requestOpen {q : Requester} (h : InLimit s.seqs) : InLimit (requestOpen d q s).2.seqs := by
  rcases requestOpen_seqs_cases d q s with e | ⟨g, e⟩ <;> rw [e]
  · exact h
  · exact h.lockout

protected theorem askOpen {q : Requester} (h : InLimit s.seqs) : InLimit (askOpen d q s).seqs := h.requestOpen

protected theorem requestClose {q : Requester} (h : InLimit s.seqs) : InLimit (requestClose d q s).2.seqs :=
  h.frame (requestClose_seqs ..)

protected theorem guardMain (h : InLimit s.seqs) : InLimit (guardMain f s).seqs := by
  rcases guardMain_seqs_cases f s with e | e <;> rw [e]
  · exact h
  · exact h.lockout

protected theorem guardCommand (h : InLimit s.seqs) : InLimit (guardCommand d s).seqs := by
  unfold Machine.guardCommand
  split
  · exact h.guardMain
  · exact h

protected theorem guardPosition {changed : State} (h : InLimit s.seqs) : InLimit (guardPosition d changed s).seqs := by
  unfold Machine.guardPosition
  split
  · exact .ite h.askOpen.lockout h
  · exact h.guardMain
  · exact h

/-- R87: a trip cause is noted, or not. -/
protected theorem tellTrip {cause : Cause} (h : InLimit s.seqs) : InLimit (tellTrip f cause s).seqs := by
  unfold Machine.tellTrip
  dsimp only
  split
  · exact h.updSeq
  · exact h.updSeq
  · exact h.updSeq
  · exact h.updSeq
  · exact .ite h h.updSeq
  · exact h

/-! ## States entered -/

/-- A state that leads to a test is entered with an attempt left. -/
protected theorem enterSeq {st : SeqState} (h : InLimit s.seqs) (hl : AttemptLeft f s.seqs)
    (hst : leadsToTest st = true) : InLimit (enterSeq f st s).seqs :=
  h.set (.of_leads hst hl)

/-- R85: an idle state is entered with a = 0. -/
protected theorem enterIdle {st : SeqState} (h : InLimit s.seqs) (hst : seqIdle st = true) :
    InLimit (enterIdle f st s).seqs := by
  unfold Machine.enterIdle Machine.enterSeq
  rw [updSeq_updSeq]
  exact h.set (.of_idle hst rfl)

protected theorem waitDead {k : Nat} (h : InLimit s.seqs) (hl : AttemptLeft f s.seqs) : InLimit (waitDead f k s).seqs :=
  .ite (h.enterSeq hl rfl) (h.enterSeq hl rfl).updSeq

protected theorem waitBus {w : WaitingStep} (h : InLimit s.seqs) (hl : AttemptLeft f s.seqs) :
    InLimit (waitBus f w s).seqs := (h.enterSeq hl rfl).updSeq

/-! ## The line test (R93 to R100) -/

/-- R100: a CLOSE that is asked for counts the attempt that was left. -/
protected theorem closingEntry (h : InLimit s.seqs) (hl : AttemptLeft f s.seqs) : InLimit (closingEntry f s).seqs := by
  have hcloses : InLimit ((enterSeq f .closing (requestClose (.fm f) .sequencer s).2).updSeq f fun q =>
      { q with attempts := q.attempts + 1 }).seqs := by
    unfold Machine.enterSeq
    rw [updSeq_updSeq]
    refine h.requestClose.set ((AttemptsInLimit.closing_iff rfl).2 ?_)
    rw [requestClose_seqs]
    exact (if_neg nofun).mpr ⟨Nat.le_add_left .., hl⟩
  exact .ite h.lockout <| .ite (h.enterSeq hl rfl) <| .ite (h.waitBus hl) <| .ite hcloses h.requestClose.lockout

protected theorem testResult {o : TestOutcome} {r uB uL : Option Nat} {n : Option Int} (h : InLimit s.seqs) :
    InLimit (testResult f o r uB uL n s).seqs :=
  h.updSeq (g := fun q => { q with lastTest := some ⟨o, r, uB, uL, s.time.day, s.time.micros, s.time.unset⟩ })

protected theorem testingEntry (h : InLimit s.seqs) (hl : AttemptLeft f s.seqs) : InLimit (testingEntry f s).seqs := by
  have hresult {o : TestOutcome} {r uB uL : Option Nat} {n : Option Int} :
      InLimit (closingEntry f (testResult f o r uB uL n s)).seqs := h.testResult.closingEntry hl.testResult
  have hasked : InLimit (enterSeq f .testing (requestClose (.ft f) .sequencer s).2).seqs :=
    h.requestClose.enterSeq (by rwa [requestClose_seqs]) rfl
  exact .ite h.lockout <| .ite hresult <| .ite hasked h.requestClose.lockout

protected theorem testStart (h : InLimit s.seqs) (hl : AttemptLeft f s.seqs) : InLimit (testStart f s).seqs :=
  .ite (h.enterSeq hl rfl) <| .ite (h.waitBus hl) (h.testingEntry hl)

end InLimit

end Sys2Proof.Machine
end


section
set_option Elab.async false

/-! SUPPORT. The attempt counts through the Reclose Sequencers' timers, notices, completions and operator requests. -/

namespace Sys2Proof.Machine

namespace InLimit
variable {s t : State} {f : Fin 8} {d : Device}

/-! ## The line test (R94 to R99) -/

/-- R96: a test that has an outcome had an attempt left, which the OPEN of its contactor leaves. -/
protected theorem testOutcome {o : TestOutcome} {r uB uL : Option Nat} {n : Option Int} (h : InLimit s.seqs)
    (hl : AttemptLeft f s.seqs) : InLimit (testOutcome f o r uB uL n s).seqs := by
  have hleft : AttemptLeft f (askOpen (.ft f) .sequencer (testResult f o r uB uL n s)).seqs :=
    AttemptLeft.askOpen hl.testResult
  exact (h.testResult.askOpen.enterSeq hleft rfl).updSeq

protected theorem workOut (h : InLimit s.seqs) (hl : AttemptLeft f s.seqs) : InLimit (workOut f s).seqs :=
  .ite (h.testOutcome hl) <| .ite (h.testOutcome hl) (h.testOutcome hl)

protected theorem settleExpired (h : InLimit s.seqs) (hl : AttemptLeft f s.seqs) : InLimit (settleExpired f s).seqs :=
  .ite (h.enterSeq hl rfl).updSeq (h.testOutcome hl)

/-- R95: a reading leaves state, count and limit. -/
theorem addReading_kept (b l : Bool) (i : Instant) (q : Sequencer) : (addReading b l i q).state = q.state ∧
    (addReading b l i q).attempts = q.attempts ∧ (addReading b l i q).limit = q.limit := by
  unfold addReading
  dsimp only
  split <;> split <;> exact ⟨rfl, rfl, rfl⟩

protected theorem takeSequencerCopy {k : Copy} (h : InLimit s.seqs) : InLimit (takeSequencerCopy f k s).seqs := by
  unfold Machine.takeSequencerCopy
  dsimp only
  split
  · next hq =>
    have hl : AttemptLeft f s.seqs := h.left (by rw [hq]; rfl)
    refine .ite ?_ h
    split
    · exact h.closingEntry hl
    · exact h.testingEntry hl
  · next hq =>
    have hl : AttemptLeft f s.seqs := h.left (by rw [hq]; rfl)
    have hadded (b l : Bool) : InLimit (s.updSeq f (addReading b l k.own)).seqs := by
      obtain ⟨hstate, ha, hlim⟩ := addReading_kept b l k.own (s.seq f)
      refine h.updSeq fun _ => .of_leads (by rw [hstate, hq]; rfl) ?_
      rw [ha, hlim]
      exact hl
    exact .ite (.ite (h.testOutcome hl) (.ite ((hadded _ _).workOut (hl.updSeq fun q => (addReading_kept _ _ _ q).2))
      (hadded _ _))) h
  · exact h

/-- What only a measurement in progress takes. -/
theorem measuring {t : State} {p : Bool} (h : InLimit s.seqs) (ht : AttemptLeft f s.seqs → InLimit t.seqs) :
    InLimit (if ((s.seq f).state = .measuring && p) = true then t else s).seqs := by
  split
  · next hq =>
    simp only [Bool.and_eq_true, decide_eq_true_eq] at hq
    exact ht (h.left (by rw [hq.1]; rfl))
  · exact h

protected theorem sequencerStateNotice {n : StateNotice} (h : InLimit s.seqs) :
    InLimit (sequencerStateNotice f n s).seqs := by
  unfold Machine.sequencerStateNotice
  rw [Bool.and_assoc, Bool.and_assoc]
  exact h.measuring h.testOutcome

protected theorem busChannelChanged (h : InLimit s.seqs) : InLimit (busChannelChanged f s).seqs := by
  unfold Machine.busChannelChanged
  split
  · next hq => exact .ite h.updSeq (h.testOutcome (h.left (by rw [hq]; rfl)))
  · exact h

/-- R98: a test that is interrupted had an attempt left. -/
protected theorem interruptTest (h : InLimit s.seqs) (hl : AttemptLeft f s.seqs) : InLimit (interruptTest f s).seqs := by
  have hleft : AttemptLeft f (askOpen (.ft f) .sequencer (clearSums f s)).seqs :=
    AttemptLeft.askOpen (s := clearSums f s) hl.updSeq
  exact ((InLimit.askOpen (s := clearSums f s) h.updSeq).enterSeq hleft rfl).updSeq

/-- R97: a test that is cleared had an attempt left; a faulted line takes it. -/
protected theorem testCleared (h : InLimit s.seqs) (hq : (s.seq f).state = .testClear) :
    InLimit (testCleared f s).seqs := by
  have hl : AttemptLeft f s.seqs := h.left (by rw [hq]; rfl)
  unfold Machine.testCleared
  dsimp only
  split
  · exact h
  · exact h.closingEntry hl
  · exact h.closingEntry hl
  · generalize hcounted : s.updSeq f (fun q => { q with attempts := q.attempts + 1 }) = counted
    have hseq : counted.seq f = { s.seq f with attempts := (s.seq f).attempts + 1 } := by
      rw [← hcounted, State.updSeq_seq_same]
    have hseqs : counted.seqs = s.seqs.set f { s.seq f with attempts := (s.seq f).attempts + 1 } := by
      rw [← hcounted]
      rfl
    split
    · next hlt =>
      have hin : InLimit counted.seqs := by
        rw [hseqs]
        exact h.set (.of_leads (by rw [hq]; rfl) hlt)
      refine hin.waitDead ?_
      show (counted.seq f).attempts < (counted.seq f).limit
      rw [hseq]
      exact hlt
    · rw [lockout_seqs, hseq, hseqs, Vector.set_set]
      exact h.set (.of_ended (.inr rfl) hl)
  · exact .ite (h.enterSeq hl rfl) (h.waitBus hl)
  · exact h.lockout
  · exact .ite (h.enterSeq hl rfl) (h.testStart hl)

/-! ## Holds (R91, R98, R101) -/

/-- R101: a CLOSE that is withdrawn gives its attempt back. -/
protected theorem withdrawClose (h : InLimit s.seqs) (hq : (s.seq f).state = .closing)
    (hb : (s.seq f).backingOff = false) : InLimit (withdrawClose f s).seqs := by
  obtain ⟨hpos, hle⟩ : 1 ≤ (s.seq f).attempts ∧ (s.seq f).attempts ≤ (s.seq f).limit := by
    have hin := (AttemptsInLimit.closing_iff hq).1 (h.each f)
    exact (if_neg (by rw [hb]; nofun)).mp hin
  have hseq : (askOpen (.fm f) .sequencer s).seqs[f] = s.seq f := by
    rw [askOpen_main_seqs]
    rfl
  refine h.askOpen.set ((AttemptsInLimit.closing_iff ?_).2 ?_)
  · exact (congrArg Sequencer.state hseq).trans hq
  · rw [if_pos rfl, hseq]
    show (s.seq f).attempts - 1 < (s.seq f).limit
    omega

protected theorem holdNotice (h : InLimit s.seqs) : InLimit (holdNotice f s).seqs := by
  unfold Machine.holdNotice
  dsimp only
  generalize hheld : s.updSeq f (fun q => { q with
    hold := true, holdAt := some (deadline s (1000 * (planFor f s).hold)) }) = held
  have hin : InLimit held.seqs := by
    rw [← hheld]
    exact h.updSeq
  have hleft (hq : leadsToTest (s.seq f).state = true) : AttemptLeft f held.seqs := by
    rw [← hheld]
    exact (h.left hq).updSeq
  split
  · next hq => exact hin.enterSeq (hleft (by rw [hq]; rfl)) rfl
  · next hq => exact hin.enterSeq (hleft (by rw [hq]; rfl)) rfl
  · next hq => exact hin.interruptTest (hleft (by rw [hq]; rfl))
  · next hq => exact hin.interruptTest (hleft (by rw [hq]; rfl))
  · next hq =>
    split
    · next hc =>
      simp only [Bool.and_eq_true, Bool.not_eq_true'] at hc
      have hseq : held.seq f = { s.seq f with
          hold := true, holdAt := some (deadline s (1000 * (planFor f s).hold)) } := by
        rw [← hheld, State.updSeq_seq_same]
      exact hin.withdrawClose (by rw [hseq]; exact hq) (by rw [hseq]; exact hc.2)
    · exact hin
  · exact hin

protected theorem releaseHold (h : InLimit s.seqs) : InLimit (releaseHold f s).seqs := by
  unfold Machine.releaseHold
  dsimp only
  split
  · next hq => exact (h.updSeq).testStart (h.left (by rw [hq]; rfl)).updSeq
  · exact h.updSeq

/-! ## Notices and completions (R86 to R89, R97, R99, R101 to R103) -/

/-- R88: a sequence starts from an idle state, with no attempt made. -/
protected theorem sequenceStart (h : InLimit s.seqs) (hq : seqIdle (s.seq f).state = true) :
    InLimit (sequenceStart f s).seqs := by
  unfold Machine.sequenceStart
  dsimp only
  generalize hstarted : s.updSeq f (fun q => { q with
    attempts := 0, limit := (planFor f s).limit, noted := none }) = started
  have hin : InLimit started.seqs := by
    rw [← hstarted]
    exact h.updSeq fun _ => .of_idle hq rfl
  split
  · exact hin.enterIdle rfl
  · split
    · exact InLimit.lockout hin
    · split
      · exact InLimit.lockout hin
      · next hn =>
        refine InLimit.waitDead hin ?_
        show (started.seq f).attempts < (started.seq f).limit
        rw [← hstarted, State.updSeq_seq_same]
        exact Nat.pos_of_ne_zero hn

/-- R102: a retrip goes on while an attempt is left. -/
protected theorem retrip (h : InLimit s.seqs) : InLimit (retrip f s).seqs := by
  unfold Machine.retrip
  dsimp only
  split
  · exact (h.updSeq).lockout
  · split
    · next hlt => exact (h.updSeq).waitDead (AttemptLeft.updSeq hlt)
    · exact (h.updSeq).lockout

protected theorem mainNotice {old new : Position} {mark : Bool} (h : InLimit s.seqs) :
    InLimit (mainNotice f old new mark s).seqs := by
  have habandoned : InLimit (if new = .closed then reportAbandoned f 1 (enterIdle f .idleClosed s) else s).seqs :=
    .ite (h.enterIdle rfl) h
  unfold Machine.mainNotice
  dsimp only
  split
  · next hq => exact .ite (h.enterIdle rfl).updSeq (.ite (h.sequenceStart (by rw [hq]; rfl)) h)
  · next hq => exact .ite (.ite (h.sequenceStart (by rw [hq]; rfl)) (h.enterIdle rfl)) h
  · exact habandoned
  · exact habandoned
  · exact habandoned
  · exact .ite h.retrip h
  · exact .ite h.retrip h
  · exact .ite h.updSeq h
  · exact h
  · exact h
  · exact h

protected theorem testNotice {old new : Position} (h : InLimit s.seqs) : InLimit (testNotice f old new s).seqs :=
  .ite h.askOpen.lockout h

protected theorem sequencerCompletion {isMain : Bool} {c : Command} (h : InLimit s.seqs) :
    InLimit (sequencerCompletion f isMain c s).seqs := by
  unfold Machine.sequencerCompletion
  dsimp only
  split
  · exact h.updSeq
  · next hq => exact h.testCleared hq
  · rw [startSeqTimer_enterSeq]
    exact h.set (.of_ended (.inl rfl) (h.each f).le)
  · next hq =>
    split
    · next hb =>
      have hl : AttemptLeft f s.seqs := by
        have hin := (AttemptsInLimit.closing_iff hq).1 (h.each f)
        rwa [if_pos hb] at hin
      exact .ite (h.enterSeq hl rfl) (h.testStart hl)
    · exact h
  · exact h

protected theorem reclaimExpired (h : InLimit s.seqs) : InLimit (reclaimExpired f s).seqs :=
  (h.enterIdle (f := f) (st := .idleClosed) rfl).frame (enqueue_seqs ..)

/-! ## The operator's requests (R104 to R106) -/

/-- R104: an abandoned sequence is idle. -/
theorem abandoned (h : InLimit s.seqs) : InLimit
    (if seqIdle (s.seq f).state then (enterIdle f .idleOpen (clearSums f s)).updSeq f fun q => { q with noted := none }
      else reportAbandoned f 2 ((enterIdle f .idleOpen (clearSums f s)).updSeq f fun q => { q with noted := none })).seqs := by
  have hidle : InLimit ((enterIdle f .idleOpen (clearSums f s)).updSeq f fun q => { q with noted := none }).seqs :=
    (InLimit.enterIdle (s := clearSums f s) h.updSeq rfl).updSeq
  exact .ite hidle hidle

protected theorem operatorOpen (h : InLimit s.seqs) : InLimit (operatorOpen f s).2.seqs := by
  have hasked : InLimit (requestOpen (.fm f) .operator s).2.seqs := h.requestOpen
  unfold Machine.operatorOpen
  dsimp only
  generalize requestOpen (.fm f) .operator s = r at hasked
  have hboth : InLimit (askOpen (.ft f) .operator r.2).seqs := hasked.askOpen
  generalize askOpen (.ft f) .operator r.2 = both at hboth
  split
  · exact h
  · split
    · split
      · exact hboth
      · exact hboth.abandoned
    · split
      · exact hasked
      · exact hasked.abandoned

/-- R105: a taken CLOSE starts a sequence of one attempt. -/
protected theorem operatorClose (h : InLimit s.seqs) (hq : operatorCloseTaken f s = true) :
    InLimit (operatorClose f s).seqs := by
  simp only [operatorCloseTaken, Bool.and_eq_true, decide_eq_true_eq] at hq
  have hidle : seqIdle (s.seq f).state = true := by
    rw [hq.1.1]
    rfl
  unfold Machine.operatorClose
  generalize hstarted : s.updSeq f (fun q => { q with attempts := 0, limit := 1, noted := none }) = started
  have hin : InLimit started.seqs := by
    rw [← hstarted]
    exact h.updSeq fun _ => .of_idle hidle rfl
  have hleft : AttemptLeft f started.seqs := by
    show (started.seq f).attempts < (started.seq f).limit
    rw [← hstarted, State.updSeq_seq_same]
    exact Nat.one_pos
  exact InLimit.testStart (s := report .sequenceStart (.feeder f) (some 6) (some 1) started) hin hleft

protected theorem clearFlagAtRest (h : InLimit s.seqs) : InLimit (clearFlagAtRest d s).seqs := .ite h h

protected theorem resetLockout (h : InLimit s.seqs) : InLimit (resetLockout f s).seqs := by
  have hcleared : InLimit (clearFlagAtRest (.ft f) (clearFlagAtRest (.fm f) s)).seqs :=
    h.clearFlagAtRest.clearFlagAtRest
  unfold Machine.resetLockout
  rw [enqueue_seqs]
  generalize clearFlagAtRest (.ft f) (clearFlagAtRest (.fm f) s) = u at hcleared
  exact (hcleared.enterIdle (f := f) (st := .idleOpen) rfl).updSeq (f := f) (g := fun q => { q with lockCause := none })

/-! ## Adoption and RESTART (R108, R110) -/

/-- R108: an idle sequence takes the new plan's limit, with no attempt made. -/
protected theorem sequencerAdopt {p : Plan} (h : InLimit s.seqs) : InLimit (sequencerAdopt f p s).seqs := by
  refine h.updSeq fun hin => ?_
  by_cases hq : seqIdle (s.seq f).state = true
  · exact .of_idle hq ((AttemptsInLimit.idle_iff hq).1 hin)
  · rw [if_neg hq]
    exact hin

protected theorem restartSequencer (h : InLimit s.seqs) : InLimit (restartSequencer f s).seqs := by
  unfold Machine.restartSequencer Machine.enterSeq Machine.clearSums
  rw [updSeq_updSeq, updSeq_updSeq]
  exact h.set (.of_idle rfl rfl)

protected theorem restartIdle (h : InLimit s.seqs) : InLimit (restartIdle f s).seqs :=
  h.enterIdle (by split <;> rfl)

end InLimit

end Sys2Proof.Machine
end


section
set_option Elab.async false

/-! SUPPORT. The attempt counts through the Switchgear Supervisor, the Feeder Evaluators and the rectifier: none of them
touches a sequence but by a lockout, a trip cause, a notice or a completion. -/

namespace Sys2Proof.Machine

/-! ## What leaves the sequences alone -/

@[simp] theorem trigger_seqs (cause : Cause) (src : Source) (s : State) : (trigger cause src s).2.seqs = s.seqs := by
  rw [trigger_eq]

@[simp] theorem settle_seqs (f : Fin 8) (s : State) : (settle f s).seqs = s.seqs := by rw [Notified.settle_frame]

@[simp] theorem evaluatorNotice_seqs (f : Fin 8) (new : Position) (s : State) :
    (evaluatorNotice f new s).seqs = s.seqs := by
  unfold evaluatorNotice
  dsimp only
  split
  · split
    · exact settle_seqs ..
    · rfl
  · split <;> rfl
  · split <;> rfl
  · split
    · exact settle_seqs ..
    · rfl
  · rfl

@[simp] theorem testEnd_seqs (f : Fin 8) (ft : FeederSettings) (slope : Int) (s : State) :
    (testEnd f ft slope s).seqs = s.seqs := by
  unfold testEnd
  dsimp only
  split <;> rfl

@[simp] theorem missingStep_seqs (f : Fin 8) (ft : FeederSettings) (s : State) :
    (missingStep f ft s).seqs = s.seqs := by
  unfold missingStep
  dsimp only
  split
  · exact testEnd_seqs ..
  · rfl

@[simp] theorem startTest_seqs (f : Fin 8) (ft : FeederSettings) (own old : Instant) (s : State) :
    (startTest f ft own old s).seqs = s.seqs := by
  unfold startTest
  dsimp only
  split
  · split
    · exact trigger_seqs ..
    · rfl
  · rfl

/-- The counters of POSITION frames are no sequence's. -/
theorem positionCounters_seqs (m n : Nat) (s : State) :
    ({ s with unmatchedPos := m, malformedPos := n } : State).seqs = s.seqs := rfl

@[simp] theorem restartSwitchgear_seqs (s : State) : (restartSwitchgear s).seqs = s.seqs := by
  have hended (d : Device) (u : State) :
      ((endCommand d u).updDev d fun r => { r with flag := .none }).seqs = u.seqs := rfl
  exact (positionCounters_seqs 0 0 _).trans (forEach_frame State.seqs _ deviceList hended s)

namespace InLimit
variable {s t : State} {f : Fin 8} {d : Device}

/-! ## The Switchgear Supervisor -/

protected theorem takeCommand {c : Command} {q : Option Requester} (h : InLimit s.seqs) :
    InLimit (takeCommand d c q s).seqs := h.frame (takeCommand_seqs ..)

protected theorem repeatExpired (h : InLimit s.seqs) : InLimit (repeatExpired d s).seqs :=
  .ite h (h.frame (by rw [sendCommand_eq]))

/-! ## The Feeder Evaluators -/

/-- R34, R87: a trip decision tells its sequence the cause. -/
protected theorem tripDecision {cause : Cause} {value : Int} (h : InLimit s.seqs) :
    InLimit (tripDecision f cause value s).seqs := by
  have heffects : (tripEffects f cause value (s.updEv f (trippedEv cause value))).seqs = s.seqs := by
    rw [tripEffects_frame, State.updEv_seqs]
  exact InLimit.tellTrip (h.frame heffects)

protected theorem channelLoss (h : InLimit s.seqs) : InLimit (channelLoss f s).seqs := by
  unfold Machine.channelLoss
  split
  · exact h
  · split
    · exact h
    · exact h.tripDecision

protected theorem viewChange {new : ChanState} (h : InLimit s.seqs) : InLimit (viewChange f new s).seqs := by
  have hsettled : InLimit (settle f (s.updEv f fun e => { e with chanView := new })).seqs := h.frame (settle_seqs ..)
  have hlost : InLimit (Machine.channelLoss f (s.updEv f fun e => { e with chanView := new })).seqs :=
    InLimit.channelLoss h
  unfold Machine.viewChange
  dsimp only
  split
  · exact .ite hsettled h
  · exact .ite hsettled h
  · exact h
  · exact .ite hlost h
  · exact .ite hlost h

protected theorem intertripTrip {code : Byte} (h : InLimit s.seqs) : InLimit (intertripTrip f code s).seqs := by
  unfold Machine.intertripTrip
  dsimp only
  split
  · exact .ite h h.tripDecision
  · exact .ite h h.tripDecision
  · exact .ite h h.tripDecision
  · exact h
  · exact h

protected theorem ownStep {ft : FeederSettings} {own old : Instant} (h : InLimit s.seqs) :
    InLimit (ownStep f ft own old s).seqs := by
  refine .ite h.tripDecision ?_
  dsimp only
  split
  · exact .ite h.tripDecision (h.frame (startTest_seqs ..))
  · exact .ite h.tripDecision (.ite h.tripDecision (h.frame (testEnd_seqs ..)))
  · exact h

/-! ## The Rectifier Group Controller -/

protected theorem rectTrip {cause : Cause} {value : Int} (h : InLimit s.seqs) :
    InLimit (rectTrip cause value s).seqs := by
  have htold {u : State} {c : Option Nat} (hu : InLimit u.seqs) : InLimit
      (submit .rectTrip .rectifier c (some value) (trigger cause .rectifier u).1 (trigger cause .rectifier u).2).seqs :=
    hu.frame (trigger_seqs ..)
  unfold Machine.rectTrip
  split
  · exact h
  · exact h
  · refine htold (.ite (InLimit.askOpen ?_) ?_)
    · exact h
    · exact h

protected theorem cancelWait {cause : Nat} (h : InLimit s.seqs) : InLimit (cancelWait cause s).seqs :=
  .ite h <| .ite (InLimit.askOpen h) h

protected theorem stopFailed (h : InLimit s.seqs) : InLimit (stopFailed s).seqs := .ite h h.rectTrip

protected theorem beginBreakerStep {n : Nat} (h : InLimit s.seqs) :
    InLimit (beginBreakerStep n d s).seqs := by
  have hasked : InLimit (requestOpen d .rectifier (setStopStep n s)).2.seqs := InLimit.requestOpen h
  exact .ite hasked hasked.stopFailed

@[simp] theorem becomeBlocked_seqs (s : State) : (becomeBlocked s).seqs = s.seqs := by
  unfold becomeBlocked
  dsimp only
  split <;> rfl

protected theorem stopArrival {rt : RectSettings} {k : Copy} (h : InLimit s.seqs) :
    InLimit (stopArrival rt k s).seqs := .ite (.ite h.beginBreakerStep h) h

protected theorem currentLost {c : Fin 24} {left : Bool} (h : InLimit s.seqs) :
    InLimit (currentLost c left s).seqs := .ite h.rectTrip <| .ite h.stopFailed h

protected theorem overcurrent {rt : RectSettings} {k : Copy} (h : InLimit s.seqs) :
    InLimit (overcurrent rt k s).seqs := .ite (.ite h.rectTrip h) h

protected theorem addCurrent {i : Instant} (h : InLimit s.seqs) : InLimit (addCurrent i s).seqs :=
  .ite h h

protected theorem takeCurrentCopy {k : Copy} (h : InLimit s.seqs) :
    InLimit (takeCurrentCopy k s).seqs := by
  unfold Machine.takeCurrentCopy
  split
  · exact h
  · exact .ite (InLimit.ite h h.currentLost).overcurrent.addCurrent.stopArrival h

protected theorem takeBusCopy {k : Copy} (h : InLimit s.seqs) : InLimit (takeBusCopy k s).seqs :=
  .ite (.ite h h) h

protected theorem trackerTo {st : TrackState} {cause value : Nat} (h : InLimit s.seqs) :
    InLimit (trackerTo st cause value s).seqs :=
  .ite (.ite (InLimit.rectTrip h) (InLimit.cancelWait h)) h

protected theorem rectStateNotice {n : StateNotice} (h : InLimit s.seqs) :
    InLimit (rectStateNotice n s).seqs := by
  unfold Machine.rectStateNotice
  split
  · exact h
  · next r _ =>
    have htracked : InLimit (if r.uabChan = n.chan then trackerChannelLost s else s).seqs := .ite h.trackerTo h
    exact .ite (.ite htracked.currentLost htracked) h

protected theorem acNotice {new : Position} {mark : Bool} (h : InLimit s.seqs) :
    InLimit (acNotice new mark s).seqs := by
  have hended : InLimit (if (cancelWait 4 (rectGo .off s)).rect.stopStep = 4 then cancelWait 4 (rectGo .off s)
      else setStopStep 0 (cancelWait 4 (rectGo .off s))).seqs := .ite (InLimit.cancelWait h) (InLimit.cancelWait h)
  unfold Machine.acNotice
  dsimp only
  split
  · exact .ite h (.ite h h)
  · exact .ite h (.ite hended hended)
  · exact .ite h.rectTrip h
  · exact .ite h.rectTrip h
  · exact .ite h.rectTrip h
  · exact h

protected theorem dcNotice {old new : Position} (h : InLimit s.seqs) :
    InLimit (dcNotice old new s).seqs :=
  .ite h <| .ite (h.frame (becomeBlocked_seqs s)) <| .ite h.cancelWait h

protected theorem rectCompletion {c : Command} (h : InLimit s.seqs) :
    InLimit (rectCompletion d c s).seqs := by
  unfold Machine.rectCompletion
  split
  · exact .ite h h
  · exact .ite h.beginBreakerStep h
  · exact .ite h h
  · exact h

protected theorem dcCloseFailed (h : InLimit s.seqs) : InLimit (dcCloseFailed s).seqs :=
  .ite h.rectTrip h

protected theorem rectOpenFailed (h : InLimit s.seqs) :
    InLimit (rectOpenFailed d s).seqs := by
  unfold Machine.rectOpenFailed
  split
  · exact .ite h h.stopFailed
  · exact .ite h.stopFailed h
  · exact h

protected theorem closeAc (h : InLimit s.seqs) : InLimit (closeAc s).2.seqs := by
  unfold Machine.closeAc
  split
  · exact h.requestClose
  · exact h

protected theorem deblock (h : InLimit s.seqs) : InLimit (deblock s).2.seqs := by
  unfold Machine.deblock
  split
  · exact h
  · split
    · exact h
    · dsimp only
      split
      · exact h
      · split
        · exact h.requestClose (d := .dcm) (q := .rectifier)
        · exact h

@[simp] theorem block_seqs (s : State) : (block s).2.seqs = s.seqs := by
  unfold block
  split <;> rfl

protected theorem stopFull (h : InLimit s.seqs) : InLimit (stopFull s).2.seqs := by
  unfold Machine.stopFull
  split
  · exact h
  · split
    · exact h
    · exact h
    · exact h
    · exact h.cancelWait (cause := 5)
    · exact h

protected theorem resetRect (h : InLimit s.seqs) : InLimit (resetRect s).2.seqs := by
  unfold Machine.resetRect
  split
  · exact h.clearFlagAtRest.clearFlagAtRest (d := .acm)
  · exact h

/-! ## The regulator and the firing scheduler -/

@[simp] theorem resumeRegulator_seqs (s : State) : (resumeRegulator s).seqs = s.seqs := by
  unfold resumeRegulator
  split <;> rfl

@[simp] theorem setLimitFlag_seqs (b : Bool) (s : State) : (setLimitFlag b s).seqs = s.seqs := by
  unfold setLimitFlag
  split <;> rfl

@[simp] theorem testRunning_seqs (rt : RectSettings) (uTgt : Int) (s : State) : (testRunning rt uTgt s).seqs = s.seqs := by
  unfold testRunning
  split <;> rfl

@[simp] theorem regulatorStep_seqs (rt : RectSettings) (s : State) : (regulatorStep rt s).seqs = s.seqs := by
  unfold regulatorStep
  dsimp only
  split
  · split <;> rfl
  · rw [testRunning_seqs, State.updRect_seqs, setLimitFlag_seqs, resumeRegulator_seqs]

protected theorem endWait {rt : RectSettings} {at_ : Int} (h : InLimit s.seqs) :
    InLimit (endWait rt at_ s).seqs := .ite h.cancelWait <| .ite h.cancelWait h

@[simp] theorem firingFallsDue_seqs (s : State) : (firingFallsDue s).seqs = s.seqs := by
  unfold firingFallsDue
  split
  · rfl
  · dsimp only
    split
    · exact (becomeBlocked_seqs _).trans (advanceTo_seqs ..)
    · exact advanceTo_seqs ..

protected theorem timeoutCheck (h : InLimit s.seqs) : InLimit (timeoutCheck s).seqs := by
  unfold Machine.timeoutCheck
  dsimp only
  split
  · exact .ite h.trackerTo h
  · exact h

/-! ## Positions -/

protected theorem giveNotice {old new : Position} {mark : Bool} (h : InLimit s.seqs) :
    InLimit (giveNotice d old new mark s).seqs := by
  unfold Machine.giveNotice
  split
  · exact InLimit.mainNotice (h.frame (evaluatorNotice_seqs ..))
  · exact h.testNotice
  · exact h.dcNotice
  · exact h.acNotice

protected theorem escalate (h : InLimit s.seqs) : InLimit (escalate d s).seqs := by
  unfold Machine.escalate
  split
  · exact InLimit.lockout (h.askOpen.rectTrip.frame ((trigger_seqs ..).trans (enqueue_seqs ..)))
  · exact InLimit.lockout h
  · exact InLimit.rectOpenFailed (h.askOpen (d := .acm) (q := .escalation))
  · exact InLimit.rectOpenFailed h

protected theorem openFailed (h : InLimit s.seqs) : InLimit (openFailed d s).seqs :=
  InLimit.escalate h

protected theorem tellCloseFailed (h : InLimit s.seqs) :
    InLimit (tellCloseFailed d s).seqs := by
  unfold Machine.tellCloseFailed
  split
  · exact h.lockout
  · exact h.lockout
  · exact h.dcCloseFailed
  · exact h

protected theorem closeFailed (h : InLimit s.seqs) : InLimit (closeFailed d s).seqs :=
  InLimit.guardCommand (InLimit.tellCloseFailed (InLimit.takeCommand h))

protected theorem tellCompleted {c : Command} (h : InLimit s.seqs) :
    InLimit (tellCompleted d c s).seqs := by
  unfold Machine.tellCompleted
  split
  · exact h.sequencerCompletion
  · exact h.sequencerCompletion
  · exact h.rectCompletion

protected theorem completeCommand (h : InLimit s.seqs) : InLimit (completeCommand d s).seqs :=
  InLimit.tellCompleted (.ite h h)

protected theorem commandChecks (h : InLimit s.seqs) : InLimit (commandChecks d s).seqs := by
  unfold Machine.commandChecks
  dsimp only
  split
  · exact h.completeCommand
  · exact h.completeCommand
  · exact .ite h h.openFailed
  · exact h.closeFailed
  · exact h

protected theorem openTimerExpired (h : InLimit s.seqs) : InLimit (openTimerExpired d s).seqs := .ite h.openFailed h

protected theorem closeTimerExpired (h : InLimit s.seqs) : InLimit (closeTimerExpired d s).seqs := .ite h.closeFailed h

end InLimit

end Sys2Proof.Machine
end



section
set_option Elab.async false

/-! SUPPORT. The attempt counts through adoption, a change of position, and the arrivals at the consumers. -/

namespace Sys2Proof.Machine

namespace InLimit
variable {s t : State} {f : Fin 8} {d : Device}

/-! ## Adoption -/

@[simp] theorem readdress_seqs (d : Device) (a : Byte × Byte) (s : State) : (readdress d a s).seqs = s.seqs := by
  unfold readdress
  dsimp only
  split
  · rfl
  · split
    · rfl
    · split
      · rw [sendCommand_eq]
        rfl
      · rfl

/-- R44: a re-addressed record's notice goes to its owner. -/
protected theorem takeAddress {a : Byte × Byte} (h : InLimit s.seqs) : InLimit (takeAddress d a s).seqs := by
  have hmoved : InLimit (readdress d a s).seqs := h.frame (readdress_seqs ..)
  exact .ite hmoved hmoved.giveNotice.guardPosition

protected theorem evaluatorAdopt {ft : FeederSettings} {b : Bool} (h : InLimit s.seqs) :
    InLimit (evaluatorAdopt f ft b s).seqs := by
  have hsettled {g : Evaluator → Evaluator} : InLimit (settle f (s.updEv f g)).seqs := h.frame (settle_seqs ..)
  exact .ite (.ite hsettled hsettled) h

protected theorem adoptFeeder {b : Bool} {bank : List Byte} (h : InLimit s.seqs) :
    InLimit (adoptFeeder b bank f s).seqs :=
  h.evaluatorAdopt.sequencerAdopt.takeAddress.takeAddress

protected theorem rectChannelsMove {old : Option RectSettings} {rt : RectSettings} (h : InLimit s.seqs) :
    InLimit (rectChannelsMove old rt s).seqs := by
  have hbus : InLimit (if old.map (fun o => o.busChan) = some rt.busChan then s
      else forEach feeders busChannelChanged s).seqs := .ite h (h.forEach fun _ _ hu => hu.busChannelChanged)
  unfold Machine.rectChannelsMove
  dsimp only
  split
  · exact .ite hbus hbus.trackerTo
  · have huab := InLimit.ite (p := old.map (fun o => o.uabChan) = some rt.uabChan) hbus
      (hbus.trackerTo (st := .unlocked) (cause := 4)
        (value := (if old.map (fun o => o.busChan) = some rt.busChan then s
          else forEach feeders busChannelChanged s).rect.tracker.p256))
    exact .ite (InLimit.rectTrip huab) huab

protected theorem adoptRect {bank : List Byte} (h : InLimit s.seqs) :
    InLimit (adoptRect bank s).seqs := by
  rw [adoptRect_eq]
  exact (InLimit.takeAddress (InLimit.rectChannelsMove (s := clampAlpha (rectOf bank) s) h)).takeAddress

@[simp] theorem becomeFree_seqs (s : State) : (becomeFree s).seqs = s.seqs := by
  unfold becomeFree
  split <;> rfl

protected theorem adoptLine {bank : List Byte} (h : InLimit s.seqs) :
    InLimit (adoptLine bank s).seqs := by
  refine h.frame ?_
  unfold Machine.adoptLine adoptLineTable
  dsimp only
  split
  · rfl
  · split
    · exact becomeFree_seqs ..
    · rfl

protected theorem adoptCapture {bank : List Byte} (h : InLimit s.seqs) :
    InLimit (adoptCapture bank s).seqs := h

protected theorem clearMark {k : Fin 13} (h : InLimit s.seqs) : InLimit (clearMark k s).seqs := by
  rw [clearMark_eq]
  exact h

protected theorem adoptIf {k : Fin 13} {safe : State → Bool} {adopt : List Byte → State → State}
    (h : InLimit s.seqs) (ha : ∀ bank u, InLimit u.seqs → InLimit (adopt bank u).seqs) :
    InLimit (adoptIf k safe adopt s).seqs := by
  rcases adoptIf_cases k safe adopt s with e | ⟨_, _, _, _, e⟩ <;> rw [e]
  · exact h
  · exact (ha _ _ h).clearMark

protected theorem sweepOnce (h : InLimit s.seqs) : InLimit (sweepOnce s).seqs := by
  have hfeeders := h.forEach (l := feeders)
    (k := fun f => Machine.adoptIf (feederMark f) (feederSafe f) fun b => Machine.adoptFeeder true b f)
    fun _ _ hu => hu.adoptIf fun _ _ hv => hv.adoptFeeder
  exact ((hfeeders.adoptIf fun _ _ => InLimit.adoptRect).adoptIf fun _ _ => InLimit.adoptLine).adoptIf
    fun _ _ => InLimit.adoptCapture

protected theorem sweeps {n : Nat} (h : InLimit s.seqs) : InLimit (sweeps n s).seqs :=
  sweeps_keeps (fun u => InLimit u.seqs) (fun _ => InLimit.sweepOnce) n s h

protected theorem rebuildConsumers (h : InLimit s.seqs) : InLimit (rebuildConsumers s).seqs :=
  h.frame (by
    unfold Machine.rebuildConsumers
    rfl)

protected theorem finish (h : InLimit s.seqs) : InLimit (finish s).seqs :=
  .ite h.sweeps.rebuildConsumers h

protected theorem adoptRectAtCrossing (h : InLimit s.seqs) : InLimit (adoptRectAtCrossing s).seqs :=
  .ite (InLimit.adoptIf h fun _ _ => InLimit.adoptRect).rebuildConsumers h

/-- R148: a consumer adopts whatever its state. -/
protected theorem adoptAlways {k : Fin 13} {adopt : List Byte → State → State}
    (h : InLimit s.seqs) (ha : ∀ bank u, InLimit u.seqs → InLimit (adopt bank u).seqs) :
    InLimit (adoptAlways k adopt s).seqs := h.adoptIf ha

protected theorem adoptTheRest {b : Bool} (h : InLimit s.seqs) : InLimit (adoptTheRest b s).seqs := by
  have hfeeders := h.forEach (l := feeders)
    (k := fun f => Machine.adoptAlways (feederMark f) fun bank => Machine.adoptFeeder b bank f)
    fun _ _ hu => hu.adoptAlways fun _ _ hv => hv.adoptFeeder
  exact ((hfeeders.adoptAlways fun _ _ => InLimit.adoptRect).adoptAlways
    fun _ _ => InLimit.adoptLine).adoptAlways fun _ _ => InLimit.adoptCapture

protected theorem completePending (h : InLimit s.seqs) : InLimit (completePending s).seqs :=
  .ite (h.adoptTheRest (b := false)).rebuildConsumers h

protected theorem noticeTo {n : StateNotice} {k : Consumer} (h : InLimit s.seqs) :
    InLimit (noticeTo n k s).seqs := by
  unfold Machine.noticeTo
  split
  · exact h.viewChange
  · exact h.sequencerStateNotice
  · exact h.rectStateNotice
  · exact h

protected theorem stateNotice {n : StateNotice} (h : InLimit s.seqs) :
    InLimit (stateNotice n s).seqs := h.forEach fun _ _ hu => hu.noticeTo

protected theorem adoptChannel {old new : Vector StreamEntry 24} {c : Fin 24} (h : InLimit s.seqs) :
    InLimit (adoptChannel old new c s).seqs := by
  have hreset : InLimit (s.updChan c resetChannel).seqs := h.frame (State.updChan_seqs ..)
  exact .ite h (.ite hreset hreset.stateNotice)

protected theorem adoptStreams {bank : List Byte} (h : InLimit s.seqs) :
    InLimit (adoptStreams bank s).seqs := by
  rw [adoptStreams_eq]
  exact (h.frame (State.updMatcher_seqs ..)).forEach fun _ _ hu => hu.adoptChannel

protected theorem startSwitch (h : InLimit s.seqs) : InLimit (startSwitch s).seqs := by
  have hbegun (u : State) (hu : InLimit u.seqs) : InLimit
      (Machine.adoptAlways 11 adoptReports (Machine.adoptAlways 0 Machine.adoptStreams u)).seqs :=
    InLimit.adoptAlways (hu.adoptAlways fun _ _ => InLimit.adoptStreams) fun _ _ hv => hv
  have hmarked : InLimit (s.updBanks fun k => { k with
      target := some (standby s), mask := Vector.replicate 13 true }).seqs := h
  have hlast (u : State) (hu : InLimit u.seqs) :
      InLimit (rebuildConsumers (Machine.sweeps 13 u)).seqs := hu.sweeps.rebuildConsumers
  unfold Machine.startSwitch
  dsimp only
  refine hlast _ ?_
  split
  · exact (hbegun _ hmarked).adoptTheRest
  · exact hbegun _ hmarked

/-! ## Positions -/

/-- R46, R149: the notice, with the owner's safe point looked for after each part of it. -/
protected theorem ownerNotice {old new : Position} {mark : Bool} (h : InLimit s.seqs) :
    InLimit (ownerNotice d old new mark s).seqs := by
  unfold Machine.ownerNotice
  split
  · next f => exact (h.frame (evaluatorNotice_seqs f new s)).finish.mainNotice.finish
  · exact h.giveNotice.finish

protected theorem changePosition {new : Position} (h : InLimit s.seqs) : InLimit (changePosition d new s).seqs := by
  have hreported : InLimit (positionReport d (s.dev d) new (s.updDev d fun r => { r with pos := new })).seqs := by
    rw [positionReport_eq]
    exact h
  exact hreported.ownerNotice.guardPosition.finish

protected theorem positionAged (h : InLimit s.seqs) : InLimit (positionAged d s).seqs := by
  have haged : InLimit (breakerReport .positionUnknown d (positionCode (s.dev d).pos)
      (s.updDev d fun r => { r with pos := .unknown, ageAt := none })).seqs := h
  exact .ite h haged.ownerNotice.guardPosition

protected theorem matchPosition {new : Position} (h : InLimit s.seqs) : InLimit (matchPosition new d s).seqs := by
  have hfresh : InLimit (s.updDev d fun r => { r with ageAt := some (deadline s 50) }).seqs := h
  exact InLimit.commandChecks (.ite hfresh hfresh.changePosition)

protected theorem takePosition {fr : Frame} (h : InLimit s.seqs) :
    InLimit (takePosition fr s).seqs := by
  unfold Machine.takePosition
  dsimp only
  split
  · exact h
  · split
    · exact h
    · split
      · exact h
      · exact h.forEach fun _ _ hu => hu.matchPosition

/-! ## Arrivals at the consumers -/

protected theorem missingSteps {c : Fin 24} {n : Nat} (h : InLimit s.seqs) :
    InLimit (missingSteps f c n s).seqs := by
  induction n generalizing s with
  | zero => exact h
  | succ n ih =>
    unfold Machine.missingSteps
    split
    · exact h
    · exact ih (h.frame (missingStep_seqs ..)).finish

protected theorem workCopy {k : Copy} (h : InLimit s.seqs) : InLimit (workCopy f k s).seqs := by
  unfold Machine.workCopy
  split
  · exact h.missingSteps
  · exact h.missingSteps.ownStep

protected theorem takeEvaluatorCopy {k : Copy} (h : InLimit s.seqs) : InLimit (takeEvaluatorCopy f k s).seqs := by
  by_cases hnamed : (s.ev f).settings.map (fun t => t.chan) = some k.chan
  · obtain ⟨ft, hs, hc⟩ := Option.map_eq_some_iff.1 hnamed
    by_cases hw : Evaluating (s.ev f) ∧ k.after = .valid
    · rw [takeEvaluatorCopy_works hs hc hw.1 hw.2]
      exact InLimit.workCopy h
    · rw [takeEvaluatorCopy_view hs hc hw]
      exact h.viewChange
  · rw [show takeEvaluatorCopy f k s = s from if_neg hnamed]
    exact h

protected theorem evaluatorTakes (h : InLimit s.seqs) : InLimit (evaluatorTakes f s).seqs := by
  unfold Machine.evaluatorTakes
  split
  · exact h
  · exact InLimit.finish (InLimit.takeEvaluatorCopy (s := s.updEv f _) h)

protected theorem sequencerTakes (h : InLimit s.seqs) : InLimit (sequencerTakes f s).seqs := by
  unfold Machine.sequencerTakes
  split
  · exact h
  · exact InLimit.finish (InLimit.takeSequencerCopy h.updSeq)

protected theorem lockedCrossing {back : Nat} (h : InLimit s.seqs) :
    InLimit (lockedCrossing back s).seqs := by
  have ha : InLimit (adoptRectAtCrossing (dropFirings s)).seqs :=
    InLimit.adoptRectAtCrossing (s := dropFirings s) h
  unfold Machine.lockedCrossing
  dsimp only
  generalize adoptRectAtCrossing (dropFirings s) = u at ha
  split
  · exact ha
  · next rt _ =>
    have hregulated : InLimit (regulatorStep rt u).seqs := ha.frame (regulatorStep_seqs ..)
    split
    · exact hregulated
    · exact hregulated
    · exact ha
    · exact .ite ha.endWait ha
    · exact ha

protected theorem takeCrossing {time : BitVec 40} {back : Nat} {n : BitVec 32} (h : InLimit s.seqs) :
    InLimit (takeCrossing time back n s).seqs := by
  have hnoted : InLimit (noteCrossing time n s).seqs := h
  have hrejected : InLimit (rejectPeriod (noteCrossing time n s)).seqs := h
  unfold Machine.takeCrossing
  dsimp only
  generalize rejectPeriod (noteCrossing time n s) = v at hrejected
  generalize noteCrossing time n s = u at hnoted
  split
  · exact hnoted
  · refine .ite ?_ hrejected
    split <;> exact hnoted
  · exact .ite (InLimit.lockedCrossing (s := u.updRect _) hnoted) (InLimit.trackerTo (s := v) hrejected)

protected theorem takeTrackerCopy {k : Copy} (h : InLimit s.seqs) :
    InLimit (takeTrackerCopy k s).seqs := by
  unfold Machine.takeTrackerCopy
  dsimp only
  refine .ite (.ite (InLimit.timeoutCheck ?_) (.ite h (InLimit.trackerTo (s := s.updRect _) h))) h
  split
  · exact h
  · exact InLimit.takeCrossing (s := s.updRect _) h

protected theorem trackerTakes (h : InLimit s.seqs) : InLimit (trackerTakes s).seqs := by
  unfold Machine.trackerTakes
  split
  · exact h
  · exact InLimit.finish (InLimit.takeTrackerCopy (s := s.updRect _) h)

protected theorem currentTakes (h : InLimit s.seqs) : InLimit (currentTakes s).seqs := by
  unfold Machine.currentTakes
  split
  · exact h
  · exact InLimit.finish (InLimit.takeCurrentCopy (s := s.updRect _) h)

protected theorem busTakes (h : InLimit s.seqs) : InLimit (busTakes s).seqs := by
  unfold Machine.busTakes
  split
  · exact h
  · exact InLimit.takeBusCopy (s := s.updRect _) h

protected theorem captureTakes (h : InLimit s.seqs) : InLimit (captureTakes s).seqs := by
  have htaken {u : State} {k : Copy} (hu : InLimit u.seqs) : InLimit (takeCaptureCopy k u).seqs :=
    .ite (InLimit.forEach (s := u.updCapture _) hu fun _ _ hv => .ite hv hv) hu
  unfold Machine.captureTakes
  split
  · exact h
  · exact (htaken (u := s.updCapture _) h).finish

/-- What one turn keeps of it, any number of turns keeps. -/
protected theorem times {k : State → State} {n : Nat} (h : InLimit s.seqs)
    (hk : ∀ u, InLimit u.seqs → InLimit (k u).seqs) : InLimit (times n k s).seqs := by
  induction n generalizing s with
  | zero => exact h
  | succ n ih => exact ih (hk s h)

protected theorem drainConsumer {k : Consumer} (h : InLimit s.seqs) :
    InLimit (drainConsumer k s).seqs := by
  unfold Machine.drainConsumer
  split
  · exact h.times fun _ => InLimit.evaluatorTakes
  · exact h.times fun _ => InLimit.sequencerTakes
  · exact h.times fun _ => InLimit.captureTakes
  · exact ((h.times fun _ => InLimit.trackerTakes).times fun _ => InLimit.currentTakes).times
      fun _ => InLimit.busTakes

/-! ## Arrivals at a channel -/

protected theorem handCopy {k : Copy} {taker : Consumer} (h : InLimit s.seqs) :
    InLimit (handCopy k taker s).seqs := by
  unfold Machine.handCopy
  split
  · exact h
  · exact h.updSeq
  · exact h
  · split <;> exact h

protected theorem channelReport {code : ReportCode} {c : Fin 24} {value : Option Int} (h : InLimit s.seqs) :
    InLimit (channelReport code c value s).seqs := .ite h h

protected theorem fileOldest {c : Fin 24} (h : InLimit s.seqs) : InLimit (fileOldest c s).seqs := by
  unfold Machine.fileOldest
  dsimp only
  split
  · exact h
  · exact InLimit.forEach (.ite (InLimit.channelReport (s := s.updChan c _) h) h) fun _ _ hu => hu.handCopy

protected theorem drainAll (h : InLimit s.seqs) : InLimit (drainAll s).seqs :=
  (h.forEach fun _ _ hu => hu.times fun _ => InLimit.fileOldest).forEach fun _ _ hu => hu.drainConsumer

protected theorem stalenessExpired {c : Fin 24} (h : InLimit s.seqs) :
    InLimit (stalenessExpired c s).seqs := by
  have hstale {u : State} (hu : InLimit u.seqs) : InLimit (goStale c u).seqs :=
    InLimit.channelReport (s := u.updChan c _) hu
  exact .ite (hstale (h.forEach fun _ _ hu => hu.drainConsumer)).stateNotice.finish h

end InLimit

end Sys2Proof.Machine
end



section
set_option Elab.async false

/-! SUPPORT. The attempt counts through the intertrip line, RESTART, the requests and the frames, and through every command. -/

namespace Sys2Proof.Machine

namespace InLimit
variable {s t : State} {f : Fin 8} {d : Device}

/-! ## Messages on the intertrip line -/

protected theorem applyMessage {code : Byte} {k : Kind} (h : InLimit s.seqs) :
    InLimit (applyMessage code k f s).seqs := by
  unfold Machine.applyMessage
  split
  · exact h.intertripTrip.holdNotice
  · exact h.holdNotice
  · exact h.releaseHold

protected theorem applyAccepted (h : InLimit s.seqs) : InLimit (applyAccepted s).seqs := by
  unfold Machine.applyAccepted
  split
  · exact h
  · exact InLimit.forEach (s := s.updLine _) h fun _ _ hu => hu.applyMessage

@[simp] theorem judgeBits_seqs (bits : List Bool) (s : State) : (judgeBits bits s).seqs = s.seqs := by
  unfold judgeBits
  split <;> rfl

protected theorem judgeRecord (h : InLimit s.seqs) : InLimit (judgeRecord s).seqs :=
  .ite (h.frame (judgeBits_seqs ..)) h

protected theorem abandonMessage {b : Bool} (h : InLimit s.seqs) :
    InLimit (abandonMessage b s).seqs := by
  have hended {u : State} (hu : InLimit u.seqs) : InLimit (endMessage b u).seqs := .ite hu hu
  exact .ite (hended (.ite h h)) h

protected theorem dataFalls (h : InLimit s.seqs) : InLimit (dataFalls s).seqs := by
  unfold Machine.dataFalls
  dsimp only
  split
  · exact .ite h h
  · exact .ite h h
  · exact .ite h h.abandonMessage
  · exact h
  · exact h

protected theorem lostArbitration {clock : Fin 14} (h : InLimit s.seqs) :
    InLimit (lostArbitration clock s).seqs := by
  have hlost : InLimit (loseArbitration clock s).seqs := .ite h h
  exact .ite hlost.judgeRecord h

protected theorem receiveSample {bit : Bool} (h : InLimit s.seqs) :
    InLimit (receiveSample bit s).seqs :=
  .ite h <| .ite (InLimit.judgeRecord h) h

protected theorem senderSample {bit : Bool} (h : InLimit s.seqs) :
    InLimit (senderSample bit s).seqs := by
  refine .ite h ?_
  split
  · exact h.lostArbitration
  · exact h

protected theorem sampleLine {bit : Bool} (h : InLimit s.seqs) : InLimit (sampleLine bit s).seqs := by
  unfold Machine.sampleLine
  split
  · exact h.receiveSample
  · exact h.senderSample
  all_goals exact h

protected theorem receiveMessage {r : Reception} {b : Bool} (h : InLimit s.seqs) :
    InLimit (receiveMessage r b s).seqs := by
  have hended {u : State} (hu : InLimit u.seqs) : InLimit (endMessage b u).seqs := .ite hu hu
  unfold Machine.receiveMessage
  split
  · exact h.sampleLine
  · exact .ite (hended (InLimit.applyAccepted (.ite h (h.frame (judgeBits_seqs ..))))) h

protected theorem receiverClock (h : InLimit s.seqs) : InLimit (receiverClock s).seqs :=
  .ite (InLimit.finish (InLimit.applyAccepted h)) h

protected theorem clockFalls (h : InLimit s.seqs) : InLimit (clockFalls s).seqs := by
  unfold Machine.clockFalls
  dsimp only
  split
  · exact h
  · exact h.receiverClock
  · exact h
  · exact h
  · exact h

protected theorem lineLow {x : Wire} (h : InLimit s.seqs) : InLimit (lineLow x s).seqs := by
  unfold Machine.lineLow
  split
  · exact .ite h h.clockFalls
  · exact .ite h h.dataFalls

protected theorem idleCycle (h : InLimit s.seqs) : InLimit (idleCycle s).seqs := by
  have hends : InLimit (phaseEnds (tick s)).seqs := .ite h.advanceTo (InLimit.lineLow h.advanceTo)
  exact .ite hends h.advanceTo

protected theorem bothHigh (h : InLimit s.seqs) : InLimit (bothHigh s).seqs :=
  .ite h (.ite h.abandonMessage h)

@[simp] theorem lowExpired_seqs (b : Held) (s : State) : (lowExpired b s).seqs = s.seqs := by
  unfold lowExpired whenExpired
  split <;> split
  · rfl
  · exact advanceTo_seqs ..
  · rfl
  · exact advanceTo_seqs ..

@[simp] theorem busFreeExpired_seqs (s : State) : (busFreeExpired s).seqs = s.seqs := by
  unfold busFreeExpired
  split
  · rfl
  · split
    · exact (becomeFree_seqs _).trans (advanceTo_seqs ..)
    · rfl

@[simp] theorem startSending_seqs (s : State) : (startSending s).seqs = s.seqs := by
  unfold startSending
  split <;> rfl

@[simp] theorem settleHead_seqs (b : Bool) (s : State) : (settleHead b s).seqs = s.seqs := by
  unfold settleHead
  split
  · rfl
  · repeat' split
    all_goals rfl

protected theorem endAttempt {b : Bool} (h : InLimit s.seqs) : InLimit (endAttempt b s).seqs := by
  have hsettled : InLimit (goWaiting (settleHead b (s.updLine fun l =>
      { l with counters := { l.counters with sent := bump l.counters.sent } }))).seqs := h.frame (settleHead_seqs ..)
  exact .ite hsettled h

/-! ## RESTART (R194) -/

protected theorem restartEvaluator (h : InLimit s.seqs) : InLimit (restartEvaluator f s).seqs := by
  unfold Machine.restartEvaluator
  dsimp only
  split
  · split
    · exact h.askOpen
    · exact h.askOpen.tellTrip
  · exact .ite h h

@[simp] theorem restartLine_seqs (s : State) : (restartLine s).seqs = s.seqs := by
  unfold restartLine
  dsimp only
  split <;> rfl

@[simp] theorem abandonValidation_seqs (s : State) : (abandonValidation s).seqs = s.seqs := by
  unfold abandonValidation
  split <;> rfl

protected theorem restartAll (h : InLimit s.seqs) : InLimit (restartAll s).seqs := by
  have hswitchgear : (restartSwitchgear (restartMeasurement (restartReports s))).seqs = s.seqs :=
    restartSwitchgear_seqs (restartMeasurement (restartReports s))
  have hsequencers : InLimit (forEach feeders restartSequencer
      (restartLine (restartSwitchgear (restartMeasurement (restartReports s))))).seqs :=
    (h.frame ((restartLine_seqs _).trans hswitchgear)).forEach fun _ _ hu => hu.restartSequencer
  have hring (u : State) (hu : InLimit u.seqs) :
      InLimit (restartRing (abandonValidation (restartCapture (restartRect u)))).seqs :=
    hu.frame (abandonValidation_seqs (restartCapture (restartRect u)))
  have hidle := (hring _ hsequencers).completePending.forEach (l := feeders) (k := restartIdle)
    fun _ _ hu => hu.restartIdle
  have harmed (u : State) (hu : InLimit u.seqs) : InLimit (armAfterRestart u).seqs := hu
  exact harmed _ (hidle.forEach fun _ _ hu => hu.restartEvaluator)

end InLimit

/-- R182: after a cold reset every sequence is in IDLE_OPEN with no attempt made. -/
theorem coldReset_inLimit (addr : BitVec 6) (gw : BitVec 2) (s : State) : InLimit (coldReset addr gw s).seqs :=
  ⟨fun f => by
    rw [show (coldReset addr gw s).seqs[f] = Sequencer.initial from coldReset_seq addr gw s f]
    exact .of_idle rfl rfl⟩

/-! ## Requests -/

/-- The service of a request keeps every sequence to its limit. -/
def ServesInLimit (request : State → Reply) : Prop :=
  ∀ u, InLimit u.seqs → InLimit (request u).2.seqs

namespace ServesInLimit
variable {request : State → Reply} {src tag : Byte} {params : List Byte}

theorem of_seqs (h : ∀ u, (request u).2.seqs = u.seqs) : ServesInLimit request := fun u hu => hu.frame (h u)

/-- R189: a request that fails its checks changes nothing. -/
theorem checked {fromManager : Bool} {len : Nat} {serve_ : State → Reply} (h : ServesInLimit serve_) :
    ServesInLimit (checked fromManager len src params serve_) := by
  intro u hu
  unfold Machine.checked
  split
  · exact hu
  · split
    · exact hu
    · exact h u hu

theorem requestReadFeeder : ServesInLimit (requestReadFeeder src params) :=
  .checked (of_seqs fun u => by split <;> rfl)

theorem requestReadChannel : ServesInLimit (requestReadChannel src params) :=
  .checked (of_seqs fun u => by split <;> rfl)

theorem readGroup_seqs (option : Nat) (data : State → List Byte) {clear : State → State} {s : State}
    (h : (clear s).seqs = s.seqs) : (readGroup option data clear s).2.seqs = s.seqs := by
  unfold readGroup
  split
  · rfl
  · split
    · exact h
    · rfl

theorem groupByCode_seqs (group option selector : Nat) (s : State) :
    (groupByCode group option selector s).2.seqs = s.seqs := by
  unfold groupByCode streamsGroup
  split
  · exact readGroup_seqs _ _ rfl
  · split
    · split
      · exact readGroup_seqs _ _ rfl
      · split
        · exact readGroup_seqs _ _ rfl
        · rfl
    · rfl
  · exact readGroup_seqs _ _ rfl
  · exact readGroup_seqs _ _ rfl
  · exact readGroup_seqs _ _ rfl
  · exact readGroup_seqs _ _ rfl
  · rfl

theorem requestReadCounters : ServesInLimit (requestReadCounters src params) :=
  .checked (of_seqs (groupByCode_seqs _ _ _))

theorem requestWriteTable : ServesInLimit (requestWriteTable src params) := by
  refine of_seqs fun u => ?_
  unfold Machine.requestWriteTable serveWrite
  dsimp only
  split
  · rfl
  · repeat' split
    all_goals rfl

theorem requestReadTable : ServesInLimit (requestReadTable src params) := by
  refine .checked (of_seqs fun u => ?_)
  dsimp only
  repeat' split
  all_goals rfl

theorem requestValidate : ServesInLimit (requestValidate src tag params) := by
  refine .checked (of_seqs fun u => ?_)
  repeat' split
  all_goals rfl

theorem requestActivate : ServesInLimit (requestActivate src params) := by
  refine .checked fun u hu => ?_
  split
  · exact hu
  · split
    · exact hu
    · exact hu.drainAll.startSwitch

/-- A refused operation leaves the state as it was. -/
theorem doneOrState {before : State} {r : Bool × State} (hb : InLimit before.seqs)
    (h : InLimit r.2.seqs) : InLimit (doneOrState before r).2.seqs := by
  unfold Machine.doneOrState
  split
  · exact h
  · exact hb

theorem operateFeeder (f : Fin 8) (action : Nat) : ServesInLimit (operateFeeder f action) := by
  intro u hu
  unfold Machine.operateFeeder
  split
  · exact doneOrState hu hu.operatorOpen.finish
  · split
    · next hq => exact (hu.operatorClose hq).finish
    · exact hu
  · split
    · exact hu.resetLockout.finish
    · exact hu
  · exact hu

theorem operateRect (action : Nat) : ServesInLimit (operateRect action) := by
  intro u hu
  unfold Machine.operateRect
  split
  · exact doneOrState hu hu.closeAc
  · exact doneOrState hu hu.deblock
  · exact doneOrState hu (hu.frame (InLimit.block_seqs u))
  · exact doneOrState hu hu.stopFull
  · exact doneOrState hu hu.resetRect
  · exact hu

theorem requestOperate : ServesInLimit (requestOperate src params) := by
  refine .checked fun u hu => ?_
  split
  · exact operateFeeder _ _ u hu
  · split
    · exact operateRect _ u hu
    · exact hu

theorem requestReadReports : ServesInLimit (requestReadReports src params) := by
  refine .checked (of_seqs fun u => ?_)
  dsimp only
  split <;> rfl

theorem requestReadCapture : ServesInLimit (requestReadCapture src params) := by
  refine .checked (of_seqs fun u => ?_)
  unfold serveReadCapture
  dsimp only
  repeat' split
  all_goals rfl

theorem requestReleaseCapture : ServesInLimit (requestReleaseCapture src params) := by
  refine .checked (of_seqs fun u => ?_)
  dsimp only
  repeat' split
  all_goals rfl

theorem requestTriggerCapture : ServesInLimit (requestTriggerCapture src params) :=
  .checked (of_seqs fun u => trigger_seqs _ _ u)

theorem requestSetTime : ServesInLimit (requestSetTime src params) := by
  refine .checked (of_seqs fun u => ?_)
  dsimp only
  split <;> rfl

theorem requestRestart : ServesInLimit (requestRestart src params) := by
  refine .checked fun u hu => ?_
  split
  · exact hu.restartAll
  · exact hu

theorem requestStatus : ServesInLimit (requestStatus src params) := .checked (of_seqs fun _ => rfl)

theorem requestReadRectifier : ServesInLimit (requestReadRectifier src params) :=
  .checked (of_seqs fun _ => rfl)

theorem requestCaptureList : ServesInLimit (requestCaptureList src params) := .checked (of_seqs fun _ => rfl)

theorem requestByCode (code : Byte) : ServesInLimit (requestByCode code src tag params) := by
  intro u hu
  unfold Machine.requestByCode
  split
  · exact requestStatus u hu
  · exact requestReadFeeder u hu
  · exact requestReadRectifier u hu
  · exact requestReadChannel u hu
  · exact requestReadCounters u hu
  · exact requestWriteTable u hu
  · exact requestReadTable u hu
  · exact requestValidate u hu
  · exact requestActivate u hu
  · exact requestOperate u hu
  · exact requestReadReports u hu
  · exact requestCaptureList u hu
  · exact requestReadCapture u hu
  · exact requestReleaseCapture u hu
  · exact requestTriggerCapture u hu
  · exact requestSetTime u hu
  · exact requestRestart u hu
  · exact hu

/-- R188: an answer, a held place and an overrun are the Ring Port's. -/
theorem respond {s : State} (h : ServesInLimit request) (hs : InLimit s.seqs) :
    InLimit (respond src tag request s).seqs := by
  unfold Machine.respond placeReply
  split
  · split
    · exact h s hs
    · exact h s hs
  · exact hs

theorem takeManage {s : State} {payload : List Byte} (hs : InLimit s.seqs) :
    InLimit (takeManage src payload s).seqs := by
  have hno (p : List Byte) : ServesInLimit (requestNoTag src p) := fun u hu => by rwa [requestNoTag_state]
  unfold Machine.takeManage
  split
  · exact (requestByCode _).respond hs
  · split
    · exact (hno _).respond (s := freeTaken s) hs
    · exact (hno _).respond hs

theorem onRequest {s : State} (h : ServesInLimit request) (hs : InLimit s.seqs) :
    InLimit (onRequest src tag request s).seqs := by
  unfold Machine.onRequest
  split
  · exact hs
  · split
    · exact hs
    · exact h.respond (hs.frame (goodFrame_seqs s))

end ServesInLimit

/-! ## Frames and timers -/

namespace InLimit
variable {s t : State}

@[simp] theorem takeSample_seqs (fr : Frame) (s : State) : (takeSample fr s).seqs = s.seqs := by
  unfold takeSample
  split
  · rfl
  · split
    · rfl
    · dsimp only
      split
      · rfl
      · refine forEach_frame State.seqs _ _ (fun p u => ?_) _
        dsimp only
        split <;> rfl

protected theorem useFrame {fr : Frame} {b : Bool} (h : InLimit s.seqs) :
    InLimit (useFrame fr b s).seqs := by
  unfold Machine.useFrame
  split
  · exact h.frame (takeSample_seqs ..)
  · exact h.takePosition.finish
  · split
    · exact ServesInLimit.takeManage h
    · exact h
  · exact h

protected theorem arriveFrame {fr : Frame} (h : InLimit s.seqs) : InLimit (arriveFrame fr s).seqs := by
  have hg : InLimit (goodFrame s).seqs := h.frame (goodFrame_seqs s)
  unfold Machine.arriveFrame sortFrame
  split
  · exact h
  · split
    · exact h
    · split
      · exact InLimit.useFrame (s := (goodFrame s).updRing (joinRelay fr)) hg
      · split
        · exact hg.useFrame
        · exact hg

protected theorem arriveBytes {bytes : List Byte} (h : InLimit s.seqs) :
    InLimit (arriveBytes bytes s).seqs := by
  unfold Machine.arriveBytes
  split
  · exact h
  · split
    · exact h
    · exact h.arriveFrame

/-- A timer's expiry: stopped, or run out at its time. -/
protected theorem whenExpired {timer : Option Nat} {k : State → State} (h : InLimit s.seqs)
    (hk : ∀ u, InLimit u.seqs → InLimit (k u).seqs) :
    InLimit (whenExpired timer k s).seqs := by
  unfold Machine.whenExpired
  split
  · exact h
  · exact hk _ h.advanceTo

/-- A sequence timer's expiry finds its sequence in its state. -/
protected theorem whenSequenceTimer {f : Fin 8} {st : SeqState} {k : State → State} (h : InLimit s.seqs)
    (hk : ∀ u, InLimit u.seqs → (u.seq f).state = st → InLimit (k u).seqs) :
    InLimit (whenSequenceTimer f st k s).seqs := by
  unfold Machine.whenSequenceTimer Machine.whenExpired
  split
  · next hq =>
    split
    · exact h
    · exact (hk _ h.advanceTo (by rwa [advanceTo_seq])).finish
  · exact h

@[simp] theorem completeValidation_seqs (s : State) : (completeValidation s).seqs = s.seqs := by
  unfold completeValidation endValid
  split
  · rfl
  · split
    · rfl
    · dsimp only
      split <;> rfl

end InLimit

/-! ## Every command -/

/-- Every command keeps every sequence to its limit. -/
theorem exec_keeps_inLimit (c : Instr) (s : State) (h : InLimit s.seqs) :
    ∃ t, exec c s = .next t ∧ InLimit t.seqs := by
  have request {src tag : Byte} {r : State → Reply} (hr : ServesInLimit r) :
      InLimit (onRequest src tag r s).seqs := hr.onRequest h
  cases c with
  | coldReset addr gw => exact ⟨_, rfl, coldReset_inLimit addr gw s⟩
  | ringFrame bytes => exact ⟨_, rfl, h.arriveBytes⟩
  | sampleFrame frame => exact ⟨_, rfl, h.arriveFrame⟩
  | channelArrival c => exact ⟨_, rfl, h.fileOldest⟩
  | stalenessTimerExpiry c => exact ⟨_, rfl, h.whenExpired fun _ => InLimit.stalenessExpired⟩
  | evaluatorArrival f => exact ⟨_, rfl, h.evaluatorTakes⟩
  | sequencerArrival f => exact ⟨_, rfl, h.sequencerTakes⟩
  | trackerArrival => exact ⟨_, rfl, h.trackerTakes⟩
  | rectCurrentArrival => exact ⟨_, rfl, h.currentTakes⟩
  | rectBusArrival => exact ⟨_, rfl, h.busTakes⟩
  | captureArrival => exact ⟨_, rfl, h.captureTakes⟩
  | positionFrame frame => exact ⟨_, rfl, h.arriveFrame⟩
  | positionAgeExpiry d => exact ⟨_, rfl, h.whenExpired fun _ hu => hu.positionAged.finish⟩
  | repeatTimerExpiry d => exact ⟨_, rfl, h.whenExpired fun _ => InLimit.repeatExpired⟩
  | openTimerExpiry d => exact ⟨_, rfl, .ite (h.whenExpired fun _ hu => hu.openTimerExpired.finish) h⟩
  | closeTimerExpiry d => exact ⟨_, rfl, .ite (h.whenExpired fun _ hu => hu.closeTimerExpired.finish) h⟩
  | deadTimeExpiry f => exact ⟨_, rfl, h.whenSequenceTimer fun _ hu hq => hu.testStart (hu.left (by rw [hq]; rfl))⟩
  | settleTimerExpiry f => exact ⟨_, rfl, h.whenSequenceTimer fun _ hu hq => hu.settleExpired (hu.left (by rw [hq]; rfl))⟩
  | reclaimExpiry f => exact ⟨_, rfl, h.whenSequenceTimer fun _ hu _ => hu.reclaimExpired⟩
  | holdTimerExpiry f => exact ⟨_, rfl, h.whenExpired fun _ hu => hu.releaseHold.finish⟩
  | busWaitExpiry f => exact ⟨_, rfl, .ite (h.whenExpired fun _ hu => hu.lockout.finish) h⟩
  | stopStepTimerExpiry => exact ⟨_, rfl, .ite (h.whenExpired fun _ hu => hu.stopFailed.finish) h⟩
  | firingDue => exact ⟨_, rfl, (h.frame (InLimit.firingFallsDue_seqs s)).finish⟩
  | gatePulseEnd g => exact ⟨_, rfl, h.whenExpired fun _ hu => hu⟩
  | fillTimerExpiry slot =>
    refine ⟨_, rfl, h.whenExpired fun u hu => ?_⟩
    have hfilled : InLimit (fillExpired slot u).seqs := .ite hu hu
    exact hfilled.finish
  | validationComplete => exact ⟨_, rfl, h.frame (InLimit.completeValidation_seqs s)⟩
  | ringDownTimerExpiry => exact ⟨_, rfl, h.whenExpired fun u hu => .ite hu hu⟩
  | ringOutFrameEnd => exact ⟨_, rfl, h⟩
  | dayRollover => exact ⟨_, rfl, h.advanceTo⟩
  | intertripMessageReceived r restart => exact ⟨_, rfl, h.receiveMessage.finish⟩
  | messageAbandoned restart => exact ⟨_, rfl, h.abandonMessage⟩
  | lineLowEvent w => exact ⟨_, rfl, h.lineLow⟩
  | lowTimerExpiry held => exact ⟨_, rfl, (h.frame (InLimit.lowExpired_seqs held s)).finish⟩
  | busFreeTimerExpiry => exact ⟨_, rfl, h.frame (InLimit.busFreeExpired_seqs s)⟩
  | intertripMessageStart => exact ⟨_, rfl, h.frame (InLimit.startSending_seqs s)⟩
  | arbitrationLost clock => exact ⟨_, rfl, h.lostArbitration.finish⟩
  | sendAttemptEnd ack => exact ⟨_, rfl, h.endAttempt.finish⟩
  | status src tag params => exact ⟨_, rfl, request .requestStatus⟩
  | readFeeder src tag params => exact ⟨_, rfl, request .requestReadFeeder⟩
  | readRectifier src tag params => exact ⟨_, rfl, request .requestReadRectifier⟩
  | readChannel src tag params => exact ⟨_, rfl, request .requestReadChannel⟩
  | readCountersRing src tag o sel extra => exact ⟨_, rfl, request .requestReadCounters⟩
  | readCountersStreams src tag o sel extra => exact ⟨_, rfl, request .requestReadCounters⟩
  | readCountersIntertrip src tag o sel extra => exact ⟨_, rfl, request .requestReadCounters⟩
  | readCountersReports src tag o sel extra => exact ⟨_, rfl, request .requestReadCounters⟩
  | readCountersCapture src tag o sel extra => exact ⟨_, rfl, request .requestReadCounters⟩
  | readCountersFiring src tag o sel extra => exact ⟨_, rfl, request .requestReadCounters⟩
  | writeTable src tag params => exact ⟨_, rfl, request .requestWriteTable⟩
  | readTable src tag params => exact ⟨_, rfl, request .requestReadTable⟩
  | validate src tag params => exact ⟨_, rfl, request .requestValidate⟩
  | activate src tag params => exact ⟨_, rfl, request .requestActivate⟩
  | operateOpen src tag target extra => exact ⟨_, rfl, request .requestOperate⟩
  | operateClose src tag target extra => exact ⟨_, rfl, request .requestOperate⟩
  | resetLockout src tag target extra => exact ⟨_, rfl, request .requestOperate⟩
  | closeAc src tag target extra => exact ⟨_, rfl, request .requestOperate⟩
  | deblock src tag target extra => exact ⟨_, rfl, request .requestOperate⟩
  | block src tag target extra => exact ⟨_, rfl, request .requestOperate⟩
  | stopFull src tag target extra => exact ⟨_, rfl, request .requestOperate⟩
  | resetRect src tag target extra => exact ⟨_, rfl, request .requestOperate⟩
  | readReports src tag params => exact ⟨_, rfl, request .requestReadReports⟩
  | captureList src tag params => exact ⟨_, rfl, request .requestCaptureList⟩
  | readCapture src tag params => exact ⟨_, rfl, request .requestReadCapture⟩
  | releaseCapture src tag params => exact ⟨_, rfl, request .requestReleaseCapture⟩
  | triggerCapture src tag params => exact ⟨_, rfl, request .requestTriggerCapture⟩
  | setTime src tag params => exact ⟨_, rfl, request .requestSetTime⟩
  | restart src tag params => exact ⟨_, rfl, request .requestRestart⟩
  | unknownRequest src tag code params => exact ⟨_, rfl, request (.requestByCode _)⟩
  | bothWiresHigh => exact ⟨_, rfl, h.bothHigh⟩

end Sys2Proof.Machine

namespace Sys2Proof.Proofs
open Sys2Proof.Machine

/-- Settles O7: command by command, and the cycle that passes when none waits. -/
theorem attemptsKept : Obligations.AttemptsKept := by
  intro s t hs hst
  rw [sequencesInLimit_iff] at hs ⊢
  unfold step at hst
  split at hst
  · cases hst
    exact hs.idleCycle
  · next c rest _ =>
    obtain ⟨v, hv, hkept⟩ := exec_keeps_inLimit c { s with pending := rest } hs
    rw [hv] at hst
    cases hst
    exact hkept

end Sys2Proof.Proofs
end

section
set_option Elab.async false

/-! SUPPORT. What a Reclose Sequencer makes of a start, of the retrip step, of a wait and of a notice for its main breaker
(sections 5.3, 5.4 and 5.6): one equation per case. -/

namespace Sys2Proof.Machine
variable {s t v : State} {f : Fin 8} {old new : Position} {mark : Bool} {p : Plan}

/-! ## One sequence -/

theorem planFor_of_plan (h : (s.seq f).plan = some p) : planFor f s = p := by rw [planFor, h, Option.getD_some]

/-- Only the record as it stands matters to a change of it. -/
theorem updSeq_congr {h k : Sequencer → Sequencer} (e : h (s.seq f) = k (s.seq f)) : s.updSeq f h = s.updSeq f k := by
  unfold State.updSeq
  rw [show h s.seqs[f] = k s.seqs[f] from e]

theorem enterSeq_eq (f : Fin 8) (st : SeqState) (s : State) : enterSeq f st s = s.updSeq f (leftSeq st) := rfl

/-- R85: an idle sequence. -/
def idleSeq (st : SeqState) (limit : Nat) (q : Sequencer) : Sequencer := { leftSeq st q with attempts := 0, limit := limit }

theorem enterIdle_eq (f : Fin 8) (st : SeqState) (s : State) :
    enterIdle f st s = s.updSeq f (idleSeq st (planFor f s).limit) := updSeq_updSeq ..

theorem waitDead_held (h : (s.seq f).hold = true) (k : Nat) : waitDead f k s = s.updSeq f (leftSeq .held) := if_pos h

/-- R89: the wait for a dead time. -/
theorem waitDead_waits (h : (s.seq f).hold = false) (k : Nat) : waitDead f k s = s.updSeq f fun q =>
    { leftSeq .deadTime q with timerAt := some (deadline s (deadTime (planFor f s) k)) } := by
  rw [waitDead, h, if_neg nofun, startSeqTimer_enterSeq]
  rfl

theorem waitDead_seq_ne {g : Fin 8} (h : g ≠ f) (k : Nat) (s : State) : (waitDead f k s).seq g = s.seq g := by
  cases hh : (s.seq f).hold with
  | true => rw [waitDead_held hh, State.updSeq_seq_ne _ _ h]
  | false => rw [waitDead_waits hh, State.updSeq_seq_ne _ _ h]

theorem lockout_seq_ne {g : Fin 8} (h : g ≠ f) (cause : LockoutCause) (s : State) : (lockout f cause s).seq g = s.seq g := by
  have hset : (lockout f cause s).seqs = (s.updSeq f fun _ => (lockout f cause s).seq f).seqs := by
    rw [lockout_seq]
    exact lockout_seqs ..
  calc (lockout f cause s).seq g = (s.updSeq f fun _ => (lockout f cause s).seq f).seq g := congrArg (fun q => q[g]) hset
    _ = s.seq g := State.updSeq_seq_ne _ _ h

/-! ## Locked out or waiting (R89, R102) -/

/-- R89, R102: LOCKOUT for CHANNEL_LOSS, or with the attempts used up, and otherwise a wait. -/
def lockedOrWaiting (f : Fin 8) (lost exhausted : Prop) [Decidable lost] [Decidable exhausted] (last : LockoutCause) (k : Nat)
    (v : State) : State :=
  if lost then lockout f .channelLoss v else if exhausted then lockout f last v else waitDead f k v

/-- What either way leaves: the attempt count and the limit as they were, the noted trip taken. -/
theorem lockedOrWaiting_left {lost exhausted : Prop} [Decidable lost] [Decidable exhausted] {last : LockoutCause} {k : Nat}
    (hnoted : (v.seq f).noted = none) :
    let t := lockedOrWaiting f lost exhausted last k v
    (t.seq f).attempts = (v.seq f).attempts ∧ (t.seq f).limit = (v.seq f).limit ∧ (t.seq f).noted = none ∧
    (lost → (t.seq f).state = .lockout ∧ (t.seq f).lockCause = some .channelLoss) ∧
    (¬ lost → exhausted → (t.seq f).state = .lockout ∧ (t.seq f).lockCause = some last) ∧
    (¬ lost → ¬ exhausted → (v.seq f).hold = true → (t.seq f).state = .held) ∧
    (¬ lost → ¬ exhausted → (v.seq f).hold = false → (t.seq f).state = .deadTime ∧
      (t.seq f).timerAt = some (deadline v (deadTime (planFor f v) k))) ∧
    (∀ g, g ≠ f → t.seq g = v.seq g) ∧ t.devs = v.devs := by
  dsimp only [lockedOrWaiting]
  by_cases hl : lost
  · rw [if_pos hl, lockout_seq]
    exact ⟨rfl, rfl, rfl, fun _ => ⟨rfl, rfl⟩, (absurd hl ·), (absurd hl ·), (absurd hl ·),
      fun g hg => lockout_seq_ne hg _ _, lockout_devs ..⟩
  rw [if_neg hl]
  by_cases he : exhausted
  · rw [if_pos he, lockout_seq]
    exact ⟨rfl, rfl, rfl, (absurd · hl), fun _ _ => ⟨rfl, rfl⟩, fun _ h => absurd he h, fun _ h => absurd he h,
      fun g hg => lockout_seq_ne hg _ _, lockout_devs ..⟩
  rw [if_neg he]
  have hothers (g : Fin 8) (hg : g ≠ f) : (waitDead f k v).seq g = v.seq g := waitDead_seq_ne hg k v
  cases hh : (v.seq f).hold with
  | true =>
    rw [waitDead_held hh] at hothers ⊢
    rw [State.updSeq_seq_same]
    exact ⟨rfl, rfl, hnoted, (absurd · hl), fun _ h => absurd h he, fun _ _ _ => rfl, nofun, hothers, rfl⟩
  | false =>
    rw [waitDead_waits hh] at hothers ⊢
    rw [State.updSeq_seq_same]
    exact ⟨rfl, rfl, hnoted, (absurd · hl), fun _ h => absurd h he, nofun, fun _ _ _ => ⟨rfl, rfl⟩, hothers, rfl⟩

/-! ## The start (R88) -/

/-- R88: a sequence that takes its noted trip, with the limit of its plan. -/
def startedSeq (limit : Nat) (q : Sequencer) : Sequencer := { q with attempts := 0, limit := limit, noted := none }

/-- R88: a start in service, reported. -/
def startReported (f : Fin 8) (cause : Option Cause) (limit : Nat) (s : State) : State :=
  report .sequenceStart (.feeder f) (some (sequenceStartCause cause)) (some (limit : Int)) (s.updSeq f (startedSeq limit))

theorem startReported_seq (cause : Option Cause) (n : Nat) :
    (startReported f cause n s).seq f = startedSeq n (s.seq f) := State.updSeq_seq_same ..

theorem startReported_seq_ne {g : Fin 8} (h : g ≠ f) (cause : Option Cause) (n : Nat) :
    (startReported f cause n s).seq g = s.seq g := State.updSeq_seq_ne _ _ h

theorem sequenceStart_idle (h : inService (s.ev f) = false ∨ (s.seq f).plan = none) : sequenceStart f s =
    s.updSeq f fun q => { idleSeq .idleOpen (planFor f s).limit q with noted := none } := by
  have hplan : planFor f (s.updSeq f (startedSeq (planFor f s).limit)) = planFor f s := by
    rw [planFor, State.updSeq_seq_same]
    rfl
  calc sequenceStart f s = enterIdle f .idleOpen (s.updSeq f (startedSeq (planFor f s).limit)) :=
        if_pos (by rcases h with h | h <;> simp [h])
    _ = s.updSeq f fun q => { idleSeq .idleOpen (planFor f s).limit q with noted := none } := by
        rw [enterIdle_eq, updSeq_updSeq, hplan]
        rfl

theorem sequenceStart_runs (hin : inService (s.ev f) = true) (hplan : (s.seq f).plan = some p) : sequenceStart f s =
    lockedOrWaiting f ((s.seq f).noted = some .channelLoss) (p.limit = 0) .noAttempts 0
      (startReported f (s.seq f).noted p.limit s) := by
  unfold sequenceStart lockedOrWaiting startReported
  rw [if_neg (by simp [hin, hplan]), planFor_of_plan hplan]
  rfl

/-- R101, R102: the retrip step. -/
theorem retrip_eq (f : Fin 8) (s : State) : retrip f s =
    lockedOrWaiting f ((s.seq f).noted = some .channelLoss) ((s.seq f).limit ≤ (s.seq f).attempts) .retrip (s.seq f).attempts
      (s.updSeq f fun q => { q with noted := none }) := by
  unfold retrip lockedOrWaiting
  dsimp only
  refine if_congr Iff.rfl rfl ?_
  by_cases h : (s.seq f).limit ≤ (s.seq f).attempts
  · rw [if_neg (Nat.not_lt.2 h), if_pos h]
  · rw [if_pos (Nat.lt_of_not_le h), if_neg h]

/-! ## Notices for the main breaker (R86, R89, R101, R102) -/

/-- R86, R88: an OPEN that starts an idle sequence. -/
def startsSequence (mark : Bool) (q : Sequencer) : Prop := q.noted ≠ none ∨ (q.state = .idleClosed ∧ mark = true)

theorem seqIdle_iff {st : SeqState} : seqIdle st = true ↔ st = .idleOpen ∨ st = .idleClosed := by
  cases st <;> simp [seqIdle]

theorem mainNotice_starts (hidle : seqIdle (s.seq f).state = true) (h : startsSequence mark (s.seq f)) :
    mainNotice f old .opened mark s = sequenceStart f s := by
  rcases seqIdle_iff.1 hidle with hst | hst
  · have hn : (s.seq f).noted ≠ none := h.resolve_right fun hc => absurd (hst.symm.trans hc.1) nofun
    simp [mainNotice, hst, hn]
  · have hn : ((s.seq f).noted ≠ none ∨ mark = true) := h.imp_right And.right
    simp only [mainNotice, hst]
    rw [if_pos trivial, if_pos (by simpa using hn)]

/-- R86: a notice that starts nothing is followed. -/
theorem mainNotice_idleOpen_closed (hst : (s.seq f).state = .idleOpen) : mainNotice f old .closed mark s =
    s.updSeq f fun q => { idleSeq .idleClosed (planFor f s).limit q with noted := none } := by
  simp only [mainNotice, hst]
  rw [if_pos trivial, enterIdle_eq, updSeq_updSeq]

theorem mainNotice_idleOpen_else (hst : (s.seq f).state = .idleOpen) (hn : new ≠ .closed)
    (h : ¬ (new = .opened ∧ startsSequence mark (s.seq f))) : mainNotice f old new mark s = s := by
  have hnot : ¬ (new = .opened ∧ (s.seq f).noted ≠ none) := fun hc => h ⟨hc.1, .inl hc.2⟩
  simp only [mainNotice, hst]
  rw [if_neg hn, if_neg (by simpa using hnot)]

theorem mainNotice_idleClosed_opened (hst : (s.seq f).state = .idleClosed) (h : ¬ startsSequence mark (s.seq f)) :
    mainNotice f old .opened mark s = s.updSeq f (idleSeq .idleOpen (planFor f s).limit) := by
  have hnot : ¬ ((s.seq f).noted ≠ none ∨ mark = true) := fun hc => h (hc.imp_right fun hm => ⟨hst, hm⟩)
  simp only [mainNotice, hst]
  rw [if_pos trivial, if_neg (by simpa using hnot), enterIdle_eq]

theorem mainNotice_idleClosed_else (hst : (s.seq f).state = .idleClosed) (hn : new ≠ .opened) :
    mainNotice f old new mark s = s := by
  simp only [mainNotice, hst]
  exact if_neg hn

theorem mainNotice_retrips (hst : (s.seq f).state = .reclaim ∨ (s.seq f).state = .closing) (hn : (s.seq f).noted ≠ none) :
    mainNotice f old .opened mark s = retrip f s := by
  rcases hst with hst | hst <;> simp [mainNotice, hst, hn]

/-- R89, R90, R92: FMf reported CLOSED in a wait. -/
theorem mainNotice_abandons (hst : (s.seq f).state = .deadTime ∨ (s.seq f).state = .held ∨ (s.seq f).state = .waitBus) :
    mainNotice f old .closed mark s = reportAbandoned f 1 (s.updSeq f (idleSeq .idleClosed (planFor f s).limit)) := by
  rw [← enterIdle_eq]
  rcases hst with hst | hst | hst <;> simp [mainNotice, hst]

end Sys2Proof.Machine

namespace Sys2Proof.Proofs
open Machine

/-- R88, R89: a start with a noted trip. -/
theorem start_left {s : State} {f : Fin 8} {cause : Cause} {p : Plan} (hn : (s.seq f).noted = some cause)
    (hin : inService (s.ev f) = true) (hp : (s.seq f).plan = some p) : let t := sequenceStart f s
    (t.seq f).attempts = 0 ∧ (t.seq f).limit = p.limit ∧ (t.seq f).noted = none ∧
    (cause = .channelLoss → (t.seq f).state = .lockout ∧ (t.seq f).lockCause = some .channelLoss) ∧
    (cause ≠ .channelLoss → p.limit = 0 → (t.seq f).state = .lockout ∧ (t.seq f).lockCause = some .noAttempts) ∧
    (cause ≠ .channelLoss → p.limit ≠ 0 → (s.seq f).hold = true → (t.seq f).state = .held) ∧
    (cause ≠ .channelLoss → p.limit ≠ 0 → (s.seq f).hold = false → (t.seq f).state = .deadTime ∧
      (t.seq f).timerAt = some (s.time.now + p.dead.getD 0 (Config.deadTimeBeyond 0) * Config.unitsPerMs)) ∧
    (∀ g, g ≠ f → t.seq g = s.seq g) ∧ t.devs = s.devs := by
  have hseq := startReported_seq (s := s) (f := f) (some cause) p.limit
  have hplan : planFor f (startReported f (some cause) p.limit s) = p := planFor_of_plan (by rw [hseq]; exact hp)
  have h := lockedOrWaiting_left (f := f) (v := startReported f (some cause) p.limit s) (lost := cause = .channelLoss)
    (exhausted := p.limit = 0) (last := .noAttempts) (k := 0) (by rw [hseq]; rfl)
  have hstart : sequenceStart f s = lockedOrWaiting f (cause = .channelLoss) (p.limit = 0) .noAttempts 0
      (startReported f (some cause) p.limit s) := by
    rw [sequenceStart_runs hin hp, hn]
    simp only [lockedOrWaiting, Option.some.injEq]
  rw [hplan, hseq] at h
  obtain ⟨ha, hl, hnone, hlost, hnoAttempts, hheld, hdead, hothers, hdevs⟩ := h
  rw [hstart]
  exact ⟨ha, hl, hnone, hlost, hnoAttempts, hheld, hdead, fun g hg => (hothers g hg).trans (startReported_seq_ne hg _ _), hdevs⟩

/-- R101, R102: the retrip step. -/
theorem retrip_left {s : State} {f : Fin 8} {cause : Cause} {p : Plan} (hn : (s.seq f).noted = some cause)
    (hp : (s.seq f).plan = some p) : let t := retrip f s
    let a := (s.seq f).attempts
    (t.seq f).attempts = a ∧ (t.seq f).limit = (s.seq f).limit ∧ (t.seq f).noted = none ∧
    (cause = .channelLoss → (t.seq f).state = .lockout ∧ (t.seq f).lockCause = some .channelLoss) ∧
    (cause ≠ .channelLoss → (s.seq f).limit ≤ a → (t.seq f).state = .lockout ∧ (t.seq f).lockCause = some .retrip) ∧
    (cause ≠ .channelLoss → a < (s.seq f).limit → (s.seq f).hold = true → (t.seq f).state = .held) ∧
    (cause ≠ .channelLoss → a < (s.seq f).limit → (s.seq f).hold = false → (t.seq f).state = .deadTime ∧
      (t.seq f).timerAt = some (s.time.now + p.dead.getD a (Config.deadTimeBeyond a) * Config.unitsPerMs)) ∧
    (∀ g, g ≠ f → t.seq g = s.seq g) ∧ t.devs = s.devs := by
  have hseq : (s.updSeq f fun q => { q with noted := none }).seq f = { s.seq f with noted := none } :=
    State.updSeq_seq_same ..
  have hplan : planFor f (s.updSeq f fun q => { q with noted := none }) = p := planFor_of_plan (by rw [hseq]; exact hp)
  have h := lockedOrWaiting_left (f := f) (v := s.updSeq f fun q => { q with noted := none })
    (lost := (s.seq f).noted = some .channelLoss) (exhausted := (s.seq f).limit ≤ (s.seq f).attempts) (last := .retrip)
    (k := (s.seq f).attempts) (by rw [hseq])
  rw [← retrip_eq, hplan, hseq, hn] at h
  simp only [Option.some.injEq, Nat.not_le] at h
  obtain ⟨ha, hl, hnone, hlost, hspent, hheld, hdead, hothers, hdevs⟩ := h
  exact ⟨ha, hl, hnone, hlost, hspent, hheld, hdead, fun g hg => (hothers g hg).trans (State.updSeq_seq_ne _ _ hg), hdevs⟩

/-- R86, R88: an idle sequence with a plan, case by case. -/
theorem idle_notice {s : State} {f : Fin 8} {old new : Position} {mark : Bool} {p : Plan}
    (hidle : seqIdle (s.seq f).state = true) (hp : (s.seq f).plan = some p) :
    let t := mainNotice f old new mark s
    let starts := new = .opened ∧ startsSequence mark (s.seq f)
    let started := startReported f (s.seq f).noted p.limit s
    (starts → inService (s.ev f) = false →
      t = s.updSeq f fun _ => { idleSeq .idleOpen p.limit (s.seq f) with noted := none }) ∧
    (starts → inService (s.ev f) = true → (s.seq f).noted = some .channelLoss → t = lockout f .channelLoss started) ∧
    (starts → inService (s.ev f) = true → (s.seq f).noted ≠ some .channelLoss → p.limit = 0 →
      t = lockout f .noAttempts started) ∧
    (starts → inService (s.ev f) = true → (s.seq f).noted ≠ some .channelLoss → p.limit ≠ 0 → (s.seq f).hold = true →
      t = started.updSeq f fun _ => leftSeq .held (startedSeq p.limit (s.seq f))) ∧
    (starts → inService (s.ev f) = true → (s.seq f).noted ≠ some .channelLoss → p.limit ≠ 0 → (s.seq f).hold = false →
      t = started.updSeq f fun _ => { leftSeq .deadTime (startedSeq p.limit (s.seq f)) with
        timerAt := some (deadline s (deadTime p 0)) }) ∧
    ((s.seq f).state = .idleOpen → new = .closed →
      t = s.updSeq f fun _ => { idleSeq .idleClosed p.limit (s.seq f) with noted := none }) ∧
    ((s.seq f).state = .idleClosed → new = .opened → ¬ starts → t = s.updSeq f fun _ => idleSeq .idleOpen p.limit (s.seq f)) ∧
    ((s.seq f).state = .idleOpen → new ≠ .closed → ¬ starts → t = s) ∧
    ((s.seq f).state = .idleClosed → new ≠ .opened → t = s) := by
  have hplan : planFor f s = p := planFor_of_plan hp
  have hstart (h : new = .opened ∧ startsSequence mark (s.seq f)) : mainNotice f old new mark s = sequenceStart f s := by
    rw [h.1]
    exact mainNotice_starts hidle h.2
  have hruns (h : new = .opened ∧ startsSequence mark (s.seq f)) (hin : inService (s.ev f) = true) :=
    (hstart h).trans (sequenceStart_runs hin hp)
  have hseq := startReported_seq (s := s) (f := f) (s.seq f).noted p.limit
  refine ⟨fun h hin => ?_, fun h hin hl => ?_, fun h hin hl h0 => ?_, fun h hin hl h0 hh => ?_, fun h hin hl h0 hh => ?_,
    fun hst hn => ?_, fun hst hn h => ?_, fun hst hn h => mainNotice_idleOpen_else hst hn h,
    fun hst hn => mainNotice_idleClosed_else hst hn⟩
  · rw [hstart h, sequenceStart_idle (.inl hin), hplan]
    exact updSeq_congr rfl
  · rw [hruns h hin]
    exact if_pos hl
  · rw [hruns h hin, lockedOrWaiting, if_neg hl, if_pos h0]
  · rw [hruns h hin, lockedOrWaiting, if_neg hl, if_neg h0, waitDead_held (by rw [hseq]; exact hh)]
    exact updSeq_congr (by rw [hseq])
  · rw [hruns h hin, lockedOrWaiting, if_neg hl, if_neg h0, waitDead_waits (by rw [hseq]; exact hh),
      planFor_of_plan (p := p) (by rw [hseq]; exact hp)]
    exact updSeq_congr (by rw [hseq]; rfl)
  · subst hn
    rw [mainNotice_idleOpen_closed hst, hplan]
    exact updSeq_congr rfl
  · subst hn
    rw [mainNotice_idleClosed_opened hst fun hs => h ⟨rfl, hs⟩, hplan]
    exact updSeq_congr rfl

/-- R88: without a plan a start ends in IDLE_OPEN. -/
theorem start_without_plan {s : State} {f : Fin 8} {old : Position} {mark : Bool} (hidle : seqIdle (s.seq f).state = true)
    (hp : (s.seq f).plan = none) (h : startsSequence mark (s.seq f)) : let t := mainNotice f old .opened mark s
    (t.seq f).state = .idleOpen ∧ (t.seq f).attempts = 0 ∧ (t.seq f).noted = none ∧ t = { s with seqs := t.seqs } ∧
      ∀ g, g ≠ f → t.seq g = s.seq g := by
  intro t
  have ht : t = _ := (mainNotice_starts hidle h).trans (sequenceStart_idle (.inr hp))
  clear_value t
  subst ht
  rw [State.updSeq_seq_same]
  exact ⟨rfl, rfl, rfl, rfl, fun g hg => State.updSeq_seq_ne _ _ hg⟩

/-- Settles O45: an idle sequence with a noted trip starts, one in RECLAIM or CLOSING makes the retrip step, and each notice
in the idle states and in the waits has its own equation. -/
theorem sequenceStarts : Obligations.SequenceStarts := by
  refine ⟨?_, ?_, fun f old mark s hst => ?_, ?_, fun f old mark s hidle hp h => start_without_plan hidle hp h⟩
  · intro f old mark cause p s hidle hn hin hp
    dsimp only
    rw [mainNotice_starts hidle (.inl (by rw [hn]; nofun))]
    exact start_left hn hin hp
  · intro f old mark cause p s hst hn hp
    dsimp only
    rw [mainNotice_retrips hst (by rw [hn]; nofun)]
    exact retrip_left hn hp
  · rw [mainNotice_abandons hst]
    rfl
  · intro f old new mark p s hidle hp
    obtain ⟨hunserved, hlost, hnoAttempts, hheld, hdead, hclosed, hopened, hopen, hclose⟩ :=
      idle_notice (old := old) (new := new) (mark := mark) hidle hp
    intro q _ _ _ cause _
    have hcause : cause = sequenceStartCause (s.seq f).noted := by
      dsimp only [cause, q]
      cases (s.seq f).noted <;> rfl
    clear_value cause
    subst hcause
    exact ⟨hunserved, hlost, hnoAttempts, hheld, hdead, hclosed, hopened, hopen, hclose⟩

end Sys2Proof.Proofs
end

section
set_option Elab.async false

/-! SUPPORT. The test start, the TESTING entry check and the timers of a sequence (sections 5.4, 5.5 and 5.6): one equation
per case, and what a sequence's timer makes of the state at its time. -/

namespace Sys2Proof.Machine
variable {s t : State} {f : Fin 8} {d : Nat}

/-! ## The TESTING entry check (R93) -/

/-- R93: the line is live. -/
def lineLive (f : Fin 8) (s : State) : Bool :=
  channelValid (lineChannel f s) s && (planFor f s).uLive ≤ voltageOf (lineChannel f s) s

theorem lineLive_iff {line : Fin 24} (h : lineChannel f s = some line) : lineLive f s = true ↔
    (s.chan line).state = .valid ∧ (planFor f s).uLive ≤ (s.chan line).last.value.toNat := by
  simp [lineLive, h, channelValid, voltageOf, unsigned]

theorem testingEntry_unprotected (h : (s.ev f).state = .degraded) : testingEntry f s = lockout f .noProtection s := if_pos h

theorem testingEntry_live (hd : (s.ev f).state ≠ .degraded) (hl : lineLive f s = true) {line : Fin 24}
    (hline : lineChannel f s = some line) : testingEntry f s = let reading := (s.chan line).last.value.toNat
      closingEntry f (report .testResult (.feeder f) (some 3) (some (reading : Int)) (s.updSeq f fun q => { q with
        lastTest := some ⟨.live, none, none, some reading, s.time.day, s.time.micros, s.time.unset⟩ })) := by
  have hreading : voltageOf (lineChannel f s) s = (s.chan line).last.value.toNat := by rw [hline]; rfl
  dsimp only
  rw [← hreading]
  exact (if_neg hd).trans (if_pos hl)

theorem testingEntry_asks (hd : (s.ev f).state ≠ .degraded) (hl : lineLive f s = false) : testingEntry f s =
    if (requestClose (.ft f) .sequencer s).1 then enterSeq f .testing (requestClose (.ft f) .sequencer s).2
    else lockout f .closeRefused (requestClose (.ft f) .sequencer s).2 :=
  (if_neg hd).trans (if_neg (by rw [← lineLive, hl]; nofun))

theorem testingEntry_refused (hd : (s.ev f).state ≠ .degraded) (hl : lineLive f s = false)
    (hr : closeRefused (.ft f) s = true) : testingEntry f s = lockout f .closeRefused s := by
  rw [testingEntry_asks hd hl, requestClose_refused hr]
  exact if_neg nofun

theorem testingEntry_tests (hd : (s.ev f).state ≠ .degraded) (hl : lineLive f s = false)
    (hr : closeRefused (.ft f) s = false) :
    testingEntry f s = enterSeq f .testing (requestClose (.ft f) .sequencer s).2 := by
  rw [testingEntry_asks hd hl, if_pos (requestClose_accepted hr).1]

/-- R93: the test begins with FTf CLOSE outstanding, and nothing else of the sequence or of another device changed. -/
theorem testingEntry_begins (hd : (s.ev f).state ≠ .degraded) (hl : lineLive f s = false)
    (hr : closeRefused (.ft f) s = false) : let u := testingEntry f s
    u.seq f = leftSeq .testing (s.seq f) ∧ (u.dev (.ft f)).cmd = .toClose ∧ (∀ e, e ≠ .ft f → u.dev e = s.dev e) ∧
      u.evs = s.evs := by
  obtain ⟨_, hcmd, hothers, hframe⟩ := requestClose_accepted (d := .ft f) (q := .sequencer) hr
  dsimp only
  rw [testingEntry_tests hd hl hr, enterSeq_eq]
  refine ⟨?_, hcmd, hothers, ?_⟩
  · rw [State.updSeq_seq_same, hframe]
    rfl
  · rw [State.updSeq_evs, hframe]

/-! ## The test start (R90) -/

theorem testStart_held (h : (s.seq f).hold = true) : testStart f s = s.updSeq f (leftSeq .held) := if_pos h

theorem testStart_waits (h : (s.seq f).hold = false) (hb : busGood f s = false) : testStart f s = waitBus f .test s := by
  rw [testStart, h, hb]
  rfl

theorem testStart_tests (h : (s.seq f).hold = false) (hb : busGood f s = true) : testStart f s = testingEntry f s := by
  rw [testStart, h, hb]
  rfl

/-! ## What the move of the time base leaves -/

theorem closeRefused_congr {e : Device} (h : t.devs = s.devs) : closeRefused e t = closeRefused e s := by
  unfold closeRefused interlocked State.dev
  rw [h]

theorem planFor_advanceTo (f : Fin 8) (d : Nat) (s : State) : planFor f (advanceTo d s) = planFor f s :=
  planFor_seq (advanceTo_seq ..)

theorem busChannel_advanceTo (d : Nat) (s : State) : busChannel (advanceTo d s) = busChannel s := by
  rw [busChannel, advanceTo_rect, busChannel]

theorem lineChannel_advanceTo (f : Fin 8) (d : Nat) (s : State) : lineChannel f (advanceTo d s) = lineChannel f s := by
  rw [lineChannel, advanceTo_ev, lineChannel]

theorem channelValid_advanceTo (c : Option (Fin 24)) (d : Nat) (s : State) :
    channelValid c (advanceTo d s) = channelValid c s := by
  cases c with
  | none => rfl
  | some c => simp only [channelValid, advanceTo_chan]

/-! ## The timers of a sequence (R89, R94, R102) -/

/-- A sequence's timer acts in its state, at its time. -/
theorem whenSequenceTimer_acts {st : SeqState} {k : State → State} (hset : Settled s) (hst : (s.seq f).state = st)
    (ht : (s.seq f).timerAt = some d) (hk : Steady ∅ (advanceTo d s) (k (advanceTo d s))) :
    whenSequenceTimer f st k s = k (advanceTo d s) := by
  rw [whenSequenceTimer, if_pos hst, ht, whenExpired_some, finish_of_settled (hk.target.trans (advanceTo_settled d hset))]

/-- R91: the hold timer's end frees the sequence, at its time. -/
theorem holdTimer_acts (hset : Settled s) (ht : (s.seq f).holdAt = some d) :
    exec (.holdTimerExpiry f) s = .next (releaseHold f (advanceTo d s)) := by
  refine next_eq ?_
  rw [ht, whenExpired_some, finish_of_settled]
  exact (Steady.rfl (x := ∅)).releaseHold.target.trans (advanceTo_settled d hset)

/-- R92: the end of the bus wait locks the sequence out, at its time. -/
theorem busWait_acts (hset : Settled s) (hst : (s.seq f).state = .waitBus) (ht : (s.seq f).busWaitAt = some d) :
    exec (.busWaitExpiry f) s = .next (lockout f .busLow (advanceTo d s)) := by
  refine next_eq ?_
  rw [if_pos hst, ht, whenExpired_some, finish_of_settled]
  exact (Steady.rfl (x := ∅)).lockout.target.trans (advanceTo_settled d hset)

/-- R94: with both channels VALID the settle time's end starts the measurement. -/
theorem settleExpired_measures (hb : channelValid (busChannel s) s = true) (hl : channelValid (lineChannel f s) s = true) :
    settleExpired f s = clearSums f (enterSeq f .measuring s) := by
  rw [settleExpired, hb, hl]
  rfl

theorem settleExpired_lost (h : ¬ (channelValid (busChannel s) s = true ∧ channelValid (lineChannel f s) s = true)) :
    settleExpired f s = measurementLost f s := if_neg (by simpa using h)

end Sys2Proof.Machine

namespace Sys2Proof.Proofs
open Machine

/-- R90, R93: the test start, in the order of its checks. -/
theorem testStart_left {f : Fin 8} {bus line : Fin 24} {s : State} (hbus : busChannel s = some bus)
    (hline : lineChannel f s = some line) :
    let good := (s.chan bus).state = .valid ∧ (planFor f s).uTestMin ≤ (s.chan bus).last.value.toNat
    let live := (s.chan line).state = .valid ∧ (planFor f s).uLive ≤ (s.chan line).last.value.toNat
    let t := testStart f s
    ((s.seq f).hold = true → t = enterSeq f .held s) ∧
    ((s.seq f).hold = false → ¬ good → t = waitBus f .test s) ∧
    ((s.seq f).hold = false → good → (s.ev f).state = .degraded → t = lockout f .noProtection s) ∧
    ((s.seq f).hold = false → good → (s.ev f).state ≠ .degraded → live →
      let reading := (s.chan line).last.value.toNat
      t = closingEntry f (report .testResult (.feeder f) (some 3) (some (reading : Int)) (s.updSeq f fun q => { q with
        lastTest := some ⟨.live, none, none, some reading, s.time.day, s.time.micros, s.time.unset⟩ }))) ∧
    ((s.seq f).hold = false → good → (s.ev f).state ≠ .degraded → ¬ live → closeRefused (.ft f) s = true →
      t = lockout f .closeRefused s) ∧
    ((s.seq f).hold = false → good → (s.ev f).state ≠ .degraded → ¬ live → closeRefused (.ft f) s = false →
      (t.seq f).state = .testing ∧ (t.dev (.ft f)).cmd = .toClose ∧ (t.seq f).attempts = (s.seq f).attempts) := by
  dsimp only
  rw [← busGood_iff hbus, ← lineLive_iff hline]
  simp only [Bool.not_eq_true]
  refine ⟨testStart_held, testStart_waits, fun hh hg hd => ?_, fun hh hg hd hl => ?_, fun hh hg hd hl hr => ?_,
    fun hh hg hd hl hr => ?_⟩
  · rw [testStart_tests hh hg, testingEntry_unprotected hd]
  · rw [testStart_tests hh hg, testingEntry_live hd hl hline]
  · rw [testStart_tests hh hg, testingEntry_refused hd hl hr]
  · obtain ⟨hseq, hcmd, _⟩ := testingEntry_begins hd hl hr
    rw [testStart_tests hh hg, hseq]
    exact ⟨rfl, hcmd, rfl⟩

/-- Settles O46: the dead time's end makes the test start, whose checks see the state as the expiry found it. -/
theorem deadTimeEnds : Obligations.DeadTimeEnds := by
  intro f d bus line s hset hst ht hbus hline
  have hexec : exec (.deadTimeExpiry f) s = .next (testStart f (advanceTo d s)) :=
    next_eq (whenSequenceTimer_acts hset hst ht Steady.rfl.testStart)
  obtain ⟨hheld, hwaits, hunprotected, hlive, hrefused, htests⟩ := testStart_left (s := advanceTo d s) (f := f)
    ((busChannel_advanceTo d s).trans hbus) ((lineChannel_advanceTo f d s).trans hline)
  rw [planFor_advanceTo, advanceTo_seq, advanceTo_ev, advanceTo_chan, advanceTo_chan] at *
  rw [closeRefused_congr (advanceTo_devs d s)] at hrefused htests
  rw [waitBus, planFor_advanceTo] at hwaits
  dsimp only
  rw [hexec]
  exact ⟨fun hh => next_eq (hheld hh), fun hh hg => next_eq (hwaits hh hg), fun hh hg hd => next_eq (hunprotected hh hg hd),
    fun hh hg hd hl => next_eq (hlive hh hg hd hl), fun hh hg hd hl hr => next_eq (hrefused hh hg hd hl hr),
    fun hh hg hd hl hr => ⟨_, rfl, htests hh hg hd hl hr⟩⟩

/-- R91, R92, R94, R102: each timer of a sequence, in its state and at its time. -/
theorem sequence_timers (f : Fin 8) (d : Nat) (s : State) (hset : Settled s) : let u := advanceTo d s
    ((s.seq f).state = .testing → (s.seq f).timerAt = some d → channelValid (busChannel s) s = true →
      channelValid (lineChannel f s) s = true →
      exec (.settleTimerExpiry f) s = .next (clearSums f (enterSeq f .measuring u))) ∧
    ((s.seq f).state = .testing → (s.seq f).timerAt = some d →
      ¬ (channelValid (busChannel s) s = true ∧ channelValid (lineChannel f s) s = true) →
      exec (.settleTimerExpiry f) s = .next (measurementLost f u)) ∧
    ((s.seq f).state ≠ .held → (s.seq f).holdAt = some d → exec (.holdTimerExpiry f) s = .next (u.updSeq f freedSeq)) ∧
    ((s.seq f).state = .held → (s.seq f).holdAt = some d →
      exec (.holdTimerExpiry f) s = .next (testStart f (u.updSeq f freedSeq))) ∧
    ((s.seq f).state = .reclaim → (s.seq f).timerAt = some d → exec (.reclaimExpiry f) s = .next (reclaimExpired f u)) ∧
    ((s.seq f).state = .waitBus → (s.seq f).busWaitAt = some d →
      exec (.busWaitExpiry f) s = .next (lockout f .busLow u)) := by
  have hsettle (hst : (s.seq f).state = .testing) (ht : (s.seq f).timerAt = some d) :
      exec (.settleTimerExpiry f) s = .next (settleExpired f (advanceTo d s)) :=
    next_eq (whenSequenceTimer_acts hset hst ht Steady.rfl.settleExpired)
  have hbus : channelValid (busChannel (advanceTo d s)) (advanceTo d s) = channelValid (busChannel s) s := by
    rw [channelValid_advanceTo, busChannel_advanceTo]
  have hline : channelValid (lineChannel f (advanceTo d s)) (advanceTo d s) = channelValid (lineChannel f s) s := by
    rw [channelValid_advanceTo, lineChannel_advanceTo]
  refine ⟨fun hst ht hb hl => ?_, fun hst ht h => ?_, fun hst ht => ?_, fun hst ht => ?_, fun hst ht => ?_,
    fun hst ht => busWait_acts hset hst ht⟩
  · rw [hsettle hst ht, settleExpired_measures (hbus.trans hb) (hline.trans hl)]
  · rw [hsettle hst ht, settleExpired_lost (by rw [hbus, hline]; exact h)]
  · rw [holdTimer_acts hset ht, releaseHold_noted (by rw [advanceTo_seq]; exact hst)]
  · rw [holdTimer_acts hset ht, releaseHold_held (by rw [advanceTo_seq]; exact hst)]
  · exact next_eq (whenSequenceTimer_acts hset hst ht Steady.rfl.reclaimExpired)

/-- Settles O47: each timer acts in its state and at its time, and a lockout changes the sequence, the reports and the
transmit queue. -/
theorem sequenceTimers : Obligations.SequenceTimers := by
  refine ⟨fun f d s hset => ?_, fun f cause s => ?_⟩
  · obtain ⟨hmeasures, hlost, hfreed, hheld, hreclaim, hbusWait⟩ := sequence_timers f d s hset
    rw [reclaimExpired, advanceTo_seq] at hreclaim
    exact ⟨hmeasures, fun hst ht h => ⟨_, hlost hst ht h, testOutcome_seq⟩, hfreed, hheld, hreclaim, hbusWait⟩
  · rw [lockout_eq, lockout_seqs, lockout_reports, lockout_line]

end Sys2Proof.Proofs
end

section
set_option Elab.async false

/-! SUPPORT. What the sequencer makes of an arrival (sections 5.4 and 5.5): the readings of a measurement, its outcome, and the
end of the bus wait. -/

namespace Sys2Proof.Machine
variable {s t : State} {f : Fin 8} {k : Copy} {rest : List Copy}

/-! ## An outcome (R96) -/

theorem planFor_of_same_plan (h : (t.seq f).plan = (s.seq f).plan) : planFor f t = planFor f s := by rw [planFor, h, planFor]

/-- R49: an OPEN asked of FTf changes the devices, the Ring Port and the reports, where no CLOSE of FMf calls for the guard. -/
theorem askOpen_test_frame (hc : (s.dev (.fm f)).cmd ≠ .toClose) (q : Requester) : askOpen (.ft f) q s = { s with
    devs := (askOpen (.ft f) q s).devs, ring := (askOpen (.ft f) q s).ring, reports := (askOpen (.ft f) q s).reports } := by
  by_cases ha : (s.dev (.ft f)).addr = none
  · rw [show askOpen (.ft f) q s = s from congrArg Prod.snd (if_pos ha)]
  · rw [askOpen_taken_frame q ha fun i hi => by cases hi; exact hc]

/-- R49: FTf without a command takes the sequencer's OPEN, with no report. -/
theorem askOpen_test_idle (hm : (s.dev (.fm f)).cmd ≠ .toClose) (ha : (s.dev (.ft f)).addr ≠ none)
    (hc : (s.dev (.ft f)).cmd = .none) (q : Requester) : ((askOpen (.ft f) q s).dev (.ft f)).requester = some q ∧
      (askOpen (.ft f) q s).reports = s.reports := by
  have hguard (i : Fin 8) (hi : Device.ft f = .ft i) : (s.dev (.fm i)).cmd ≠ .toClose := by
    cases hi
    exact hm
  rw [askOpen_taken q ha hguard, if_neg (by rw [hc]; nofun), withdrawn, if_neg (by rw [hc]; nofun), takeCommand_reports,
    takeCommand_same (.ft f) .toOpen _ _ ha nofun]
  exact ⟨rfl, rfl⟩

theorem testResult_seq (f : Fin 8) (o : TestOutcome) (r uB uL : Option Nat) (value : Option Int) (s : State) :
    (testResult f o r uB uL value s).seq f =
      { s.seq f with lastTest := some ⟨o, r, uB, uL, s.time.day, s.time.micros, s.time.unset⟩ } :=
  State.updSeq_seq_same s f fun q =>
    { q with lastTest := some ⟨o, r, uB, uL, s.time.day, s.time.micros, s.time.unset⟩ }

theorem testResult_seq_ne {g : Fin 8} (h : g ≠ f) (o : TestOutcome) (r uB uL : Option Nat) (value : Option Int) (s : State) :
    (testResult f o r uB uL value s).seq g = s.seq g :=
  State.updSeq_seq_ne s (fun q => { q with lastTest := some ⟨o, r, uB, uL, s.time.day, s.time.micros, s.time.unset⟩ }) h

/-- R96: what every outcome of a test leaves. -/
structure TestEnded (f : Fin 8) (q : Sequencer) (o : TestOutcome) (r uB uL : Option Nat) (value : Option Int)
    (s t : State) : Prop where
  state : (t.seq f).state = .testClear
  purpose : (t.seq f).purpose = some (.outcome o)
  attempts : (t.seq f).attempts = q.attempts
  inbox : (t.seq f).inbox = q.inbox
  lastTest : (t.seq f).lastTest = some ⟨o, r, uB, uL, s.time.day, s.time.micros, s.time.unset⟩
  opens : (s.dev (.ft f)).addr ≠ none → (t.dev (.ft f)).cmd = .toOpen
  asked : (s.dev (.ft f)).addr ≠ none → (s.dev (.ft f)).cmd = .none → (t.dev (.ft f)).requester = some .sequencer ∧
    t.reports = (report .testResult (.feeder f) (some (outcomeCode o)) value s).reports
  others : ∀ g, g ≠ f → t.seq g = s.seq g
  evs : t.evs = s.evs

theorem testOutcome_eq (f : Fin 8) (o : TestOutcome) (r uB uL : Option Nat) (value : Option Int) (s : State) :
    testOutcome f o r uB uL value s = (askOpen (.ft f) .sequencer (testResult f o r uB uL value s)).updSeq f fun q =>
      { leftSeq .testClear q with purpose := some (.outcome o) } := updSeq_updSeq ..

theorem testOutcome_ended (hm : (s.dev (.fm f)).cmd ≠ .toClose) (q : Sequencer) (o : TestOutcome) (r uB uL : Option Nat)
    (value : Option Int) : TestEnded f q o r uB uL value s (testOutcome f o r uB uL value (s.updSeq f fun _ => q)) := by
  have hseq := testResult_seq f o r uB uL value (s.updSeq f fun _ => q)
  rw [State.updSeq_seq_same] at hseq
  have hothers (g : Fin 8) (hg : g ≠ f) : (testResult f o r uB uL value (s.updSeq f fun _ => q)).seq g = s.seq g :=
    (testResult_seq_ne hg ..).trans (State.updSeq_seq_ne _ _ hg)
  have hreports : (testResult f o r uB uL value (s.updSeq f fun _ => q)).reports =
      (report .testResult (.feeder f) (some (outcomeCode o)) value s).reports := rfl
  have hdev (d : Device) : (testResult f o r uB uL value (s.updSeq f fun _ => q)).dev d = s.dev d := rfl
  have hevs : (testResult f o r uB uL value (s.updSeq f fun _ => q)).evs = s.evs := rfl
  rw [testOutcome_eq]
  generalize testResult f o r uB uL value (s.updSeq f fun _ => q) = w at hseq hothers hreports hdev hevs
  rw [← hdev] at hm
  have hasked : (askOpen (.ft f) .sequencer w).seqs = w.seqs := by rw [askOpen_test_frame hm]
  have hkept (g : Fin 8) : (askOpen (.ft f) .sequencer w).seq g = w.seq g := congrArg (fun v => v[g]) hasked
  have hout : ((askOpen (.ft f) .sequencer w).updSeq f fun q =>
      { leftSeq .testClear q with purpose := some (.outcome o) }).seq f =
      { leftSeq .testClear (w.seq f) with purpose := some (.outcome o) } := by
    rw [State.updSeq_seq_same, hkept]
  rw [hseq] at hout
  refine ⟨by rw [hout]; rfl, by rw [hout], by rw [hout]; rfl, by rw [hout]; rfl, by rw [hout]; rfl, fun ha => ?_,
    fun ha hc => ?_, fun g hg => ?_, (askOpen_evs ..).trans hevs⟩
  · rw [← hdev] at ha
    exact askOpen_cmd ha _
  · rw [← hdev] at ha hc
    rw [← hreports]
    exact askOpen_test_idle hm ha hc _
  · rw [State.updSeq_seq_ne _ _ hg, hkept, hothers g hg]

/-- R96: the outcome when both counts have reached 64. -/
theorem workOut_ended (hm : (s.dev (.fm f)).cmd ≠ .toClose) {q : Sequencer} (hplan : q.plan = (s.seq f).plan) :
    let p := planFor f s
    let uB := q.busSum / 64
    let uL := q.lineSum / 64
    let r := min (p.rTest * uL % 4294967296 / (uB - uL)) 65535
    let t := workOut f (s.updSeq f fun _ => q)
    (uB < p.uTestMin → TestEnded f q .busLow none (some uB) (some uL) (some uB) s t) ∧
    (p.uTestMin ≤ uB → uB ≤ uL → TestEnded f q .live none (some uB) (some uL) (some uL) s t) ∧
    (p.uTestMin ≤ uB → uL < uB →
      TestEnded f q (if p.rMin ≤ r then .healthy else .faulted) (some r) (some uB) (some uL) (some r) s t) := by
  have hp : planFor f (s.updSeq f fun _ => q) = planFor f s :=
    planFor_of_same_plan (by rw [State.updSeq_seq_same]; exact hplan)
  intro p uB uL r t
  have ht : t = if uB < p.uTestMin then testOutcome f .busLow none (some uB) (some uL) (some uB) (s.updSeq f fun _ => q)
      else if uB ≤ uL then testOutcome f .live none (some uB) (some uL) (some uL) (s.updSeq f fun _ => q)
      else testOutcome f (if p.rMin ≤ r then .healthy else .faulted) (some r) (some uB) (some uL) (some r)
        (s.updSeq f fun _ => q) := by
    simp only [t, workOut, hp, State.updSeq_seq_same]
    rfl
  clear_value t
  subst ht
  refine ⟨fun hlow => ?_, fun hmin hle => ?_, fun hmin hlt => ?_⟩
  · rw [if_pos hlow]
    exact testOutcome_ended hm ..
  · rw [if_neg (Nat.not_lt.2 hmin), if_pos hle]
    exact testOutcome_ended hm ..
  · rw [if_neg (Nat.not_lt.2 hmin), if_neg (Nat.not_le.2 hlt)]
    exact testOutcome_ended hm ..

/-! ## An arrival (R92, R95) -/

/-- The sequencer takes the oldest copy waiting for it. -/
theorem sequencerArrival_takes (hset : Settled s) (hin : (s.seq f).inbox = k :: rest) : exec (.sequencerArrival f) s =
    .next (takeSequencerCopy f k (s.updSeq f fun q => { q with inbox := rest })) := by
  refine next_eq ?_
  unfold sequencerTakes
  rw [hin]
  exact finish_of_settled ((Steady.rfl (x := ∅)).updSeq.takeSequencerCopy.target.trans hset)

/-- R95: a reading, for each of the sums that the arrival has one for. -/
theorem addReading_eq (isBus isLine : Bool) (i : Instant) (q : Sequencer) : addReading isBus isLine i q = { q with
    busSum := if isBus && usable i && q.busCount < 64 then q.busSum + unsigned i else q.busSum
    busCount := if isBus && usable i && q.busCount < 64 then q.busCount + 1 else q.busCount
    lineSum := if isLine && usable i && q.lineCount < 64 then q.lineSum + unsigned i else q.lineSum
    lineCount := if isLine && usable i && q.lineCount < 64 then q.lineCount + 1 else q.lineCount } := by
  unfold addReading
  dsimp only
  split <;> split <;> rfl

theorem takeSequencerCopy_elsewhere (hst : (s.seq f).state = .measuring) (hb : busChannel s ≠ some k.chan)
    (hl : lineChannel f s ≠ some k.chan) : takeSequencerCopy f k s = s := by
  simp only [takeSequencerCopy, hst]
  exact if_neg (by simp [hb, hl])

theorem takeSequencerCopy_lost (hst : (s.seq f).state = .measuring)
    (h : busChannel s = some k.chan ∨ lineChannel f s = some k.chan) (hk : k.after ≠ .valid) :
    takeSequencerCopy f k s = measurementLost f s := by
  simp only [takeSequencerCopy, hst]
  rw [if_pos (by simpa using h), if_pos hk]

theorem takeSequencerCopy_adds (hst : (s.seq f).state = .measuring)
    (h : busChannel s = some k.chan ∨ lineChannel f s = some k.chan) (hk : k.after = .valid) {q : Sequencer}
    (hq : addReading (busChannel s = some k.chan) (lineChannel f s = some k.chan) k.own (s.seq f) = q) :
    takeSequencerCopy f k s =
      if q.busCount = 64 ∧ q.lineCount = 64 then workOut f (s.updSeq f fun _ => q) else s.updSeq f fun _ => q := by
  have hadded : s.updSeq f (addReading (busChannel s = some k.chan) (lineChannel f s = some k.chan) k.own) =
      s.updSeq f fun _ => q := updSeq_congr hq
  simp only [takeSequencerCopy, hst]
  rw [if_pos (by simpa using h), if_neg (by simp [hk]), hadded, State.updSeq_seq_same]
  exact if_congr (by simp) rfl rfl

/-- R92: the arrival ends the wait for the bus. -/
def endsBusWait (f : Fin 8) (k : Copy) (s : State) : Prop :=
  busChannel s = some k.chan ∧ k.after = .valid ∧ usable k.own = true ∧ (planFor f s).uTestMin ≤ k.own.value.toNat

theorem takeSequencerCopy_nothing (hst : (s.seq f).state ≠ .measuring) (h : (s.seq f).state ≠ .waitBus ∨ ¬ endsBusWait f k s) :
    takeSequencerCopy f k s = s := by
  unfold takeSequencerCopy
  dsimp only
  split
  · next hw =>
    refine if_neg fun hc => h.elim (absurd hw) fun hn => hn ?_
    simp only [Bool.and_eq_true, decide_eq_true_eq] at hc
    obtain ⟨⟨⟨hb, hk⟩, hu⟩, hmin⟩ := hc
    exact ⟨hb, hk, hu, hmin⟩
  · next hm => exact absurd hm hst
  · rfl

theorem takeSequencerCopy_resumes (hst : (s.seq f).state = .waitBus) (h : endsBusWait f k s) : takeSequencerCopy f k s =
    if (s.seq f).waitStep = some .close then closingEntry f s else testingEntry f s := by
  obtain ⟨hb, hk, hu, hmin⟩ := h
  simp only [takeSequencerCopy, hst]
  rw [if_pos (by simp [hb, hk, hu, unsigned, hmin])]
  split
  · next hw => rw [if_pos hw]
  · next hw => rw [if_neg hw]

end Sys2Proof.Machine

namespace Sys2Proof.Proofs
open Machine

/-- R95, R96: an arrival in MEASURING. -/
theorem measuring_arrival {f : Fin 8} {k : Copy} {rest : List Copy} {s : State} (hset : Settled s)
    (hin : (s.seq f).inbox = k :: rest) (hst : (s.seq f).state = .measuring) {q : Sequencer}
    (hq : addReading (busChannel s = some k.chan) (lineChannel f s = some k.chan) k.own { s.seq f with inbox := rest } = q) :
    let took := s.updSeq f fun _ => { s.seq f with inbox := rest }
    let bus := busChannel s = some k.chan
    let line := lineChannel f s = some k.chan
    (¬ bus → ¬ line → exec (.sequencerArrival f) s = .next took) ∧
    ((bus ∨ line) → k.after ≠ .valid → exec (.sequencerArrival f) s = .next (measurementLost f took)) ∧
    ((bus ∨ line) → k.after = .valid → ¬ (q.busCount = 64 ∧ q.lineCount = 64) →
      exec (.sequencerArrival f) s = .next (s.updSeq f fun _ => q)) ∧
    ((bus ∨ line) → k.after = .valid → q.busCount = 64 → q.lineCount = 64 →
      exec (.sequencerArrival f) s = .next (workOut f (s.updSeq f fun _ => q))) := by
  intro took bus line
  have htook : (s.updSeq f fun q => { q with inbox := rest }) = took := updSeq_congr rfl
  have hseq : took.seq f = { s.seq f with inbox := rest } := State.updSeq_seq_same ..
  have hstate : (took.seq f).state = .measuring := by
    rw [hseq]
    exact hst
  have hover : (took.updSeq f fun _ => q) = s.updSeq f fun _ => q := updSeq_updSeq ..
  rw [sequencerArrival_takes hset hin, htook]
  have hadds (h : bus ∨ line) (hk : k.after = .valid) : takeSequencerCopy f k took =
      if q.busCount = 64 ∧ q.lineCount = 64 then workOut f (s.updSeq f fun _ => q) else s.updSeq f fun _ => q := by
    rw [takeSequencerCopy_adds (q := q) hstate h hk (by rw [hseq]; exact hq), hover]
  refine ⟨fun hb hl => next_eq (takeSequencerCopy_elsewhere hstate hb hl),
    fun h hk => next_eq (takeSequencerCopy_lost hstate h hk), fun h hk hn => next_eq ?_, fun h hk hB hL => next_eq ?_⟩
  · rw [hadds h hk, if_neg hn]
  · rw [hadds h hk, if_pos ⟨hB, hL⟩]

/-- R92: an arrival outside MEASURING. -/
theorem waiting_arrival {f : Fin 8} {k : Copy} {rest : List Copy} {s : State} (hset : Settled s)
    (hin : (s.seq f).inbox = k :: rest) (hst : (s.seq f).state ≠ .measuring) :
    let took := s.updSeq f fun q => { q with inbox := rest }
    (((s.seq f).state ≠ .waitBus ∨ ¬ endsBusWait f k s) → exec (.sequencerArrival f) s = .next took) ∧
    ((s.seq f).state = .waitBus → endsBusWait f k s → (s.seq f).waitStep = some .test →
      exec (.sequencerArrival f) s = .next (testingEntry f took)) ∧
    ((s.seq f).state = .waitBus → endsBusWait f k s → (s.seq f).waitStep = some .close →
      exec (.sequencerArrival f) s = .next (closingEntry f took)) := by
  intro took
  have hseq : took.seq f = { s.seq f with inbox := rest } := State.updSeq_seq_same ..
  have hends : endsBusWait f k took ↔ endsBusWait f k s := by
    unfold endsBusWait
    rw [planFor_of_same_plan (s := s) (by rw [hseq])]
    rfl
  rw [sequencerArrival_takes hset hin]
  refine ⟨fun h => next_eq (takeSequencerCopy_nothing ?_ ?_), fun hw h hs => next_eq ?_, fun hw h hs => next_eq ?_⟩
  · rw [hseq]
    exact hst
  · rw [hseq]
    exact h.imp_right (mt hends.1)
  · rw [takeSequencerCopy_resumes (by rw [hseq]; exact hw) (hends.2 h), hseq, if_neg (by rw [hs]; nofun)]
  · rw [takeSequencerCopy_resumes (by rw [hseq]; exact hw) (hends.2 h), hseq, if_pos hs]

/-- Settles O48: an arrival in MEASURING reads, loses or ends the measurement; one in WAIT_BUS ends the wait or does nothing;
and the TESTING entry check has four exits. -/
theorem measurementWorkedOut : Obligations.MeasurementWorkedOut := by
  refine ⟨?measuring, fun f k rest s hset hin hst => waiting_arrival hset hin hst, ?entry⟩
  case measuring =>
    intro f k rest s hset hin hst q bus line adds v q' p ended
    have hended {o : TestOutcome} {r uB uL : Option Nat} {value : Option Int} {t : State} {x : Sequencer}
        (ha : x.attempts = q.attempts) (hi : x.inbox = rest) (h : TestEnded f x o r uB uL value s t) :
        ended t o r uB uL value :=
      ⟨h.state, h.purpose, h.attempts.trans ha, h.inbox.trans hi, h.lastTest, h.opens, h.asked, h.others, h.evs⟩
    obtain ⟨helse, hlost, hadds, hworks⟩ := measuring_arrival (q := q') hset hin hst (addReading_eq ..)
    refine ⟨helse, fun h hk hm => ⟨_, hlost h hk, hended rfl rfl (testOutcome_ended hm ..)⟩, hadds, fun h hk hB hL hm => ?_⟩
    obtain ⟨hlow, hlive, hmeasured⟩ := workOut_ended (q := q') hm rfl
    exact ⟨_, hworks h hk hB hL, fun h => hended (x := q') rfl rfl (hlow h), fun h1 h2 => hended (x := q') rfl rfl (hlive h1 h2),
      fun h1 h2 => hended (x := q') rfl rfl (hmeasured h1 h2)⟩
  case entry =>
    intro f line s hline u reading live
    have hlive : ¬ live → lineLive f s = false := fun h => by simpa using mt (lineLive_iff hline).1 h
    exact ⟨testingEntry_unprotected, fun hd hl => testingEntry_live hd ((lineLive_iff hline).2 hl) hline,
      fun hd hl hr => testingEntry_refused hd (hlive hl) hr, fun hd hl hr => testingEntry_begins hd (hlive hl) hr⟩

end Sys2Proof.Proofs
end

section
set_option Elab.async false

/-! SUPPORT. The operator's requests on a feeder (R104, R105, R106): how each is served, and what a taken one leaves. -/

namespace Sys2Proof.Machine
variable {s t : State} {f : Fin 8} {src : Byte}

/-! ## OPERATE on a feeder -/

/-- R190: targets 1 to 8 are the feeders. -/
theorem feederOfTarget_byteOf (f : Fin 8) : feederOfTarget (u8 [byteOf (f.val + 1)] 0) = some f := by
  rw [u8_byteOf (by omega)]
  unfold feederOfTarget
  rw [dif_pos (by omega)]
  rfl

/-- R189: an OPERATE request of the manager for a feeder is worked on the state after its frame. -/
theorem operateFeeder_answered (h : Manages src s) (tag : Byte) (f : Fin 8) (action : Byte) :
    onRequest src tag (requestOperate src [byteOf (f.val + 1), action]) s =
      placeReply src tag (operateFeeder f action.toNat (goodFrame s)) := by
  obtain ⟨hreach, hmgmt⟩ := h
  have htarget : feederOfTarget (u8 [byteOf (f.val + 1), action] 0) = some f := feederOfTarget_byteOf f
  rw [onRequest_of_reaches hreach, requestOperate,
    checked_passes true 2 src _ _ _ (fun _ => by rw [goodFrame_mgmt]; exact hmgmt) rfl, htarget]
  rfl

theorem goodFrame_settled (h : Settled s) : Settled (goodFrame s) := by
  unfold Settled
  rw [goodFrame_banks]
  exact h

theorem goodFrame_seq (f : Fin 8) (s : State) : (goodFrame s).seq f = s.seq f := by rw [State.seq, goodFrame_seqs, State.seq]

theorem goodFrame_dev (d : Device) (s : State) : (goodFrame s).dev d = s.dev d := by rw [State.dev, goodFrame_devs, State.dev]

theorem goodFrame_ev (f : Fin 8) (s : State) : (goodFrame s).ev f = s.ev f := by rw [State.ev, goodFrame_evs, State.ev]

/-! ## OPERATE OPEN (R104) -/

theorem operatorOpen_unassigned (h : (s.dev (.fm f)).addr = none) : operatorOpen f s = (false, s) := by
  have hr : requestOpen (.fm f) .operator s = (false, s) := if_pos h
  rw [operatorOpen, hr]
  rfl

/-- R104: FMf is asked to open, and FTf with it, unless FTf is at rest in OPEN. -/
def operatorAsks (f : Fin 8) (s : State) : State :=
  let asked := askOpen (.fm f) .operator s
  if (asked.dev (.ft f)).pos ≠ .opened || (asked.dev (.ft f)).cmd ≠ .none then askOpen (.ft f) .operator asked else asked

/-- R104: the sequence that the operator ends. -/
def operatorIdle (limit : Nat) (q : Sequencer) : Sequencer :=
  { idleSeq .idleOpen limit { q with busSum := 0, busCount := 0, lineSum := 0, lineCount := 0 } with noted := none }

/-- R104: an OPEN that FMf takes ends the sequence in IDLE_OPEN, with a report unless it was idle. -/
theorem operatorOpen_eq (ha : (s.dev (.fm f)).addr ≠ none) (hst : ((operatorAsks f s).seq f).state ≠ .lockout) :
    operatorOpen f s = (true,
      let ended := (operatorAsks f s).updSeq f (operatorIdle (planFor f (operatorAsks f s)).limit)
      if seqIdle ((operatorAsks f s).seq f).state then ended else reportAbandoned f 2 ended) := by
  have htaken : (requestOpen (.fm f) .operator s).1 = true := requestOpen_taken ha _
  have hended (u : State) : ((enterIdle f .idleOpen (clearSums f u)).updSeq f fun q => { q with noted := none }) =
      u.updSeq f (operatorIdle (planFor f u).limit) := by
    rw [enterIdle_eq, planFor_of_same_plan (s := u) (by rw [clearSums, State.updSeq_seq_same]), clearSums, updSeq_updSeq,
      updSeq_updSeq]
    rfl
  rw [← hended]
  unfold operatorOpen
  dsimp only
  rw [htaken, if_neg nofun]
  exact if_neg hst

theorem operatorOpen_taken (ha : (s.dev (.fm f)).addr ≠ none) : (operatorOpen f s).1 = true := by
  have htaken : (requestOpen (.fm f) .operator s).1 = true := requestOpen_taken ha _
  unfold operatorOpen
  dsimp only
  rw [htaken, if_neg nofun]
  exact (apply_ite Prod.fst ..).trans (ite_self _)

theorem operatorOpen_left (ha : (s.dev (.fm f)).addr ≠ none) (hst : ((operatorAsks f s).seq f).state ≠ .lockout) :
    let t := (operatorOpen f s).2
    t.devs = (operatorAsks f s).devs ∧ (∃ limit, t.seq f = operatorIdle limit ((operatorAsks f s).seq f)) ∧
      t.line = (operatorAsks f s).line ∧ t.rect = (operatorAsks f s).rect := by
  rw [operatorOpen_eq ha hst]
  generalize operatorAsks f s = u
  have hseq : (u.updSeq f (operatorIdle (planFor f u).limit)).seq f = operatorIdle (planFor f u).limit (u.seq f) :=
    State.updSeq_seq_same ..
  dsimp only
  split
  · exact ⟨rfl, ⟨_, hseq⟩, rfl, rfl⟩
  · exact ⟨rfl, ⟨_, hseq⟩, rfl, rfl⟩

/-- R49, R104: with FMf's OPEN outstanding, FTf's calls for no guard. -/
theorem operatorAsks_left (ha : (s.dev (.fm f)).addr ≠ none) (hc : (s.dev (.fm f)).cmd ≠ .toOpen) :
    ((operatorAsks f s).dev (.fm f)).cmd = .toOpen ∧ ((operatorAsks f s).dev (.fm f)).requester = some .operator ∧
    (operatorAsks f s).seqs = s.seqs ∧ (operatorAsks f s).line = s.line ∧ (operatorAsks f s).rect = s.rect := by
  have hframe := askOpen_main_eq f .operator s
  have hdev : (askOpen (.fm f) .operator s).dev (.fm f) = commandedRecord (.fm f) .toOpen (some .operator) s (s.dev (.fm f)) :=
    requestOpen_dev ha hc .operator
  have hseqs : (askOpen (.fm f) .operator s).seqs = s.seqs := by rw [hframe]
  have hline : (askOpen (.fm f) .operator s).line = s.line := by rw [hframe]
  have hrect : (askOpen (.fm f) .operator s).rect = s.rect := askOpen_rect ..
  unfold operatorAsks
  generalize askOpen (.fm f) .operator s = u at hdev hseqs hline hrect
  have hu : (u.dev (.fm f)).cmd ≠ .toClose := by
    rw [hdev]
    nofun
  dsimp only
  split
  · rw [askOpen_test_main hu, hdev, askOpen_test_frame hu]
    exact ⟨rfl, rfl, hseqs, hline, hrect⟩
  · rw [hdev]
    exact ⟨rfl, rfl, hseqs, hline, hrect⟩

/-! ## OPERATE CLOSE and RESET_LOCKOUT (R105, R106) -/

theorem operatorCloseTaken_iff : operatorCloseTaken f s = true ↔
    (s.seq f).state = .idleOpen ∧ (s.seq f).hold = false ∧ inService (s.ev f) = true := by
  simp [operatorCloseTaken, and_assoc]

theorem resetLockoutTaken_iff : resetLockoutTaken f s = true ↔
    (s.seq f).state = .lockout ∧ (s.dev (.fm f)).pos = .opened := by
  simp [resetLockoutTaken]

/-- R60, R106: the failure flags of a feeder's two devices, cleared at rest. -/
def feederFlagsCleared (f : Fin 8) (s : State) : State := clearFlagAtRest (.ft f) (clearFlagAtRest (.fm f) s)

theorem feederFlagsCleared_frame (f : Fin 8) (s : State) : feederFlagsCleared f s = { s with devs := (feederFlagsCleared f s).devs } := by
  rw [feederFlagsCleared, clearFlagAtRest_frame (.ft f), clearFlagAtRest_frame (.fm f)]

theorem feederFlagsCleared_flag (f : Fin 8) (d : Device) (s : State) : ((feederFlagsCleared f s).dev d).flag =
    if (d = .fm f ∨ d = .ft f) ∧ (s.dev d).pos = .opened ∧ (s.dev d).cmd = .none then .none else (s.dev d).flag := by
  rw [feederFlagsCleared, clearFlagAtRest_dev, clearFlagAtRest_dev]
  by_cases hm : d = .fm f <;> by_cases ht : d = .ft f <;> simp [hm, ht]

/-- R106: a reset of the lockout, in one state. -/
theorem resetLockout_eq (f : Fin 8) (s : State) : resetLockout f s = enqueue f .release
    (report .lockoutReset (.feeder f) none none ((feederFlagsCleared f s).updSeq f fun q =>
      { idleSeq .idleOpen (planFor f s).limit q with lockCause := none })) := by
  have hplan : planFor f (feederFlagsCleared f s) = planFor f s := planFor_seq (by rw [feederFlagsCleared_frame]; rfl)
  unfold resetLockout
  dsimp only
  rw [← feederFlagsCleared, enterIdle_eq, updSeq_updSeq, hplan]

/-- R106: what a reset of the lockout leaves. -/
theorem resetLockout_left (f : Fin 8) (s : State) : let t := resetLockout f s
    t.seq f = { idleSeq .idleOpen (planFor f s).limit (s.seq f) with lockCause := none } ∧
    t.devs = (feederFlagsCleared f s).devs ∧ t.line = (enqueue f .release s).line ∧ t.rect = s.rect := by
  have hframe := feederFlagsCleared_frame f s
  dsimp only
  rw [resetLockout_eq]
  generalize feederFlagsCleared f s = u at hframe
  have hseq : u.seq f = s.seq f := by rw [hframe]; rfl
  refine ⟨?_, enqueue_devs .., enqueue_line (by rw [hframe]; rfl), ?_⟩
  · rw [State.seq, enqueue_seqs, ← hseq]
    exact State.updSeq_seq_same u f fun q => { idleSeq .idleOpen (planFor f s).limit q with lockCause := none }
  · rw [enqueue_rect, hframe]
    rfl

end Sys2Proof.Machine

namespace Sys2Proof.Proofs
open Machine

section
variable {src : Byte} {f : Fin 8} {s : State} (h : Manages src s) (hset : Settled s) (tag : Byte)
include h hset

theorem operateOpen_answered : exec (.operateOpen src tag (byteOf (f.val + 1)) []) s =
    .next (placeReply src tag (doneOrState (goodFrame s) (operatorOpen f (goodFrame s)))) := by
  have hfinish : finish (operatorOpen f (goodFrame s)).2 = (operatorOpen f (goodFrame s)).2 :=
    finish_of_settled ((Steady.rfl (x := ∅)).operatorOpen.target.trans (goodFrame_settled hset))
  have hserve : operateFeeder f 1 (goodFrame s) = doneOrState (goodFrame s) (operatorOpen f (goodFrame s)) := by
    rw [operateFeeder, hfinish]
  exact next_eq ((operateFeeder_answered h tag f 1).trans (congrArg _ hserve))

theorem operateClose_answered : exec (.operateClose src tag (byteOf (f.val + 1)) []) s =
    .next (if operatorCloseTaken f (goodFrame s) then answered src tag .done .none [] (operatorClose f (goodFrame s))
      else answered src tag .refused .state [] (goodFrame s)) := by
  have hfinish : finish (operatorClose f (goodFrame s)) = operatorClose f (goodFrame s) :=
    finish_of_settled ((Steady.rfl (x := ∅)).operatorClose.target.trans (goodFrame_settled hset))
  refine next_eq ((operateFeeder_answered h tag f 2).trans ?_)
  refine (apply_ite (placeReply src tag) ..).trans ?_
  rw [hfinish, placeReply_done, placeReply_refuse]

theorem resetLockout_answered : exec (.resetLockout src tag (byteOf (f.val + 1)) []) s =
    .next (if resetLockoutTaken f (goodFrame s) then answered src tag .done .none [] (resetLockout f (goodFrame s))
      else answered src tag .refused .state [] (goodFrame s)) := by
  have hfinish : finish (resetLockout f (goodFrame s)) = resetLockout f (goodFrame s) :=
    finish_of_settled ((Steady.rfl (x := ∅)).resetLockout.target.trans (goodFrame_settled hset))
  refine next_eq ((operateFeeder_answered h tag f 3).trans ?_)
  refine (apply_ite (placeReply src tag) ..).trans ?_
  rw [hfinish, placeReply_done, placeReply_refuse]

end

/-- R104: an OPEN that is taken. -/
theorem operateOpen_left {f : Fin 8} {s : State} (ha : (s.dev (.fm f)).addr ≠ none) (hst : (s.seq f).state ≠ .lockout)
    (hc : (s.dev (.fm f)).cmd ≠ .toOpen) : let t := (operatorOpen f s).2
    (t.dev (.fm f)).cmd = .toOpen ∧ (t.dev (.fm f)).requester = some .operator ∧ (t.seq f).state = .idleOpen ∧
      (t.seq f).attempts = 0 ∧ (t.seq f).noted = none ∧ (t.seq f).hold = (s.seq f).hold ∧
      (t.seq f).holdAt = (s.seq f).holdAt ∧ t.line = s.line ∧ t.rect = s.rect := by
  obtain ⟨hcmd, hrequester, hseqs, hline, hrect⟩ := operatorAsks_left ha hc
  have hseq : (operatorAsks f s).seq f = s.seq f := by rw [State.seq, hseqs, State.seq]
  obtain ⟨hdevs, ⟨limit, hended⟩, hline', hrect'⟩ := operatorOpen_left ha (by rw [hseq]; exact hst)
  have hdev : (operatorOpen f s).2.dev (.fm f) = (operatorAsks f s).dev (.fm f) := by rw [State.dev, hdevs, State.dev]
  dsimp only
  rw [hdev, hended, hseq]
  exact ⟨hcmd, hrequester, rfl, rfl, rfl, rfl, rfl, hline'.trans hline, hrect'.trans hrect⟩

/-- Settles O49: each request is served on the state after its frame, and one test of the sequence or of FMf's record says
whether it is taken. -/
theorem operatorOnFeeder : Obligations.OperatorOnFeeder := by
  intro src tag f s hm hset g target
  have hgdev (d : Device) : g.dev d = s.dev d := goodFrame_dev d s
  have hgseq : g.seq f = s.seq f := goodFrame_seq f s
  have hgev : g.ev f = s.ev f := goodFrame_ev f s
  have hopen := operateOpen_answered (f := f) hm hset tag
  have hclose := operateClose_answered (f := f) hm hset tag
  have hreset := resetLockout_answered (f := f) hm hset tag
  have hclosable : operatorCloseTaken f g = true ↔
      (s.seq f).state = .idleOpen ∧ (s.seq f).hold = false ∧ inService (s.ev f) = true := by
    rw [operatorCloseTaken_iff, hgseq, hgev]
  have hresets : resetLockoutTaken f g = true ↔ (s.seq f).state = .lockout ∧ (s.dev (.fm f)).pos = .opened := by
    rw [resetLockoutTaken_iff, hgseq, hgdev]
  refine ⟨fun ha => ?unassigned, fun ha hst hc => ?opens, fun h => ?notClosed, fun hst hh hin => ?closes, fun h => ?notReset,
    fun hst hp => ?resets⟩
  case unassigned =>
    have hrefused : operatorOpen f g = (false, g) := operatorOpen_unassigned (by rw [hgdev]; exact ha)
    exact hopen.trans (next_eq (doneOrState_refused (congrArg Prod.fst hrefused) tag))
  case opens =>
    have ha' : (g.dev (.fm f)).addr ≠ none := by rw [hgdev]; exact ha
    have htaken : (operatorOpen f g).1 = true := operatorOpen_taken ha'
    obtain ⟨hcmd, hrequester, hstate, hattempts, hnoted, hhold, hholdAt, hline, hrect⟩ :=
      operateOpen_left (f := f) (s := g) ha' (by rw [hgseq]; exact hst) (by rw [hgdev]; exact hc)
    rw [hgseq] at hhold hholdAt
    refine ⟨_, hopen.trans (next_eq (doneOrState_taken htaken tag)), ?_⟩
    generalize (operatorOpen f g).2 = u at hcmd hrequester hstate hattempts hnoted hhold hholdAt hline hrect
    exact ⟨hcmd, hrequester, hstate, hattempts, hnoted, hhold, hholdAt,
      hline.trans (goodFrame_line s), hrect.trans (goodFrame_rect s)⟩
  case notClosed => exact hclose.trans (next_eq (if_neg (mt hclosable.1 h)))
  case closes => exact hclose.trans (next_eq (if_pos (hclosable.2 ⟨hst, hh, hin⟩)))
  case notReset => exact hreset.trans (next_eq (if_neg (mt hresets.1 h)))
  case resets =>
    obtain ⟨hseq, hdevs, hline, hrect⟩ := resetLockout_left f g
    have hflag (d : Device) : ((resetLockout f g).dev d).flag = _ :=
      (congrArg (fun p : PerDevice DevRecord => (p.get d).flag) hdevs).trans (feederFlagsCleared_flag f d g)
    simp only [hgdev] at hflag
    rw [hgseq, planFor_seq hgseq] at hseq
    refine ⟨_, hreset.trans (next_eq (if_pos (hresets.2 ⟨hst, hp⟩))), ?_⟩
    generalize resetLockout f g = u at hseq hflag hline hrect
    have hkept : (answered src tag .done .none [] u).seq f = u.seq f := rfl
    rw [hkept, hseq]
    exact ⟨rfl, rfl, rfl, rfl, rfl, rfl, hflag, hline.trans (enqueue_line (goodFrame_line s)), hrect.trans (goodFrame_rect s)⟩

end Sys2Proof.Proofs
end
